-- ==== Sys2Proof/Word.lean ====
section
/-! DEFINITION. The plain words and small containers every other file uses: bytes, 32-bit cycle numbers,
the four-valued index (legs, ranges, launch steps), a container of four, and the factory tag. -/

namespace Sys2Proof

/-- A byte of a management frame, of the downstream content or of an upstream burst (R176 to R179). -/
abbrev Byte := BitVec 8

/-- A leg's cycle number: 32 bits, returning to 0 after 4,294,967,295 (R2). -/
abbrev Cycle := BitVec 32

/-- An index 0..3. Legs, receiver ranges and launch steps are all numbered so. -/
inductive Quad where
  | q0 | q1 | q2 | q3
deriving DecidableEq, Repr

/-- A leg number 0..3. -/
abbrev LegId := Quad

/-- A receiver range 0..3, range 0 the most sensitive. -/
abbrev RangeId := Quad

/-- A launch step 0..3, step 0 full power (R16). -/
abbrev LaunchStep := Quad

/-- The number of an index. -/
def Quad.val : Quad → Nat
  | .q0 => 0
  | .q1 => 1
  | .q2 => 2
  | .q3 => 3

/-- The index with a given number, when there is one. -/
def Quad.ofNat? : Nat → Option Quad
  | 0 => some .q0
  | 1 => some .q1
  | 2 => some .q2
  | 3 => some .q3
  | _ => none

/-- The four indices in ascending order. -/
def Quad.all : List Quad := [.q0, .q1, .q2, .q3]

/-- The next index in the order 0, 1, 2, 3, 0. -/
def Quad.next : Quad → Quad
  | .q0 => .q1
  | .q1 => .q2
  | .q2 => .q3
  | .q3 => .q0

/-- One more, saturating at 3. -/
def Quad.up : Quad → Quad
  | .q0 => .q1
  | .q1 => .q2
  | _ => .q3

/-- One less, saturating at 0. -/
def Quad.down : Quad → Quad
  | .q3 => .q2
  | .q2 => .q1
  | _ => .q0

/-- One value for each index 0..3. -/
structure Four (α : Type) where
  l0 : α
  l1 : α
  l2 : α
  l3 : α
deriving DecidableEq, Repr

/-- The value at an index. -/
def Four.get {α : Type} (f : Four α) : Quad → α
  | .q0 => f.l0
  | .q1 => f.l1
  | .q2 => f.l2
  | .q3 => f.l3

/-- The container with the value at one index replaced. -/
def Four.set {α : Type} (f : Four α) (i : Quad) (a : α) : Four α :=
  match i with
  | .q0 => { f with l0 := a }
  | .q1 => { f with l1 := a }
  | .q2 => { f with l2 := a }
  | .q3 => { f with l3 := a }

/-- The same value at every index. -/
def Four.const {α : Type} (a : α) : Four α := ⟨a, a, a, a⟩

/-- The container with each value mapped. -/
def Four.map {α β : Type} (g : α → β) (f : Four α) : Four β := ⟨g f.l0, g f.l1, g f.l2, g f.l3⟩

/-- A terminal's identity: a 4-character maker code and a 32-bit unit number, compared as a whole (R74). -/
structure FactoryTag where
  maker : BitVec 32
  unit  : BitVec 32
deriving DecidableEq, Repr

end Sys2Proof
end

