-- ==== Sys2Proof/Config.lean ====
section
/-! DEFINITION. The constants the spec fixes for every part: the lengths of time and of queues, the request
codes, the thresholds. No value is left to an implementation here. -/

namespace Sys2Proof.Config

/-- Ticks in a cycle (R1). -/
def cycleTicks : Nat := 31250

/-- First position of the dark tail; the placement end of a calendar that has one (R35, R39). -/
def darkTailStart : Nat := 31186

/-- The terminal's response time T_resp in ticks (R13). -/
def responseTicks : Nat := 4000

/-- Ticks of preamble before a delimiter (R12). -/
def preambleTicks : Nat := 32

/-- Length of an echo burst in ticks (R6, R12). -/
def echoLength : Nat := 96

/-- Ticks of an echo slot: burst and guard (R12, R41). -/
def echoSlot : Nat := 112

/-- Ticks a service burst adds to its placed share (R6). -/
def serviceOverhead : Nat := 40

/-- Ticks a service grant takes beyond its placed share, guard included (R45). -/
def serviceGrantExtra : Nat := 56

/-- Guard ticks at the end of a muster window (R12, R35). -/
def windowGuard : Nat := 32

/-- Directives in one downstream cycle at the most (R8). -/
def directivesPerCycle : Nat := 8

/-- Parks a directive queue admits (R48). -/
def maxParks : Nat := 16

/-- Requests in a leg's sample queue (R130). -/
def maxSamples : Nat := 16

/-- Entries of a leg's announce queue (R69). -/
def maxAnnounces : Nat := 8

/-- Entries of the Candidate List (R87). -/
def maxCandidates : Nat := 16

/-- Entries of the Roster Table (R74). -/
def rosterSize : Nat := 256

/-- Drop records of a leg (R96). -/
def dropsPerLeg : Nat := 64

/-- Notices in the notice queue (R171). -/
def maxNotices : Nat := 32

/-- Places of the request input buffer (R167). -/
def bufferPlaces : Nat := 4

/-- Places of the busy list (R167). -/
def busyPlaces : Nat := 40

/-- Cycles of settling (R141). -/
def settleCycles : Nat := 120

/-- Steady cycles of recovery (R143). -/
def recoveryCycles : Nat := 40

/-- Age at which a dark offset becomes invalid (R126). -/
def offsetLife : Nat := 40000

/-- Cycles between the periodic samples of a record in service (R46). -/
def serviceSampleCycles : Int := 4000

/-- Bad service verdicts in a row that end a record (R111). -/
def lapseRun : Nat := 64

/-- Unmeasured good echoes that end levelling (R108). -/
def unmeasuredLimit : Nat := 8

/-- Clean cycles that clear the stray-light latch (R72). -/
def clearRun : Nat := 16

/-- Clean watched cycles that name a culprit (R162). -/
def culpritRun : Nat := 4

/-- Longest quiet hold in cycles (R156). -/
def maxHold : Nat := 1600

/-- Rail level, in millivolts, at or above which a pin or requested reset leaves the rail NORMAL (R144). -/
def railNormalMv : Nat := 3000

/-- Rail level, in millivolts, above which a power or brownout reset may be left (R145). -/
def railLeaveMv : Nat := 3100

/-- The sync byte (R166, R176). -/
def syncByte : Byte := 0x5A#8

/-- Longest payload of a frame (R176). -/
def maxPayload : Nat := 240

/-- The request codes of section 10.7. -/
def requestCodes : List Byte :=
  [0x01#8, 0x02#8, 0x03#8,
   0x10#8, 0x11#8, 0x12#8, 0x13#8, 0x14#8, 0x15#8, 0x16#8, 0x17#8,
   0x20#8, 0x21#8, 0x22#8, 0x23#8, 0x24#8,
   0x30#8, 0x31#8, 0x32#8, 0x33#8, 0x34#8, 0x35#8, 0x38#8, 0x39#8]

end Sys2Proof.Config
end

