-- ==== Sys2Proof/Syntax.lean ====
section
/-! DEFINITION. The commands the part takes: one constructor per row of the opcode table. The part is a block:
a command is a host request completing on the management line, an event of the line, of the supply or of the
reset pin, a tick of the cycle clock, or a judgement of a Burst Receiver or of the converter. A request carries
its frame's tag and payload bytes; an event carries what the part observes at its instant. -/

namespace Sys2Proof

/-- What a Burst Receiver finds in the search span of a granted burst (R58): no intact delimiter, or the first
delimiter, `k` ticks after tick a + 29 (so at a + 32 + (k − 3)) at phase `p`, and the bytes read after it. -/
inductive BurstLook where
  | nothing
  | delimiter (k : Fin 6) (p : Fin 20) (content : List Byte)
deriving DecidableEq, Repr

/-- The two ways a burst in a muster window is GARBLED (R63): a preamble with no intact delimiter, recognized at
a tick counted from D_n, or an announce, named by its delimiter position, whose content fails its CRC. -/
inductive Garble where
  | noDelimiter (tick : Nat)
  | badContent (a : Nat)
deriving DecidableEq, Repr

/-- The commands. Instants and positions are in ticks as the rule of each event counts them. -/
inductive Instr where
  -- host requests (section 10.7): the frame's tag and payload
  | status (tag : Byte) (payload : List Byte)
  | reset (tag : Byte) (payload : List Byte)
  | bias (tag : Byte) (payload : List Byte)
  | setupLeg (tag : Byte) (payload : List Byte)
  | startLeg (tag : Byte) (payload : List Byte)
  | stopLeg (tag : Byte) (payload : List Byte)
  | legMuster (tag : Byte) (payload : List Byte)
  | legRead (tag : Byte) (payload : List Byte)
  | holdLeg (tag : Byte) (payload : List Byte)
  | unholdLeg (tag : Byte) (payload : List Byte)
  | isolateLeg (tag : Byte) (payload : List Byte)
  | rosterPut (tag : Byte) (payload : List Byte)
  | rosterRemove (tag : Byte) (payload : List Byte)
  | rosterRead (tag : Byte) (payload : List Byte)
  | verdict (tag : Byte) (payload : List Byte)
  | candidateRead (tag : Byte) (payload : List Byte)
  | setActivation (tag : Byte) (payload : List Byte)
  | activationRead (tag : Byte) (payload : List Byte)
  | dropSilence (tag : Byte) (payload : List Byte)
  | dropResume (tag : Byte) (payload : List Byte)
  | dropRetire (tag : Byte) (payload : List Byte)
  | dropRead (tag : Byte) (payload : List Byte)
  | calLoad (tag : Byte) (payload : List Byte)
  | calRead (tag : Byte) (payload : List Byte)
  -- other events of the management line
  | unknownRequest (tag code : Byte) (payload : List Byte)
  | lineBusy (tag code : Byte) (payload : List Byte)
  | requestDiscardedResetPending (tag code : Byte) (payload : List Byte)
  | frameDiscarded (bytes : List Byte)
  | replyOrNoticeFrameDropped (control tag code : Byte) (payload : List Byte)
  | frameTimeout
  | frameTransmitted (railMv : Nat)
  | characterReceived (byte : Byte)
  -- the reset pin and the supply rail
  | resetPinAsserted
  | powerApplied
  | leaveReset (pinReleased : Bool) (railMv : Nat)
  | railSag
  | railRecovery
  | brownout
  -- the cycle clock and what falls due at its boundaries
  | cycleBoundary
  | offsetFieldExpiry (leg : LegId) (drop : Nat)
  | launchFieldExpiry (leg : LegId) (drop : Nat)
  | darkOffsetExpiry (leg : LegId) (range : RangeId)
  | candidateLapsed (tag : FactoryTag)
  | holdExpiry (leg : LegId)
  | settleComplete
  | recoveryComplete
  -- the Burst Receivers
  | grantedBurstVerdict (leg : LegId) (look : BurstLook)
  | announceDelimiterFound (leg : LegId) (a : Nat) (p : Fin 20) (light : BitVec 48) (rivals : List LegId)
  | garbled (leg : LegId) (what : Garble)
  | announceJudgementComplete (leg : LegId) (a : Nat) (content : List Byte)
  | windowScanEnd (leg : LegId)
  | calendarClose (leg : LegId) (lit : List (Nat × Nat))
  -- the converter of the Level Meter
  | sampleIntegrationStart (leg : LegId)
  | sampleResult (code : BitVec 12)
  | calibrationInstant
  | calibrationResult (code : BitVec 12) (light : BitVec 32)
deriving DecidableEq, Repr

end Sys2Proof
end

