-- ==== Sys2Proof/Decode.lean ====
section
/-! DEFINITION. The command a word of the opcode table spells. The table gives no row any bits: a command reaches
the part as a frame's characters or as an event, never as an instruction word. So no word spells a command. The
frames are read in Machine/Formats.lean and Machine/Operands.lean. -/

namespace Sys2Proof

/-- The command spelled by a word: none, for the table gives no row any bits. -/
def decodeTableWord (_nbits _w : Nat) : Option Instr := none

end Sys2Proof
end

