-- ==== Sys2Proof/Machine/State.lean ====
section
/-! DEFINITION. The state of the part as plain data, block by block, its value right after a power reset, and the
reasons a step can stop. A field marked "the model's own" is not the spec's: the log entry named beside it says
why it is there. -/

namespace Sys2Proof.Machine

/-! ## Attributes and small enumerations -/

/-- A set of the seven screenable attributes (R67). -/
structure AttrSet where
  outOfBand  : Bool
  unsampled  : Bool
  overRange  : Bool
  underRange : Bool
  weak       : Bool
  strong     : Bool
  crowded    : Bool
deriving DecidableEq, Repr

/-- The empty set of attributes. -/
def AttrSet.empty : AttrSet := ⟨false, false, false, false, false, false, false⟩

/-- The four level attributes of a power result (R135). -/
structure LevelAttrs where
  overRange  : Bool
  underRange : Bool
  weak   : Bool
  strong : Bool
deriving DecidableEq, Repr

/-- The levelling flags of a drop record (R96). -/
structure LevelFlags where
  fault   : Bool
  unknown : Bool
  drift   : Bool
deriving DecidableEq, Repr

/-- The reset causes, in the order of R174. -/
inductive ResetCause where
  | power | brownout | pin | request
deriving DecidableEq, Repr

/-- The reply codes of R169. -/
inductive ReplyCode where
  | done | malformed | unknownRequest | outOfRange | wrongState | notFound | noRoom | lineBusy
deriving DecidableEq, Repr

/-- The bias states of R139. -/
inductive BiasState where
  | off | settling | ready | tripped
deriving DecidableEq, Repr

/-- The causes of a BIAS-STATE notice, in the order of R139. -/
inductive BiasCause where
  | sag | settled | recovered
deriving DecidableEq, Repr

/-- The rail states of R144. -/
inductive RailState where
  | normal | sag
deriving DecidableEq, Repr

/-- The leg states of R148. -/
inductive LegState where
  | stopped | blind | running
deriving DecidableEq, Repr

/-- What a leg does with an announce from a tag that no roster entry holds (R86, R149). -/
inductive UnknownPolicy where
  | hold | discard
deriving DecidableEq, Repr

/-- The states of a drop record that is not FREE (R96). A FREE record holds nothing and is not listed. -/
inductive DropState where
  | enrolling | levelling | soak | inService | silenced
deriving DecidableEq, Repr

/-- The reasons of DROP-ENDED, in the order of R98 and R119. -/
inductive EndReason where
  | noAnswer | soakFailed | lapsed | driftFault | superseded | retired | stopped
deriving DecidableEq, Repr

/-- The causes of HOLD-ENDED, in the order of R158. -/
inductive HoldCause where
  | expired | released | stopped
deriving DecidableEq, Repr

/-- The outcomes of an isolation run, in the order of R162. -/
inductive RunOutcome where
  | culprit | none | aborted
deriving DecidableEq, Repr

/-- The phases of an isolation turn, in the order of R155. -/
inductive TurnPhase where
  | silenceQueued | wait | watch
deriving DecidableEq, Repr

/-- The class of a cycle at the close of its calendar (R71). -/
inductive CycleClass where
  | neutral | stray | clean
deriving DecidableEq, Repr

/-- The reasons for which an announce is held (R86, R87). -/
inductive HeldReason where
  | unknown | crossed | duplicate | fullLeg
deriving DecidableEq, Repr

/-- The leg on which a roster entry's terminal is expected (R74). -/
inductive ExpectedLeg where
  | leg (l : LegId)
  | any
deriving DecidableEq, Repr

/-- The states of a roster entry, in the order of R74. -/
inductive RosterState where
  | expected | active | barred
deriving DecidableEq, Repr

/-- The kinds of a grant and of its burst (R6). -/
inductive BurstKind where
  | service | echo
deriving DecidableEq, Repr

/-- The verdicts of R61. -/
inductive BurstVerdict where
  | unjudged | missing | corrupt | driftFault | good
deriving DecidableEq, Repr

/-- An offset field or a launch field: absent, PENDING, or the cycle of the directive's transmission (R30, R103). -/
inductive InFlight where
  | absent
  | pending
  | cycle (c : Cycle)
deriving DecidableEq, Repr

/-! ## Identities, directives and calendars -/

/-- An allocation identity (R97). -/
structure Identity where
  drop  : Nat
  cycle : Cycle
  count : BitVec 32
deriving DecidableEq, Repr

/-- The directives of R9. -/
inductive Directive where
  | enrol (tag : FactoryTag) (drop : Nat) (e : Nat) (launch : LaunchStep)
  | offset (drop : Nat) (e : Nat)
  | launch (drop : Nat) (launch : LaunchStep)
  | silence (drop : Nat)
  | resume (drop : Nat)
  | release (drop : Nat)
  | releaseAll
  | park (tag : FactoryTag)
deriving DecidableEq, Repr

/-- A follow-on set (R48). -/
structure FollowOn where
  offset  : Bool
  launch  : Bool
  silence : Bool
deriving DecidableEq, Repr

/-- The empty follow-on set. -/
def FollowOn.empty : FollowOn := ⟨false, false, false⟩

/-- An entry of a directive queue; `ident` is present on a drop-numbered entry (R48). -/
structure QueueEntry where
  dir    : Directive
  ident  : Option Identity
  follow : FollowOn
deriving DecidableEq, Repr

/-- An echo grant of a calendar (R34). -/
structure EchoGrant where
  drop     : Nat
  position : Nat
  sequence : Byte
deriving DecidableEq, Repr

/-- A service grant of a calendar (R34). -/
structure ServiceGrant where
  drop     : Nat
  position : Nat
  share    : Nat
deriving DecidableEq, Repr

/-- A calendar (R34). `marker` is the instant D_n on the model's clock and `closed` says that its arrival interval
has fully arrived (both the model's own, log 4); `hold` says that it was built as a hold cycle (R157, R71). -/
structure Calendar where
  cycle    : Cycle
  marker   : Nat
  spill    : Option Nat
  window   : Option Nat
  echoes   : List EchoGrant
  services : List ServiceGrant
  scaled   : Bool
  darkTail : Bool
  hold     : Bool
  closed   : Bool
deriving DecidableEq, Repr

/-- An entry of a grant list (R6). -/
structure GrantEntry where
  drop     : Nat
  kind     : BurstKind
  position : Nat
  length   : Nat
  sequence : Byte
deriving DecidableEq, Repr

/-- The content of one downstream cycle (R5). -/
structure Downstream where
  cycle      : Cycle
  grants     : List GrantEntry
  muster     : Option Nat
  directives : List Directive
deriving DecidableEq, Repr

/-! ## The Level Meter -/

/-- A power outcome (R101): "unmeasured", or a value in tenths of a dBm with its level attributes. -/
inductive PowerOutcome where
  | unmeasured
  | result (v : Int) (attrs : LevelAttrs)
deriving DecidableEq, Repr

/-- An entry of a drop record's measurement list, with its two slots (R101). -/
structure Measure where
  cycle   : Cycle
  kind    : BurstKind
  verdict : Option BurstVerdict
  outcome : Option PowerOutcome
deriving DecidableEq, Repr

/-- A queued sample request (R130); `start` is its integration start on the model's clock. -/
structure SampleRequest where
  ident : Identity
  cycle : Cycle
  kind  : BurstKind
  range : RangeId
  start : Nat
deriving DecidableEq, Repr

/-- What a sample in hand serves: a queued request, or the announce found at delimiter position `a`. -/
inductive SampleTarget where
  | drop (r : SampleRequest)
  | announce (a : Nat)
deriving DecidableEq, Repr

/-- The converter with the operation in hand, its integration start and, for a sample, the captured offset (R123). -/
inductive Converter where
  | idle
  | sampling (leg : LegId) (target : SampleTarget) (range : RangeId) (start : Nat) (offset : Nat)
  | calibrating (leg : LegId) (range : RangeId) (start : Nat)
deriving DecidableEq, Repr

/-- A dark offset entry (R126). -/
structure OffsetEntry where
  code  : Option Nat
  valid : Bool
  age   : Nat
deriving DecidableEq, Repr

/-- An entry of a want list: a range, waiting or scheduled (R127). -/
structure Want where
  range     : RangeId
  scheduled : Bool
deriving DecidableEq, Repr

/-- A scheduled calibration (R128). -/
structure Scheduled where
  leg   : LegId
  range : RangeId
  instant : Nat
deriving DecidableEq, Repr

/-- The forms of a claim on the converter, in the arbiter's order (R125). -/
inductive ClaimForm where
  | queued | calibration | announce
deriving DecidableEq, Repr

/-- The arbiter's latest decision: the instant, and the claim that won it (the model's own, log 9). -/
structure Decision where
  instant : Nat
  form    : ClaimForm
  leg     : LegId
deriving DecidableEq, Repr

/-- The Level Meter (R123). -/
structure Meter where
  converter : Converter
  offsets   : Four (Four OffsetEntry)
  wants     : Four (List Want)
  scheduled : List Scheduled
  queues    : Four (List SampleRequest)
  tiePtr    : LegId
  calPtr    : LegId
  tables    : Four (List Int)
  decided   : Option Decision
deriving DecidableEq, Repr

/-! ## The Burst Receiver -/

/-- An expectation (R56). `arrives` is the arrival instant of the grant's position on the model's clock (log 4). -/
structure Expectation where
  ident    : Identity
  kind     : BurstKind
  cycle    : Cycle
  position : Nat
  length   : Nat
  sequence : Byte
  arrives  : Nat
deriving DecidableEq, Repr

/-- The power sample of an announce in judgement (R66): awaited, not taken, abandoned as the bias left READY (R133),
or returned. -/
inductive AnnounceSample where
  | awaited
  | lost
  | abandoned
  | returned (v : Int) (attrs : LevelAttrs)
deriving DecidableEq, Repr

/-- An announce whose judgement is not complete: its delimiter position and phase, whether it is CROWDED, its sample,
and whether its content has ended while the sample was in flight (R57, R63, R65, R66, R67). -/
structure AnnounceInHand where
  a       : Nat
  p       : Fin 20
  crowded : Bool
  sample  : AnnounceSample
  ended   : Bool
deriving DecidableEq, Repr

/-- A window scan (R56): the muster cycle, its marker instant, the hunt position in ticks from D_n, and the
announces whose judgement is not complete. -/
structure WindowScan where
  cycle  : Cycle
  marker : Nat
  hunt   : Nat
  found  : List AnnounceInHand
deriving DecidableEq, Repr

/-- An entry of the announce queue (R69). -/
structure Announce where
  cycle   : Cycle
  tag     : FactoryTag
  holdoff : Nat
  launch  : LaunchStep
  a       : Nat
  p       : Fin 20
  r       : Nat
  power   : Option Int
  vector  : AttrSet
deriving DecidableEq, Repr

/-- A Burst Receiver (R56). -/
structure Receiver where
  inHand       : List Calendar
  expectations : List Expectation
  scan         : Option WindowScan
  announces    : List Announce
  latch        : Bool
  cleanCount   : Nat
  lightHistory : BitVec 48
deriving DecidableEq, Repr

/-! ## The Leg Controller -/

/-- The leg setup (R18, R149). -/
structure Setup where
  near          : Nat
  far           : Nat
  zEntered      : Nat
  trim          : Nat
  interval      : Nat
  maxEchoes     : Nat
  mask          : AttrSet
  matchSet          : AttrSet
  announceRange : RangeId
  policy        : UnknownPolicy
  musterOn      : Bool
deriving DecidableEq, Repr

/-- The effective target and the derived values of a reach setup (R18 to R20). -/
structure Derived where
  z     : Nat
  omega : Nat
  span  : Nat
  w     : Nat
  am    : Nat
deriving DecidableEq, Repr

/-- A quiet hold in effect (R155, R156). -/
structure Hold where
  length : Nat
  first  : Option Cycle
  built  : Nat
deriving DecidableEq, Repr

/-- An isolation run (R155, R160, R161): the turn list, the position of the current turn, the turns begun, and
the current turn's phase, Silence cycle and clean watched cycles. -/
structure IsolationRun where
  list    : List Identity
  pos     : Nat
  begun   : Nat
  phase   : TurnPhase
  silence : Option Cycle
  clean   : Nat
deriving DecidableEq, Repr

/-- A drop record that is not FREE (R96). -/
structure DropRecord where
  state       : DropState
  ident       : Identity
  tag         : FactoryTag
  rosterIndex : Nat
  plot        : Nat
  share       : Nat
  r           : Nat
  e           : Nat
  offsetField : InFlight
  launch      : LaunchStep
  launchField : InFlight
  hint        : RangeId
  lastPower   : Option Int
  flags       : LevelFlags
  vector      : AttrSet
  reported    : Option (LaunchStep × Int)
  attempts    : Nat
  echoes      : Nat
  adjustments : Nat
  unmeasured  : Nat
  streak      : Nat
  misses      : Nat
  echoDue     : Option Cycle
  echoSeq     : Byte
  silentRun   : Nat
  lastDrift   : Int
  resumeTo    : Option DropState
  isolated    : Bool
  lastSample  : Option Cycle
  enrolTx     : Option Cycle
  silenceTx   : Option Cycle
  resumeTx    : Option Cycle
  measures    : List Measure
deriving DecidableEq, Repr

/-- A leg: its Leg Controller (R148, R149, R2, R37, R48, R96), the content its transmitter is sending (R5) and its
Burst Receiver (R56). `drops` lists the 64 drop records by drop number, `none` for a FREE one. `ahead` says that
the leg has already begun the cycle of the coming boundary (the model's own, log 3). -/
structure Leg where
  state         : LegState
  startPending  : Bool
  finalPending  : Bool
  count         : Cycle
  setup         : Setup
  derived       : Derived
  musterCounter : BitVec 32
  lastMuster    : Option Cycle
  hold          : Option Hold
  run           : Option IsolationRun
  drops         : List (Option DropRecord)
  allocCount    : BitVec 32
  queue         : List QueueEntry
  calendar      : Option Calendar
  downstream    : Option Downstream
  receiver      : Receiver
  ahead         : Bool
deriving DecidableEq, Repr

/-! ## The Roster Table and the Candidate List -/

/-- A roster entry in use (R74). -/
structure RosterEntry where
  tag       : FactoryTag
  plot      : Nat
  expected  : ExpectedLeg
  share     : Nat
  state     : RosterState
  link      : Option (LegId × Nat)
  lastHeard : Option (LegId × Cycle)
deriving DecidableEq, Repr

/-- A candidate entry (R87). -/
structure Candidate where
  tag         : FactoryTag
  leg         : LegId
  reason      : HeldReason
  r           : Nat
  power       : Option Int
  vector      : AttrSet
  launch      : LaunchStep
  rosterIndex : Option Nat
  firstHeard  : Cycle
  lastHeard   : Cycle
deriving DecidableEq, Repr

/-! ## The Management Line Interface -/

/-- The notices of section 10.7, each with the values its rule names. -/
inductive Notice where
  | ready (cause : ResetCause)
  | legState (leg : LegId) (state : LegState) (count : Cycle)
  | candidateHeld (tag : FactoryTag) (leg : LegId) (reason : HeldReason) (r : Nat) (power : Option Int)
      (vector : AttrSet) (launch : LaunchStep) (index : Option Nat) (firstHeard : Cycle)
  | candidateLapsed (tag : FactoryTag) (leg : LegId) (reason : HeldReason) (lastHeard : Cycle)
  | dropLive (leg : LegId) (drop : Nat) (tag : FactoryTag) (plot index r : Nat) (power : Option Int)
      (launch : LaunchStep) (flags : LevelFlags) (count : Cycle)
  | dropEnded (leg : LegId) (drop : Nat) (tag : FactoryTag) (plot index : Nat) (reason : EndReason)
      (state : DropState) (attempts misses : Nat) (count : Cycle)
  | holdBegun (leg : LegId) (first : Cycle) (length : Nat)
  | holdEnded (leg : LegId) (cause : HoldCause) (built : Nat) (count : Cycle)
  | strayOnset (leg : LegId) (cycle : Cycle)
  | strayCleared (leg : LegId) (cycle : Cycle)
  | isolationDone (leg : LegId) (outcome : RunOutcome) (drop : Option Nat) (tag : Option FactoryTag)
      (begun : Nat) (count : Cycle)
  | biasState (new previous : BiasState) (cause : BiasCause)
  | railSag (bias : BiasState)
deriving DecidableEq, Repr

/-- A reply formed and not yet begun: the tag and code of its request, its reply code and the payload bytes after
the request code (R169). -/
structure Reply where
  tag     : Byte
  request : Byte
  code    : ReplyCode
  values  : List Byte
deriving DecidableEq, Repr

/-- A request frame by its tag and code: a place of the input buffer, or an entry of the busy list (R167). -/
structure FrameId where
  tag  : Byte
  code : Byte
deriving DecidableEq, Repr

/-- A frame the line out carries (R170). -/
inductive FrameOut where
  | busyReply (f : FrameId)
  | reply (r : Reply)
  | notice (n : Notice)
deriving DecidableEq, Repr

/-- The frame in transmission, with its notices-lost flag (R171). -/
structure Sending where
  frame : FrameOut
  lost  : Bool
deriving DecidableEq, Repr

/-- The Management Line Interface. `rx` is `none` while HUNTING and holds the bytes after the sync while IN FRAME
(R166). -/
structure Interface where
  rx           : Option (List Byte)
  buffer       : List FrameId
  busy         : List FrameId
  replies      : List Reply
  notices      : List Notice
  lost         : Bool
  lineOut      : Option Sending
  resetPending : Bool
  cause        : ResetCause
deriving DecidableEq, Repr

/-! ## Bias Supply, Rail Monitor, activation parameters, reset -/

/-- The Bias Supply (R139). `readySince` is the instant of the latest entry to READY on the model's clock, and
`ahead` says that it has already taken the coming boundary (the model's own, log 3 and 4). -/
structure Bias where
  state      : BiasState
  settle     : Nat
  recovery   : Nat
  readySince : Nat
  ahead      : Bool
deriving DecidableEq, Repr

/-- The Rail Monitor (R144). `sagSeen` says that the rail was SAG at an instant since the previous boundary (R143). -/
structure Rail where
  state   : RailState
  latch   : Bool
  sagSeen : Bool
deriving DecidableEq, Repr

/-- The activation parameters (R120). -/
structure Activation where
  streak   : Nat
  interval : Nat
  missLim  : Nat
  floor    : Int
  ceiling  : Int
  timeout  : Nat
deriving DecidableEq, Repr

/-- A reset in progress (R174): the cause to be recorded, whether the pin is held, and whether a power or brownout
reset still waits for the rail to rise above 3.10 V. -/
structure HeldReset where
  cause    : ResetCause
  pinHeld  : Bool
  railWait : Bool
deriving DecidableEq, Repr

/-- The state of the part. `boundaries` counts the boundaries of the cycle clock since the part left reset, so the
latest stands at 31,250 × `boundaries` ticks (the model's own clock, log 4); `pending` is the queue of commands
that wait. -/
structure State where
  iface      : Interface
  roster     : List (Option RosterEntry)
  candidates : List Candidate
  legs       : Four Leg
  meter      : Meter
  bias       : Bias
  rail       : Rail
  params     : Activation
  boundaries : Nat
  inReset    : Option HeldReset
  pending    : List Instr
deriving DecidableEq, Repr

/-- The reasons a step could stop with a fault: there are none. No command of this part stops it. -/
inductive Fault where
deriving DecidableEq, Repr

/-- The reasons a step can refuse a command. -/
inductive Refusal where
  /-- Raised by exec's arm of a command that has no meaning yet; safe, for the model then goes no further. No arm
  raises it. -/
  | notModelled (mnemonic : String)
deriving DecidableEq, Repr

/-! ## The values after a power reset -/

/-- The setup of a leg after a power, brownout or pin reset (R149). -/
def Setup.reset : Setup :=
  { near := 0, far := 40, zEntered := 0, trim := 0, interval := 400, maxEchoes := 8,
    mask := AttrSet.empty, matchSet := AttrSet.empty, announceRange := .q2, policy := .hold, musterOn := true }

/-- The derived values of that setup (R18). -/
def Derived.reset : Derived := { z := 100000, omega := 9000, span := 5000, w := 7176, am := 5000 }

/-- A receiver after a reset (R56). -/
def Receiver.reset : Receiver :=
  { inHand := [], expectations := [], scan := none, announces := [], latch := false, cleanCount := 0,
    lightHistory := 0#48 }

/-- A leg after a power, brownout or pin reset (R2, R34, R37, R48, R96, R148, R149). -/
def Leg.reset : Leg :=
  { state := .stopped, startPending := false, finalPending := false, count := 0#32,
    setup := Setup.reset, derived := Derived.reset, musterCounter := 0#32, lastMuster := none,
    hold := none, run := none, drops := List.replicate Config.dropsPerLeg none, allocCount := 0#32,
    queue := [], calendar := none, downstream := none, receiver := Receiver.reset, ahead := false }

/-- An invalid dark offset entry (R126). -/
def OffsetEntry.invalid : OffsetEntry := { code := none, valid := false, age := 0 }

/-- The default calibration table whose top point is `top` (R136). -/
def defaultTable (top : Int) : List Int :=
  [top - 130, top - 90, top - 60, top - 43, top - 30, top - 20, top - 13, top - 6, top]

/-- The default calibration tables of the four ranges (R136). -/
def defaultTables : Four (List Int) :=
  ⟨defaultTable (-300), defaultTable (-230), defaultTable (-160), defaultTable (-90)⟩

/-- The Level Meter after a power, brownout or pin reset (R123, R136). -/
def Meter.reset : Meter :=
  { converter := .idle, offsets := Four.const (Four.const OffsetEntry.invalid), wants := Four.const [],
    scheduled := [], queues := Four.const [], tiePtr := .q0, calPtr := .q0, tables := defaultTables,
    decided := none }

/-- The interface after a reset, before its READY notice is placed (R175). -/
def Interface.reset : Interface :=
  { rx := none, buffer := [], busy := [], replies := [], notices := [], lost := false, lineOut := none,
    resetPending := false, cause := .power }

/-- The Bias Supply after a reset (R139). -/
def Bias.reset : Bias := { state := .off, settle := 0, recovery := 0, readySince := 0, ahead := false }

/-- The Rail Monitor after a power reset (R144). -/
def Rail.reset : Rail := { state := .normal, latch := false, sagSeen := false }

/-- The default activation parameters (R120). -/
def Activation.reset : Activation :=
  { streak := 16, interval := 4, missLim := 4, floor := -280, ceiling := -100, timeout := 8000 }

/-- The blocks at their values after a power reset, with nothing placed on the line out. -/
def State.blocks : State :=
  { iface := Interface.reset, roster := List.replicate Config.rosterSize none, candidates := [],
    legs := Four.const Leg.reset, meter := Meter.reset, bias := Bias.reset, rail := Rail.reset,
    params := Activation.reset, boundaries := 0, inReset := none, pending := [] }

/-- The part as it leaves a power reset (R174, R175): every block at its reset value, and the READY notice, placed
on an idle line, in transmission. -/
def State.reset : State :=
  { State.blocks with
    iface := { Interface.reset with lineOut := some { frame := .notice (.ready .power), lost := false } } }

end Sys2Proof.Machine
end

