-- ==== Sys2Proof/Machine/Formats.lean ====
section
/-! DEFINITION. The layouts of Chapter 11: numbers as bytes, the CRC, the management frame and its notices, the
downstream content of a cycle, and the content of announce, echo and service bursts. -/

namespace Sys2Proof.Machine

/-! ## Numbers as bytes, high byte first -/

/-- One byte of a number. -/
def u8 (n : Nat) : List Byte := [BitVec.ofNat 8 n]

/-- Two bytes of a number. -/
def u16 (n : Nat) : List Byte := [BitVec.ofNat 8 (n / 256), BitVec.ofNat 8 n]

/-- Three bytes of a number. -/
def u24 (n : Nat) : List Byte := [BitVec.ofNat 8 (n / 65536), BitVec.ofNat 8 (n / 256), BitVec.ofNat 8 n]

/-- Four bytes of a number. -/
def u32 (n : Nat) : List Byte :=
  [BitVec.ofNat 8 (n / 16777216), BitVec.ofNat 8 (n / 65536), BitVec.ofNat 8 (n / 256), BitVec.ofNat 8 n]

/-- A signed number in two bytes, two's complement. -/
def i16 (x : Int) : List Byte := u16 (BitVec.ofInt 16 x).toNat

/-- The number two bytes hold. -/
def num16 (hi lo : Byte) : Nat := hi.toNat * 256 + lo.toNat

/-- The number four bytes hold. -/
def num32 (b3 b2 b1 b0 : Byte) : Nat := num16 b3 b2 * 65536 + num16 b1 b0

/-- The signed number two bytes hold. -/
def signed16 (hi lo : Byte) : Int := (hi ++ lo : BitVec 16).toInt

/-! ## The CRC (R165 and the conventions of Chapter 11) -/

/-- The register after one bit: generator x^16 + x^12 + x^5 + 1. -/
def crcBit (r : BitVec 16) (b : Bool) : BitVec 16 :=
  if r.msb != b then (r <<< 1) ^^^ 0x1021#16 else r <<< 1

/-- The register after one byte, most significant bit first. -/
def crcByte (r : BitVec 16) (b : Byte) : BitVec 16 :=
  [7, 6, 5, 4, 3, 2, 1, 0].foldl (fun r i => crcBit r (b.getLsbD i)) r

/-- The CRC of a sequence of bytes: the register starts at 0xFFFF and is not inverted at the end. -/
def crc16 (bs : List Byte) : BitVec 16 := bs.foldl crcByte 0xFFFF#16

/-- The CRC's two bytes, high byte first. -/
def crcBytes (bs : List Byte) : List Byte := [(crc16 bs).extractLsb' 8 8, (crc16 bs).extractLsb' 0 8]

/-! ## Field codings (R177) -/

/-- The eight bytes of a factory tag. -/
def tagBytes (t : FactoryTag) : List Byte :=
  [t.maker.extractLsb' 24 8, t.maker.extractLsb' 16 8, t.maker.extractLsb' 8 8, t.maker.extractLsb' 0 8,
   t.unit.extractLsb' 24 8, t.unit.extractLsb' 16 8, t.unit.extractLsb' 8 8, t.unit.extractLsb' 0 8]

/-- The factory tag that eight bytes carry. -/
def tagOf (m3 m2 m1 m0 n3 n2 n1 n0 : Byte) : FactoryTag :=
  { maker := m3 ++ m2 ++ m1 ++ m0, unit := n3 ++ n2 ++ n1 ++ n0 }

/-- A factory tag, or eight bytes of 0 when absent. -/
def optTagBytes : Option FactoryTag → List Byte
  | some t => tagBytes t
  | none => List.replicate 8 0#8

/-- A flag, or a choice of two. -/
def flagByte (b : Bool) : List Byte := u8 (if b then 1 else 0)

/-- A leg number. -/
def legByte (l : LegId) : List Byte := u8 l.val

/-- A leg number, 0xFE when absent. -/
def optLegByte : Option LegId → List Byte
  | some l => legByte l
  | none => [0xFE#8]

/-- An expected leg, 0xFF for ANY. -/
def expectedByte : ExpectedLeg → List Byte
  | .leg l => legByte l
  | .any => [0xFF#8]

/-- A number in one byte, 0xFF when absent: drop numbers and named values. -/
def optByte : Option Nat → List Byte
  | some n => u8 n
  | none => [0xFF#8]

/-- A roster index, 0xFFFF when absent. -/
def optIndexBytes : Option Nat → List Byte
  | some n => u16 n
  | none => [0xFF#8, 0xFF#8]

/-- A power, 0x8000 when absent. -/
def optPowerBytes : Option Int → List Byte
  | some v => i16 v
  | none => [0x80#8, 0x00#8]

/-- A cycle number. -/
def cycleBytes (c : Cycle) : List Byte := u32 c.toNat

/-- An optional cycle: 0 absent, 2 a cycle. -/
def optCycleBytes : Option Cycle → List Byte
  | some c => 2#8 :: cycleBytes c
  | none => [0#8, 0#8, 0#8, 0#8, 0#8]

/-- An offset or launch field as an optional cycle: 0 absent, 1 PENDING, 2 a cycle. -/
def inFlightBytes : InFlight → List Byte
  | .absent => [0#8, 0#8, 0#8, 0#8, 0#8]
  | .pending => [1#8, 0#8, 0#8, 0#8, 0#8]
  | .cycle c => 2#8 :: cycleBytes c

/-- The distance floor(R / 25) in metres (R24). -/
def distanceBytes (r : Nat) : List Byte := u16 (r / 25)

/-- Numbers of bits set, as a byte with bit i the i-th flag. -/
def bitsByte (bs : List Bool) : List Byte :=
  u8 (bs.foldr (fun b acc => (if b then 1 else 0) + 2 * acc) 0)

/-- A set of screenable attributes. -/
def attrByte (a : AttrSet) : List Byte :=
  bitsByte [a.outOfBand, a.unsampled, a.overRange, a.underRange, a.weak, a.strong, a.crowded]

/-- The set of screenable attributes a byte carries; `none` when bit 7 is set. -/
def attrOf (b : Byte) : Option AttrSet :=
  if b.getLsbD 7 then none
  else some ⟨b.getLsbD 0, b.getLsbD 1, b.getLsbD 2, b.getLsbD 3, b.getLsbD 4, b.getLsbD 5, b.getLsbD 6⟩

/-- A levelling flag set. -/
def flagsByte (f : LevelFlags) : List Byte := bitsByte [f.fault, f.unknown, f.drift]

/-- The choice a byte carries; `none` unless it is 0 or 1. -/
def choiceOf (b : Byte) : Option Bool :=
  if b = 0#8 then some false else if b = 1#8 then some true else none

/-- Positions of named values in their lists. -/
def causeNo : ResetCause → Nat
  | .power => 0 | .brownout => 1 | .pin => 2 | .request => 3
def biasNo : BiasState → Nat
  | .off => 0 | .settling => 1 | .ready => 2 | .tripped => 3
def biasCauseNo : BiasCause → Nat
  | .sag => 0 | .settled => 1 | .recovered => 2
def railNo : RailState → Nat
  | .normal => 0 | .sag => 1
def legStateNo : LegState → Nat
  | .stopped => 0 | .blind => 1 | .running => 2
def policyNo : UnknownPolicy → Nat
  | .hold => 0 | .discard => 1
def dropStateNo : DropState → Nat
  | .enrolling => 1 | .levelling => 2 | .soak => 3 | .inService => 4 | .silenced => 5
def endReasonNo : EndReason → Nat
  | .noAnswer => 0 | .soakFailed => 1 | .lapsed => 2 | .driftFault => 3 | .superseded => 4 | .retired => 5
  | .stopped => 6
def holdCauseNo : HoldCause → Nat
  | .expired => 0 | .released => 1 | .stopped => 2
def runOutcomeNo : RunOutcome → Nat
  | .culprit => 0 | .none => 1 | .aborted => 2
def phaseNo : TurnPhase → Nat
  | .silenceQueued => 0 | .wait => 1 | .watch => 2

/-- The number of a candidate's reason, in R87's order; R86's table lists the reasons in another (DESIGN CHOICE, log 27). -/
def heldReasonNo : HeldReason → Nat
  | .unknown => 0 | .crossed => 1 | .duplicate => 2 | .fullLeg => 3

/-- The number of a roster entry's state (R74). -/
def rosterStateNo : RosterState → Nat
  | .expected => 0 | .active => 1 | .barred => 2

/-- The reply codes of section 10.7. -/
def replyCodeByte : ReplyCode → Byte
  | .done => 0x80#8
  | .malformed => 0x81#8
  | .unknownRequest => 0x82#8
  | .outOfRange => 0x83#8
  | .wrongState => 0x84#8
  | .notFound => 0x85#8
  | .noRoom => 0x86#8
  | .lineBusy => 0x87#8

/-! ## Notices (section 10.7 and the rules that place them) -/

/-- The code of a notice. -/
def noticeCode : Notice → Byte
  | .ready _ => 0xC0#8
  | .legState .. => 0xC1#8
  | .candidateHeld .. => 0xC2#8
  | .candidateLapsed .. => 0xC3#8
  | .dropLive .. => 0xC4#8
  | .dropEnded .. => 0xC5#8
  | .holdBegun .. => 0xC6#8
  | .holdEnded .. => 0xC7#8
  | .strayOnset .. => 0xC8#8
  | .strayCleared .. => 0xC9#8
  | .isolationDone .. => 0xCA#8
  | .biasState .. => 0xCB#8
  | .railSag _ => 0xCC#8

/-- The payload of a notice: the values its rule names, in that rule's order. HOLD-BEGUN's first hold cycle is never
absent and is sent in 4 bytes (DEDUCED, log 13). -/
def noticePayload : Notice → List Byte
  | .ready cause => u8 (causeNo cause)
  | .legState leg state count => legByte leg ++ u8 (legStateNo state) ++ cycleBytes count
  | .candidateHeld tag leg reason r power vector launch index firstHeard =>
      tagBytes tag ++ legByte leg ++ u8 (heldReasonNo reason) ++ distanceBytes r ++ optPowerBytes power
        ++ attrByte vector ++ u8 launch.val ++ optIndexBytes index ++ cycleBytes firstHeard
  | .candidateLapsed tag leg reason lastHeard =>
      tagBytes tag ++ legByte leg ++ u8 (heldReasonNo reason) ++ cycleBytes lastHeard
  | .dropLive leg drop tag plot index r power launch flags count =>
      legByte leg ++ u8 drop ++ tagBytes tag ++ u16 plot ++ u16 index ++ distanceBytes r ++ optPowerBytes power
        ++ u8 launch.val ++ flagsByte flags ++ cycleBytes count
  | .dropEnded leg drop tag plot index reason state attempts misses count =>
      legByte leg ++ u8 drop ++ tagBytes tag ++ u16 plot ++ u16 index ++ u8 (endReasonNo reason)
        ++ u8 (dropStateNo state) ++ u8 attempts ++ u8 misses ++ cycleBytes count
  | .holdBegun leg first length => legByte leg ++ cycleBytes first ++ u16 length
  | .holdEnded leg cause built count =>
      legByte leg ++ u8 (holdCauseNo cause) ++ u16 built ++ cycleBytes count
  | .strayOnset leg cycle => legByte leg ++ cycleBytes cycle
  | .strayCleared leg cycle => legByte leg ++ cycleBytes cycle
  | .isolationDone leg outcome drop tag begun count =>
      legByte leg ++ u8 (runOutcomeNo outcome) ++ optByte drop ++ optTagBytes tag ++ u8 begun ++ cycleBytes count
  | .biasState new previous cause => u8 (biasNo new) ++ u8 (biasNo previous) ++ u8 (biasCauseNo cause)
  | .railSag bias => u8 (biasNo bias)

/-! ## The management frame (R176) -/

/-- The frame kinds in bits 1..0 of the control byte. -/
def kindRequest : Byte := 1#8
def kindReply : Byte := 2#8
def kindNotice : Byte := 3#8

/-- The bytes the CRC of a frame covers: control, tag, code, length and payload. -/
def frameBody (control tag code : Byte) (payload : List Byte) : List Byte :=
  control :: tag :: code :: BitVec.ofNat 8 payload.length :: payload

/-- A whole frame: sync, body and CRC. -/
def frameBytes (control tag code : Byte) (payload : List Byte) : List Byte :=
  Config.syncByte :: (frameBody control tag code payload ++ crcBytes (frameBody control tag code payload))

/-- The control byte of a frame the part sends: its kind, with the notices-lost flag in bit 7. -/
def controlByte (kind : Byte) (lost : Bool) : Byte := if lost then kind ||| 0x80#8 else kind

/-- The bytes of the frame in transmission (R169, R171, R176). -/
def sendingBytes (x : Sending) : List Byte :=
  match x.frame with
  | .busyReply f => frameBytes (controlByte kindReply x.lost) f.tag (replyCodeByte .lineBusy) [f.code]
  | .reply r => frameBytes (controlByte kindReply x.lost) r.tag (replyCodeByte r.code) (r.request :: r.values)
  | .notice n => frameBytes (controlByte kindNotice x.lost) 0#8 (noticeCode n) (noticePayload n)

/-! ## The downstream cycle (R178) -/

/-- A grant entry. -/
def grantBytes (g : GrantEntry) : List Byte :=
  u8 ((match g.kind with | .echo => 128 | .service => 0) + g.drop % 64)
    ++ u16 g.position ++ u16 g.length ++ [g.sequence]

/-- A directive entry. -/
def directiveBytes : Directive → List Byte
  | .enrol tag drop e launch => 1#8 :: (tagBytes tag ++ u8 drop ++ u24 e ++ u8 launch.val)
  | .offset drop e => 2#8 :: (u8 drop ++ u24 e)
  | .launch drop launch => 3#8 :: (u8 drop ++ u8 launch.val)
  | .silence drop => 4#8 :: u8 drop
  | .resume drop => 5#8 :: u8 drop
  | .release drop => 6#8 :: u8 drop
  | .releaseAll => [6#8, 0xFF#8]
  | .park tag => 7#8 :: tagBytes tag

/-- The bytes the content CRC covers. -/
def contentBytes (d : Downstream) : List Byte :=
  u16 (d.cycle.toNat % 65536)
    ++ u8 d.grants.length ++ d.grants.flatMap grantBytes
    ++ (match d.muster with | some am => 1#8 :: u16 am | none => [0#8])
    ++ u8 d.directives.length ++ d.directives.flatMap directiveBytes

/-- A downstream cycle from its marker to its content CRC; idle fill follows up to the next marker. -/
def downstreamBytes (d : Downstream) : List Byte :=
  [0xB4#8, 0x6C#8, 0x1F#8, 0xE2#8] ++ contentBytes d ++ crcBytes (contentBytes d)

/-! ## Upstream burst content (R179) -/

/-- The launch step in bits 1..0 of a byte. -/
def launchOf (b : Byte) : LaunchStep :=
  match b.getLsbD 1, b.getLsbD 0 with
  | false, false => .q0
  | false, true => .q1
  | true, false => .q2
  | true, true => .q3

/-- What an announce carries. -/
structure AnnounceContent where
  tag     : FactoryTag
  holdoff : Nat
  launch  : LaunchStep
deriving DecidableEq, Repr

/-- The content of an announce, when its CRC matches (R63, R179). -/
def readAnnounce : List Byte → Option AnnounceContent
  | m3 :: m2 :: m1 :: m0 :: n3 :: n2 :: n1 :: n0 :: h :: st :: c1 :: c0 :: _ =>
      if crcBytes [m3, m2, m1, m0, n3, n2, n1, n0, h, st] = [c1, c0] then
        some { tag := tagOf m3 m2 m1 m0 n3 n2 n1 n0, holdoff := h.toNat, launch := launchOf st }
      else none
  | _ => none

/-- The reported launch step and downstream power of an echo whose content is good: the CRC matches, and the drop
number and echo sequence are those expected (R59, R179). -/
def readEcho (drop : Nat) (sequence : Byte) : List Byte → Option (LaunchStep × Int)
  | d :: q :: st :: p1 :: p0 :: c1 :: c0 :: _ =>
      if crcBytes [d, q, st, p1, p0] = [c1, c0] ∧ d = BitVec.ofNat 8 drop ∧ q = sequence then
        some (launchOf st, signed16 p1 p0)
      else none
  | _ => none

/-- The content of a service burst of a placed share is good when the trailer's CRC matches the payload's
(R60, R179). -/
def serviceGood (share : Nat) (content : List Byte) : Bool :=
  let payload := content.take (2 * share)
  decide (payload.length = 2 * share) && decide (crcBytes payload = (content.drop (2 * share)).take 2)

end Sys2Proof.Machine
end

