-- ==== Sys2Proof/Machine/Flags.lean ====
section
/-! DEFINITION. Every attribute, class and flag the part computes from a measurement: the round trip of an announce
and its reach class (Chapter 2), CROWDED and the screen (Chapter 4), the drift class, and the power value of a
converter code with its level attributes (Chapter 7). -/

namespace Sys2Proof.Machine

/-! ## Reach setup (R18 to R20) -/

/-- The effective target and the derived values of a reach setup. -/
def derive (near far zEntered trim : Nat) : Derived :=
  let z := if zEntered = 0 then 2500 * far else zEntered
  let span := 125 * (far - near)
  { z := z, omega := Config.responseTicks + trim + z / 20, span := span, w := span + 2176,
    am := (z - 2500 * near) / 20 }

/-- A window spills when it reaches past the dark tail's start (R21, R38). -/
def Derived.spills (d : Derived) : Bool := decide (Config.darkTailStart < d.w)

/-! ## Round trip of an announce (R22, R23) -/

/-- R = 20 × (A − a_m − 4,000 − 64h − 32 − trim) + p bits, signed (R22). -/
def roundTrip (a am h trim p : Nat) : Int :=
  20 * ((a : Int) - am - Config.responseTicks - 64 * h - Config.preambleTicks - trim) + p

/-- The outcome of the reach checks of R23. -/
inductive ReachClass where
  | early | beyond | outOfBand | inBand
deriving DecidableEq, Repr

/-- The first check of R23 that applies. -/
def reachClass (r : Int) (z near far : Nat) : ReachClass :=
  if r < 0 then .early
  else if (z : Int) < r then .beyond
  else if r < 2500 * near ∨ 2500 * far < r then .outOfBand
  else .inBand

/-! ## CROWDED (R65) and the screen (R68) -/

/-- Light in any of the 16 ticks from A − 48 to A − 33, in the light history of the 48 ticks before A: bit i is the
tick i + 1 ticks before A. -/
def crowdedBy (light : BitVec 48) : Bool := decide (light.extractLsb' 32 16 ≠ 0#16)

/-- One attribute against the screen. -/
def attrPasses (masked wanted recorded : Bool) : Bool := !masked || (recorded == wanted)

/-- An announce passes when every attribute in the mask is recorded exactly when it is in the match set. -/
def screenPasses (mask matchSet v : AttrSet) : Bool :=
  attrPasses mask.outOfBand matchSet.outOfBand v.outOfBand
    && attrPasses mask.unsampled matchSet.unsampled v.unsampled
    && attrPasses mask.overRange matchSet.overRange v.overRange
    && attrPasses mask.underRange matchSet.underRange v.underRange
    && attrPasses mask.weak matchSet.weak v.weak
    && attrPasses mask.strong matchSet.strong v.strong
    && attrPasses mask.crowded matchSet.crowded v.crowded

/-- The verdict vector of an announce (R67): UNSAMPLED excludes the four level attributes. -/
def verdictVector (outOfBand crowded : Bool) (levels : Option LevelAttrs) : AttrSet :=
  match levels with
  | none => { AttrSet.empty with outOfBand := outOfBand, unsampled := true, crowded := crowded }
  | some l =>
      { outOfBand := outOfBand, unsampled := false, overRange := l.overRange, underRange := l.underRange,
        weak := l.weak, strong := l.strong, crowded := crowded }

/-! ## Drift (R26, R27) -/

/-- d = 20 × k + p bits, for a delimiter found k − 3 ticks from the expected one. -/
def driftOf (k : Fin 6) (p : Fin 20) : Int := 20 * ((k.val : Int) - 3) + p.val

/-- The drift classes of R27. -/
inductive DriftClass where
  | settled | correctable | fault
deriving DecidableEq, Repr

/-- The class of a drift by its magnitude. -/
def driftClass (d : Int) : DriftClass :=
  if d.natAbs ≤ 2 then .settled else if d.natAbs ≤ 40 then .correctable else .fault

/-- A number clamped to a range. -/
def clampInt (lo hi x : Int) : Int := max lo (min hi x)

/-- E_new of a drift correction: E less d clamped to −8..+8, clamped to [0, Z] (R28). -/
def correctedE (z e : Nat) (d : Int) : Nat := (clampInt 0 z ((e : Int) - clampInt (-8) 8 d)).toNat

/-! ## Power (R134, R135) -/

/-- The table point T[i]. -/
def tablePoint (table : List Int) (i : Nat) : Int := table.getD i 0

/-- The power value of code `c` through offset `o` and a table, with whether it is OVER-RANGE or UNDER-RANGE. -/
def powerOf (c o : Nat) (table : List Int) : Int × Bool × Bool :=
  if 4000 ≤ c then (tablePoint table 8, true, false)
  else
    let n := c - o
    if n < 40 then (tablePoint table 0, false, true)
    else
      let i := n / 500
      let increment := (tablePoint table (i + 1) - tablePoint table i) * ((n - 500 * i : Nat) : Int)
      (tablePoint table i + (increment + 250) / 500, false, false)

/-- A power result: the value with the level attributes that apply to it, under the floor and ceiling in force. -/
def powerResult (c o : Nat) (table : List Int) (floor ceiling : Int) : Int × LevelAttrs :=
  let v := powerOf c o table
  (v.1, { overRange := v.2.1, underRange := v.2.2, weak := decide (v.1 < floor), strong := decide (ceiling < v.1) })

/-! ## Cycle numbers (R2) -/

/-- How many cycles `n` lies after `c`: the difference modulo 2^32 read as a signed number. -/
def cyclesSince (n c : Cycle) : Int := (n - c).toInt

end Sys2Proof.Machine
end

