-- ==== Sys2Proof/Machine/Operands.lean ====
section
/-! DEFINITION. The operand forms of the requests: the fields each request's payload carries, read from its bytes
and written as its bytes by the codings of R177. Reading answers `none` where the payload's length is not one the
request allows, or where a flag, a choice or an attribute set holds a value it cannot: the check MALFORMED of
R168. Numbers are read as they stand. -/

namespace Sys2Proof.Machine

/-- No field (STATUS, RESET, ACTIVATION-READ). -/
def parseEmpty : List Byte → Option Unit
  | [] => some ()
  | _ => none

/-- One number in a byte: a leg, or a range. -/
def parseByte : List Byte → Option Nat
  | [b] => some b.toNat
  | _ => none

/-- BIAS: OFF or ON (R140). -/
def parseChoice : List Byte → Option Bool
  | [b] => choiceOf b
  | _ => none

/-- LEG-MUSTER: a leg, and OFF or ON (R154). -/
structure LegMusterFields where
  leg : Nat
  on  : Bool
deriving DecidableEq, Repr

def parseLegMuster : List Byte → Option LegMusterFields
  | [l, b] => (choiceOf b).map fun on => { leg := l.toNat, on := on }
  | _ => none

def legMusterBytes (f : LegMusterFields) : List Byte := u8 f.leg ++ flagByte f.on

/-- HOLD-LEG: a leg and a length in cycles (R156). -/
structure HoldFields where
  leg    : Nat
  length : Nat
deriving DecidableEq, Repr

def parseHold : List Byte → Option HoldFields
  | [l, d1, d0] => some { leg := l.toNat, length := num16 d1 d0 }
  | _ => none

def holdBytes (f : HoldFields) : List Byte := u8 f.leg ++ u16 f.length

/-- SETUP-LEG: a leg number and every value of the leg setup (R150). -/
structure SetupFields where
  leg           : Nat
  near          : Nat
  far           : Nat
  zEntered      : Nat
  trim          : Nat
  interval      : Nat
  maxEchoes     : Nat
  mask          : AttrSet
  matchSet      : AttrSet
  announceRange : Nat
  policy        : UnknownPolicy
  musterOn      : Bool
deriving DecidableEq, Repr

/-- The unknown policy a choice names: HOLD or DISCARD. -/
def policyOf (b : Bool) : UnknownPolicy := if b then .discard else .hold

def parseSetup : List Byte → Option SetupFields
  | [l, ne, fa, z3, z2, z1, z0, t1, t0, m1, m0, ech, mk, mt, rg, pol, mus] =>
      match attrOf mk, attrOf mt, choiceOf pol, choiceOf mus with
      | some mask, some mtch, some discard, some on =>
          some { leg := l.toNat, near := ne.toNat, far := fa.toNat, zEntered := num32 z3 z2 z1 z0,
                 trim := num16 t1 t0, interval := num16 m1 m0, maxEchoes := ech.toNat, mask := mask,
                 matchSet := mtch, announceRange := rg.toNat, policy := policyOf discard, musterOn := on }
      | _, _, _, _ => none
  | _ => none

def setupBytes (f : SetupFields) : List Byte :=
  u8 f.leg ++ u8 f.near ++ u8 f.far ++ u32 f.zEntered ++ u16 f.trim ++ u16 f.interval ++ u8 f.maxEchoes
    ++ attrByte f.mask ++ attrByte f.matchSet ++ u8 f.announceRange ++ u8 (policyNo f.policy) ++ flagByte f.musterOn

/-- ROSTER-PUT: a tag, a plot label, an expected leg as carried, a share and a barred flag (R76). -/
structure RosterPutFields where
  tag    : FactoryTag
  plot   : Nat
  leg    : Nat
  share  : Nat
  barred : Bool
deriving DecidableEq, Repr

def parseRosterPut : List Byte → Option RosterPutFields
  | [m3, m2, m1, m0, n3, n2, n1, n0, p1, p0, l, s1, s0, b] =>
      (choiceOf b).map fun barred =>
        { tag := tagOf m3 m2 m1 m0 n3 n2 n1 n0, plot := num16 p1 p0, leg := l.toNat, share := num16 s1 s0,
          barred := barred }
  | _ => none

def rosterPutBytes (f : RosterPutFields) : List Byte :=
  tagBytes f.tag ++ u16 f.plot ++ u8 f.leg ++ u16 f.share ++ flagByte f.barred

/-- ROSTER-REMOVE: a tag (R78). -/
def parseTag : List Byte → Option FactoryTag
  | [m3, m2, m1, m0, n3, n2, n1, n0] => some (tagOf m3 m2 m1 m0 n3 n2 n1 n0)
  | _ => none

/-- ROSTER-READ and CANDIDATE-READ name an entry by a number (an index, a list position) or by its tag
(R79, R95). -/
inductive EntryKey where
  | number (n : Nat)
  | tag (t : FactoryTag)
deriving DecidableEq, Repr

/-- ROSTER-READ: a choice of index (two bytes) or tag. -/
def parseRosterKey : List Byte → Option EntryKey
  | [c, i1, i0] => if c = 0#8 then some (.number (num16 i1 i0)) else none
  | c :: rest => if c = 1#8 then (parseTag rest).map EntryKey.tag else none
  | [] => none

def rosterKeyBytes : EntryKey → List Byte
  | .number n => 0#8 :: u16 n
  | .tag t => 1#8 :: tagBytes t

/-- CANDIDATE-READ: a choice of list position (one byte) or tag. -/
def parseCandidateKey : List Byte → Option EntryKey
  | [c, i] => if c = 0#8 then some (.number i.toNat) else none
  | c :: rest => if c = 1#8 then (parseTag rest).map EntryKey.tag else none
  | [] => none

def candidateKeyBytes : EntryKey → List Byte
  | .number n => 0#8 :: u8 n
  | .tag t => 1#8 :: tagBytes t

/-- VERDICT: a tag, ADMIT or REJECT, and the three roster values as carried (R90, R177). -/
structure VerdictFields where
  tag    : FactoryTag
  reject : Bool
  plot   : Nat
  share  : Nat
  leg    : Nat
deriving DecidableEq, Repr

def parseVerdict : List Byte → Option VerdictFields
  | [m3, m2, m1, m0, n3, n2, n1, n0, d, p1, p0, s1, s0, l] =>
      (choiceOf d).map fun reject =>
        { tag := tagOf m3 m2 m1 m0 n3 n2 n1 n0, reject := reject, plot := num16 p1 p0, share := num16 s1 s0,
          leg := l.toNat }
  | _ => none

def verdictBytes (f : VerdictFields) : List Byte :=
  tagBytes f.tag ++ flagByte f.reject ++ u16 f.plot ++ u16 f.share ++ u8 f.leg

/-- SET-ACTIVATION: S, Ie, F, floor, ceiling, Q (R120). -/
structure ActivationFields where
  streak   : Nat
  interval : Nat
  missLim  : Nat
  floor    : Int
  ceiling  : Int
  timeout  : Nat
deriving DecidableEq, Repr

/-- The six values as SET-ACTIVATION carries them; the echo interval has 1 byte (DEDUCED, log 13). -/
def parseActivation : List Byte → Option ActivationFields
  | [s, i, f, fl1, fl0, ce1, ce0, q1, q0] =>
      some { streak := s.toNat, interval := i.toNat, missLim := f.toNat, floor := signed16 fl1 fl0,
             ceiling := signed16 ce1 ce0, timeout := num16 q1 q0 }
  | _ => none

def activationBytes (f : ActivationFields) : List Byte :=
  u8 f.streak ++ u8 f.interval ++ u8 f.missLim ++ i16 f.floor ++ i16 f.ceiling ++ u16 f.timeout

/-- DROP-SILENCE, DROP-RESUME, DROP-RETIRE, DROP-READ: a leg and a drop number (R114). -/
structure DropFields where
  leg  : Nat
  drop : Nat
deriving DecidableEq, Repr

def parseDrop : List Byte → Option DropFields
  | [l, d] => some { leg := l.toNat, drop := d.toNat }
  | _ => none

def dropBytes (f : DropFields) : List Byte := u8 f.leg ++ u8 f.drop

/-- CAL-LOAD: a range and nine values (R137). -/
structure CalLoadFields where
  range  : Nat
  values : List Int
deriving DecidableEq, Repr

/-- The signed numbers that pairs of bytes hold; `none` for an odd byte out. -/
def signedPairs : List Byte → Option (List Int)
  | [] => some []
  | [_] => none
  | hi :: lo :: rest => (signedPairs rest).map (signed16 hi lo :: ·)

def parseCalLoad : List Byte → Option CalLoadFields
  | r :: rest =>
      if rest.length = 18 then (signedPairs rest).map fun vs => { range := r.toNat, values := vs } else none
  | [] => none

def calLoadBytes (f : CalLoadFields) : List Byte := u8 f.range ++ f.values.flatMap i16

end Sys2Proof.Machine
end

