-- ==== Sys2Proof/Machine/Ops.lean ====
section
/-! DEFINITION. The named operations over the state that every meaning is written with: reading and writing a leg,
a drop record, the roster and the meter; placing a notice; the output arbiter; the wrapper of an event and of a
request. -/

namespace Sys2Proof.Machine

/-! ## The blocks -/

/-- The state with the interface replaced. -/
def State.setIface (s : State) (i : Interface) : State := { s with iface := i }

/-- The state with the Roster Table replaced. -/
def State.setRoster (s : State) (r : List (Option RosterEntry)) : State := { s with roster := r }

/-- The state with the Candidate List replaced. -/
def State.setCandidates (s : State) (c : List Candidate) : State := { s with candidates := c }

/-- The state with the Level Meter replaced. -/
def State.setMeter (s : State) (m : Meter) : State := { s with meter := m }

/-- The state with the Bias Supply replaced. -/
def State.setBias (s : State) (b : Bias) : State := { s with bias := b }

/-- The state with the Rail Monitor replaced. -/
def State.setRail (s : State) (r : Rail) : State := { s with rail := r }

/-- The state with the activation parameters replaced. -/
def State.setParams (s : State) (p : Activation) : State := { s with params := p }

/-- A leg of the part. -/
def State.leg (s : State) (l : LegId) : Leg := s.legs.get l

/-- The state with one leg replaced. -/
def State.setLeg (s : State) (l : LegId) (x : Leg) : State := { s with legs := s.legs.set l x }

/-- The state with one leg mapped. -/
def State.mapLeg (s : State) (l : LegId) (f : Leg → Leg) : State := s.setLeg l (f (s.leg l))

/-- A leg that is RUNNING or BLIND is started (R148). -/
def Leg.started (x : Leg) : Bool := decide (x.state ≠ .stopped)

/-- The number of the cycle that begins at the coming boundary: the count itself once the leg has begun it. -/
def Leg.coming (x : Leg) : Cycle := if x.ahead then x.count else x.count + 1#32

/-- The instant of the coming boundary on the model's clock (R1). -/
def State.comingInstant (s : State) : Nat := Config.cycleTicks * (s.boundaries + 1)

/-! ## Drop records -/

/-- The record of a drop number, `none` when it is FREE or no drop number. -/
def Leg.record (x : Leg) (d : Nat) : Option DropRecord := (x.drops[d]?).join

/-- The leg with one record replaced; `none` is FREE. -/
def Leg.setRecord (x : Leg) (d : Nat) (r : Option DropRecord) : Leg := { x with drops := x.drops.set d r }

/-- The record of a drop of a leg. -/
def State.record (s : State) (l : LegId) (d : Nat) : Option DropRecord := (s.leg l).record d

/-- The state with one record replaced. -/
def State.setRecord (s : State) (l : LegId) (d : Nat) (r : Option DropRecord) : State :=
  s.setLeg l ((s.leg l).setRecord d r)

/-- The records from a place of a drop table on, with their drop numbers, in ascending order. -/
def liveFrom : Nat → List (Option DropRecord) → List (Nat × DropRecord)
  | _, [] => []
  | i, some r :: rest => (i, r) :: liveFrom (i + 1) rest
  | i, none :: rest => liveFrom (i + 1) rest

/-- The records of a leg that are not FREE, in ascending drop number. -/
def Leg.live (x : Leg) : List (Nat × DropRecord) := liveFrom 0 x.drops

/-- The lowest place of a table that is not in use. -/
def firstFree {α : Type} : List (Option α) → Option Nat
  | [] => none
  | none :: _ => some 0
  | some _ :: rest => (firstFree rest).map (· + 1)

/-- The number of places of a table in use. -/
def usedCount {α : Type} (t : List (Option α)) : Nat := (t.filter Option.isSome).length

/-! ## The Roster Table and the Candidate List -/

/-- The entry that holds a tag, with its index counted from `i` (R74). -/
def findTag (tag : FactoryTag) : Nat → List (Option RosterEntry) → Option (Nat × RosterEntry)
  | _, [] => none
  | i, some e :: rest => if e.tag = tag then some (i, e) else findTag tag (i + 1) rest
  | i, none :: rest => findTag tag (i + 1) rest

/-- The roster entry that holds a tag, with its index. -/
def State.rosterEntry (s : State) (tag : FactoryTag) : Option (Nat × RosterEntry) := findTag tag 0 s.roster

/-- The roster entry of an index, when in use. -/
def State.rosterAt (s : State) (i : Nat) : Option RosterEntry := (s.roster[i]?).join

/-- The state with one roster entry replaced. -/
def State.setRosterAt (s : State) (i : Nat) (e : Option RosterEntry) : State := s.setRoster (s.roster.set i e)

/-- The roster entry of an index becomes EXPECTED and loses its link (R75). -/
def State.unlink (s : State) (i : Nat) : State :=
  match s.rosterAt i with
  | some e => s.setRosterAt i (some { e with state := .expected, link := none })
  | none => s

/-- The last heard of the entry that holds a tag, if there is one, becomes the leg and cycle given (R68, R81). -/
def State.heard (s : State) (tag : FactoryTag) (l : LegId) (n : Cycle) : State :=
  match s.rosterEntry tag with
  | some (i, e) => s.setRosterAt i (some { e with lastHeard := some (l, n) })
  | none => s

/-- The candidate entry that holds a tag. -/
def State.candidate (s : State) (tag : FactoryTag) : Option Candidate := s.candidates.find? (fun c => decide (c.tag = tag))

/-- The state without the candidate entry of a tag; the entries behind it close up (R87). -/
def State.dropCandidate (s : State) (tag : FactoryTag) : State :=
  s.setCandidates (s.candidates.filter fun c => decide (c.tag ≠ tag))

/-- The candidate entry of a tag takes a roster index, or loses it (R80). -/
def State.indexCandidate (s : State) (tag : FactoryTag) (i : Option Nat) : State :=
  s.setCandidates (s.candidates.map fun c => if c.tag = tag then { c with rosterIndex := i } else c)

/-! ## Notices and the line out -/

/-- A notice placed in the notice queue, or discarded with the lost mark set when the queue holds 32 (R171). -/
def Interface.place (i : Interface) (n : Notice) : Interface :=
  if i.notices.length < Config.maxNotices then { i with notices := i.notices ++ [n] } else { i with lost := true }

/-- The state with a notice placed. -/
def State.notify (s : State) (n : Notice) : State := s.setIface (s.iface.place n)

/-- A frame begins transmission: the lost mark is copied into it and cleared (R171). -/
def Interface.send (i : Interface) (f : FrameOut) : Interface :=
  { i with lineOut := some { frame := f, lost := i.lost }, lost := false }

/-- The output arbiter (R170): with no frame in transmission it begins the oldest LINE-BUSY reply, or else the
oldest pending reply, or else the oldest notice. -/
def Interface.arbitrate (i : Interface) : Interface :=
  match i.lineOut with
  | some _ => i
  | none =>
    match i.busy with
    | b :: bs => Interface.send { i with busy := bs } (.busyReply b)
    | [] =>
      match i.replies with
      | r :: rs => Interface.send { i with replies := rs } (.reply r)
      | [] =>
        match i.notices with
        | n :: ns => Interface.send { i with notices := ns } (.notice n)
        | [] => i

/-- The state after the output arbiter has looked at the line. -/
def State.arbitrate (s : State) : State := s.setIface s.iface.arbitrate

/-! ## Events and requests -/

/-- An event: nothing while the part is in reset (R174); otherwise its effect, and then the output arbiter begins a
frame when the line out has none (R170, log 7). -/
def event (act : State → State) (s : State) : Host.Outcome State Fault Refusal :=
  .next (if s.inReset.isSome then s else (act s).arbitrate)

/-- What taking a request gives: the state, the reply code and the values after the request code (R168, R169). -/
structure Answer where
  state  : State
  code   : ReplyCode
  values : List Byte

/-- A refusal: the state unchanged and the reply code alone (R168). -/
def refuse (code : ReplyCode) (s : State) : Answer := { state := s, code := code, values := [] }

/-- A request answered DONE with its values. -/
def done (s : State) (values : List Byte) : Answer := { state := s, code := .done, values := values }

/-- The state with a pending reply at the tail (R170). -/
def State.reply (s : State) (r : Reply) : State := s.setIface { s.iface with replies := s.iface.replies ++ [r] }

/-- A well-formed request frame completes (R167, R168, R173): discarded while a requested reset is pending; with
four places occupied its tag joins the busy list; otherwise it takes a place and is taken at once. -/
def takeRequest (tag code : Byte) (act : State → Answer) (s : State) : State :=
  if s.iface.resetPending then s
  else if Config.bufferPlaces ≤ s.iface.buffer.length then
    if s.iface.busy.length < Config.busyPlaces then
      s.setIface { s.iface with busy := s.iface.busy ++ [⟨tag, code⟩] }
    else s
  else
    let a := act (s.setIface { s.iface with buffer := s.iface.buffer ++ [⟨tag, code⟩] })
    a.state.reply { tag := tag, request := code, code := a.code, values := a.values }

/-- The receive side returns to HUNTING with nothing held (R166). -/
def State.hunt (s : State) : State := s.setIface { s.iface with rx := none }

/-- A request arriving as a whole frame: the receive side is HUNTING after it, and the request is taken. -/
def frameRequest (tag code : Byte) (act : State → Answer) (s : State) : State := takeRequest tag code act s.hunt

/-- A request whose payload is read by `parse`: MALFORMED when it cannot be read, else answered by `act` (R168). -/
def parsed {α : Type} (parse : List Byte → Option α) (act : α → State → Answer) (payload : List Byte) (s : State) :
    Answer :=
  match parse payload with
  | none => refuse .malformed s
  | some f => act f s

/-- A request about one leg: OUT-OF-RANGE for a leg number that is not 0..3. -/
def withLeg (n : Nat) (act : LegId → State → Answer) (s : State) : Answer :=
  match Quad.ofNat? n with
  | none => refuse .outOfRange s
  | some l => act l s

/-! ## The Level Meter -/

/-- The dark offset entry of a leg and range (R126). -/
def State.offset (s : State) (l : LegId) (k : RangeId) : OffsetEntry := (s.meter.offsets.get l).get k

/-- The meter with one dark offset entry replaced. -/
def Meter.setOffset (m : Meter) (l : LegId) (k : RangeId) (e : OffsetEntry) : Meter :=
  { m with offsets := m.offsets.set l ((m.offsets.get l).set k e) }

/-- A range is added to a leg's want list at the tail, waiting, when it is not already on it (R127). -/
def Meter.addWant (m : Meter) (l : LegId) (k : RangeId) : Meter :=
  if (m.wants.get l).any (fun w => decide (w.range = k)) then m
  else { m with wants := m.wants.set l (m.wants.get l ++ [{ range := k, scheduled := false }]) }

/-- A range leaves a leg's want list (R127). -/
def Meter.dropWant (m : Meter) (l : LegId) (k : RangeId) : Meter :=
  { m with wants := m.wants.set l ((m.wants.get l).filter fun w => decide (w.range ≠ k)) }

/-- A range on a leg's want list is marked scheduled, or waiting (R128, R129). -/
def Meter.markWant (m : Meter) (l : LegId) (k : RangeId) (scheduled : Bool) : Meter :=
  let marked := (m.wants.get l).map fun w => if w.range = k then { w with scheduled := scheduled } else w
  { m with wants := m.wants.set l marked }

/-- An entry becomes invalid and loses its code; its range is wanted when the leg's sample queue holds a request
naming it (R126, R127). An entry already invalid stays so. -/
def Meter.invalidate (m : Meter) (l : LegId) (k : RangeId) : Meter :=
  if ((m.offsets.get l).get k).valid then
    let m' := m.setOffset l k OffsetEntry.invalid
    if (m.queues.get l).any (fun q => decide (q.range = k)) then m'.addWant l k else m'
  else m

/-! ## Judging light -/

/-- The bias is READY and has been since an instant at or before the one given (R57). -/
def State.readyThrough (s : State) (instant : Nat) : Bool :=
  decide (s.bias.state = .ready) && decide (s.bias.readySince ≤ instant)

/-- The receiver without the calendars that have fully arrived and from which no expectation and no window scan is
left (R56). -/
def Receiver.prune (x : Receiver) : Receiver :=
  { x with inHand := x.inHand.filter fun c =>
      !c.closed || x.expectations.any (fun e => decide (e.cycle = c.cycle))
        || (match x.scan with | some w => decide (w.cycle = c.cycle) | none => false) }

/-- The leg with its receiver mapped. -/
def Leg.mapReceiver (x : Leg) (f : Receiver → Receiver) : Leg := { x with receiver := f x.receiver }

/-- The leg with its window scan mapped. -/
def Leg.mapScan (x : Leg) (f : WindowScan → WindowScan) : Leg :=
  x.mapReceiver fun rx => { rx with scan := rx.scan.map f }

/-- The announce of a scan at a delimiter position learns what became of the sample it awaits. -/
def WindowScan.result (w : WindowScan) (a : Nat) (x : AnnounceSample) : WindowScan :=
  { w with found := w.found.map fun f => if f.a = a ∧ f.sample = .awaited then { f with sample := x } else f }

/-- A leg's light history becomes the light of the latest 48 ticks, whatever the leg's state (R56, log 16). -/
def State.recordLight (s : State) (l : LegId) (light : BitVec 48) : State :=
  s.mapLeg l fun x => x.mapReceiver fun rx => { rx with lightHistory := light }

end Sys2Proof.Machine
end

