-- ==== Sys2Proof/Machine/Directives.lean ====
section
/-! DEFINITION. The directive queue (R48 to R54): placing a directive, the meeting of two directives for one drop,
and the departure of up to eight entries at the start of a cycle. -/

namespace Sys2Proof.Machine

/-- The drop number a directive is addressed to. -/
def Directive.drop? : Directive → Option Nat
  | .enrol _ d _ _ => some d
  | .offset d _ => some d
  | .launch d _ => some d
  | .silence d => some d
  | .resume d => some d
  | .release d => some d
  | .releaseAll => none
  | .park _ => none

/-- A Park. -/
def Directive.isPark : Directive → Bool
  | .park _ => true
  | _ => false

/-- An Enrol. -/
def Directive.isEnrol : Directive → Bool
  | .enrol .. => true
  | _ => false

/-- A Resume. -/
def Directive.isResume : Directive → Bool
  | .resume _ => true
  | _ => false

/-- A follow-on set with a kind joined to it. -/
def FollowOn.join (f : FollowOn) : Directive → FollowOn
  | .offset .. => { f with offset := true }
  | .launch .. => { f with launch := true }
  | .silence _ => { f with silence := true }
  | _ => f

/-- A follow-on set without a kind: an entry's own kind is never in its set (R50). -/
def FollowOn.without (f : FollowOn) : Directive → FollowOn
  | .offset .. => { f with offset := false }
  | .launch .. => { f with launch := false }
  | .silence _ => { f with silence := false }
  | _ => f

/-- A follow-on set holds a kind. -/
def FollowOn.nonempty (f : FollowOn) : Bool := f.offset || f.launch || f.silence

/-- The entry takes a new directive with its set as it stands, less the new kind. -/
def QueueEntry.replace (q : QueueEntry) (new : Directive) (ident : Option Identity) (f : FollowOn) : QueueEntry :=
  { q with dir := new, ident := ident, follow := f.without new }

/-- What becomes of a queued entry when a directive for the same drop is queued: the table of R50. -/
def QueueEntry.meet (q : QueueEntry) (new : Directive) (ident : Option Identity) : QueueEntry :=
  match q.dir, new with
  -- Enrol and Release replace whatever they find and clear the set
  | _, .enrol .. => q.replace new ident FollowOn.empty
  | _, .release _ => q.replace new ident FollowOn.empty
  -- a queued Enrol merges an Offset or a Launch, and holds a Silence in its set until a Resume removes it
  | .enrol t d _ launch, .offset _ e => { q with dir := .enrol t d e launch }
  | .enrol t d e _, .launch _ launch => { q with dir := .enrol t d e launch }
  | .enrol .., .silence _ => { q with follow := { q.follow with silence := true } }
  | .enrol .., .resume _ => { q with follow := { q.follow with silence := false } }
  | .enrol .., _ => q
  -- a queued Offset or Launch of the same kind is replaced; of another kind it joins the set
  | .offset .., .offset .. => q.replace new ident q.follow
  | .offset .., _ => q.replace new ident (q.follow.join q.dir)
  | .launch .., .launch .. => q.replace new ident q.follow
  | .launch .., _ => q.replace new ident (q.follow.join q.dir)
  -- a queued Silence or Resume stays before an Offset or a Launch, which joins its set
  | .silence _, .offset .. => { q with follow := q.follow.join new }
  | .silence _, .launch .. => { q with follow := q.follow.join new }
  | .silence _, _ => q.replace new ident q.follow
  | .resume _, .offset .. => { q with follow := q.follow.join new }
  | .resume _, .launch .. => { q with follow := q.follow.join new }
  | .resume _, _ => q.replace new ident q.follow
  -- a queued Release discards what an ended record can no longer use
  | .release _, _ => q
  | .releaseAll, _ => q
  | .park _, _ => q

/-- The queue after a drop-numbered directive is queued: the drop's entry keeps its position, or a new entry is
placed at the tail (R49). -/
def enqueue (d : Nat) (new : Directive) (ident : Option Identity) : List QueueEntry → List QueueEntry
  | [] => [{ dir := new, ident := ident, follow := FollowOn.empty }]
  | q :: qs => if q.dir.drop? = some d then q.meet new ident :: qs else q :: enqueue d new ident qs

/-- The leg with a drop-numbered directive queued for a record's identity. -/
def Leg.direct (x : Leg) (new : Directive) (ident : Identity) : Leg :=
  { x with queue := enqueue ident.drop new (some ident) x.queue }

/-- The number of Parks in a queue (R48). -/
def parkCount (q : List QueueEntry) : Nat := (q.filter fun e => e.dir.isPark).length

/-- The leg with a Park queued: unchanged when the tag already has one, or when 16 Parks are held (R49). -/
def Leg.park (x : Leg) (tag : FactoryTag) : Leg :=
  if x.queue.any (fun e => decide (e.dir = .park tag)) then x
  else if parkCount x.queue < Config.maxParks then
    { x with queue := x.queue ++ [{ dir := .park tag, ident := none, follow := FollowOn.empty }] }
  else x

/-- The leg with the follow-on set of the drop's entry cleared (R98). -/
def Leg.clearFollow (x : Leg) (d : Nat) : Leg :=
  { x with queue := x.queue.map fun q => if q.dir.drop? = some d then { q with follow := FollowOn.empty } else q }

/-- An Enrol for the drop stands in the queue. -/
def Leg.enrolQueued (x : Leg) (d : Nat) : Bool :=
  x.queue.any fun q => q.dir.isEnrol && decide (q.dir.drop? = some d)

/-- A Resume for the drop stands in the queue. -/
def Leg.resumeQueued (x : Leg) (d : Nat) : Bool :=
  x.queue.any fun q => q.dir.isResume && decide (q.dir.drop? = some d)

/-! ## Departure -/

/-- The live record that a departing entry was queued for, when it still holds the entry's identity (R53). -/
def Leg.recordOf (x : Leg) (q : QueueEntry) : Option DropRecord :=
  match q.ident with
  | none => none
  | some i =>
    match x.record i.drop with
    | some r => if r.ident = i then some r else none
    | none => none

/-- The directive as it is composed when it leaves (R9, R10): E and the launch step are the record's at that
moment, or what the entry holds when its record has ended. -/
def Leg.compose (x : Leg) (q : QueueEntry) : Directive :=
  match x.recordOf q with
  | none => q.dir
  | some r =>
    match q.dir with
    | .enrol t d _ _ => .enrol t d r.e r.launch
    | .offset d _ => .offset d r.e
    | .launch d _ => .launch d r.launch
    | other => other

/-- A field that is PENDING takes the cycle of the departure (R30, R103). -/
def InFlight.depart (f : InFlight) (n : Cycle) : InFlight :=
  match f with
  | .pending => .cycle n
  | other => other

/-- What the departure of a directive in cycle `n` records in its record: the table of R53. -/
def DropRecord.recordDeparture (r : DropRecord) (n : Cycle) : Directive → DropRecord
  | .enrol .. =>
      { r with enrolTx := some n, echoDue := some (n + 1#32), offsetField := r.offsetField.depart n,
               launchField := r.launchField.depart n }
  | .offset .. => { r with offsetField := .cycle n }
  | .launch .. => { r with launchField := .cycle n }
  | .silence _ => { r with silenceTx := some n }
  | .resume _ => { r with resumeTx := some n }
  | _ => r

/-- The phase of an isolation turn when the Silence of its drop leaves in cycle `n` (R161). -/
def IsolationRun.silenceLeft (run : IsolationRun) (ident : Identity) (n : Cycle) : IsolationRun :=
  if run.phase = .silenceQueued ∧ run.list[run.pos]? = some ident then
    { run with phase := .wait, silence := some n }
  else run

/-- The isolation run of a leg when an entry leaves in cycle `n`. -/
def Leg.runDeparture (x : Leg) (q : QueueEntry) (n : Cycle) : Leg :=
  match q.dir, q.ident with
  | .silence _, some i => { x with run := x.run.map fun run => run.silenceLeft i n }
  | _, _ => x

/-- The directive that follows an entry with a non-empty follow-on set, and the set that remains (R51). -/
def DropRecord.followOn (r : DropRecord) (f : FollowOn) : Directive × FollowOn :=
  if f.offset then (.offset r.ident.drop r.e, { f with offset := false })
  else if f.launch then (.launch r.ident.drop r.launch, { f with launch := false })
  else (.silence r.ident.drop, { f with silence := false })

/-- One entry leaves in cycle `n`: what it records, the turn it advances, and the follow-on placed at the tail. -/
def Leg.departOne (n : Cycle) (x : Leg) (q : QueueEntry) : Leg :=
  match x.recordOf q with
  | none => x
  | some r =>
    let x := (x.setRecord r.ident.drop (some (r.recordDeparture n q.dir))).runDeparture q n
    if q.follow.nonempty then
      { x with queue := x.queue ++
          [{ dir := (r.followOn q.follow).1, ident := some r.ident, follow := (r.followOn q.follow).2 }] }
    else x

/-- The departures at the start of cycle `n` (R52): the first eight entries that stood in the queue, in order, each
composed as it leaves; follow-ons wait for the next cycle. -/
def Leg.depart (n : Cycle) (x : Leg) : Leg × List Directive :=
  let out := x.queue.take Config.directivesPerCycle
  let x := { x with queue := x.queue.drop Config.directivesPerCycle }
  out.foldl (fun acc q => (acc.1.departOne n q, acc.2 ++ [acc.1.compose q])) (x, [])

end Sys2Proof.Machine
end

