-- ==== Sys2Proof/Machine/Records.lean ====
section
/-! DEFINITION. What happens to a drop record as a whole: the isolation run's turns (Chapter 9), the ending of a
record (R98) and its allocation (R99). -/

namespace Sys2Proof.Machine

/-- The state with a drop-numbered directive queued on a leg. -/
def State.direct (s : State) (l : LegId) (new : Directive) (ident : Identity) : State :=
  s.mapLeg l fun x => x.direct new ident

/-! ## Turns of an isolation run (R161 to R164) -/

/-- The run of a leg ends with ISOLATION-DONE (R162): the drop number and tag are present for a culprit only. -/
def State.endRun (s : State) (l : LegId) (outcome : RunOutcome) (culprit : Option (Nat × FactoryTag)) : State :=
  match (s.leg l).run with
  | none => s
  | some run =>
    (s.mapLeg l fun x => { x with run := none }).notify
      (.isolationDone l outcome (culprit.map Prod.fst) (culprit.map Prod.snd) run.begun (s.leg l).count)

/-- A turn begins on the first of the candidates left whose record still holds its identity and is not SILENCED:
its flag is set and a Silence is queued. With none left the run ends NONE (R161, R163). `pos` is the position of
the first candidate left on the turn list. A turn counts as begun here, whatever ends it later
(DESIGN CHOICE, log 29). -/
def beginTurn (l : LegId) (run : IsolationRun) : List Identity → Nat → State → State
  | [], _, s => s.endRun l .none none
  | t :: ts, pos, s =>
    match s.record l t.drop with
    | none => beginTurn l run ts (pos + 1) s
    | some r =>
      if r.ident = t ∧ r.state ≠ .silenced then
        let next := { run with pos := pos, begun := run.begun + 1, phase := .silenceQueued, silence := none, clean := 0 }
        ((s.setRecord l t.drop (some { r with isolated := true })).mapLeg l
          fun x => { x with run := some next }).direct l (.silence t.drop) t
      else beginTurn l run ts (pos + 1) s

/-- The run moves on to the candidates after the current one. -/
def State.nextTurn (s : State) (l : LegId) : State :=
  match (s.leg l).run with
  | none => s
  | some run => beginTurn l run (run.list.drop (run.pos + 1)) (run.pos + 1) s

/-- The current turn ends without a culprit: its record's flag is cleared, and a Resume is queued unless the host
silenced it during the turn (R116). -/
def State.endTurn (s : State) (l : LegId) : State :=
  match (s.leg l).run with
  | none => s
  | some run =>
    match run.list[run.pos]? with
    | none => s
    | some t =>
      match s.record l t.drop with
      | none => s
      | some r =>
        if r.isolated then
          let s := s.setRecord l t.drop (some { r with isolated := false })
          if r.state = .silenced then s else s.direct l (.resume t.drop) r.ident
        else s

/-- The current candidate is the culprit: its record becomes SILENCED, or stays so, its flag is cleared, and the
run ends (R116, R162). -/
def State.nameCulprit (s : State) (l : LegId) : State :=
  match (s.leg l).run with
  | none => s
  | some run =>
    match run.list[run.pos]? with
    | none => s
    | some t =>
      match s.record l t.drop with
      | none => s
      | some r =>
        let resumeTo := if r.state = .silenced then r.resumeTo else some r.state
        (s.setRecord l t.drop (some { r with isolated := false, state := .silenced, resumeTo := resumeTo })).endRun l
          .culprit (some (t.drop, r.tag))

/-! ## The ending of a record (R98) -/

/-- A record becomes FREE: its roster entry becomes EXPECTED; the Release replaces the drop's queue entry, or the
entry's follow-on set is cleared; DROP-ENDED is placed; and then a turn the record was in is skipped, with the
Silence of the next one, or ISOLATION-DONE (NONE), after all this (R163; DESIGN CHOICE, log 29). -/
def State.endRecord (s : State) (l : LegId) (d : Nat) (reason : EndReason) (release : Bool) : State :=
  match s.record l d with
  | none => s
  | some r =>
    let s := s.unlink r.rosterIndex
    let s := if release then s.direct l (.release d) r.ident else s.mapLeg l fun x => x.clearFollow d
    let s := s.setRecord l d none
    let s := s.notify
      (.dropEnded l d r.tag r.plot r.rosterIndex reason r.state r.attempts r.misses (s.leg l).count)
    if r.isolated then s.nextTurn l else s

/-! ## Allocation (R85, R92, R99) -/

/-- What allocation takes from the announce or candidate and from the roster entry. -/
structure Admission where
  tag    : FactoryTag
  index  : Nat
  plot   : Nat
  share  : Nat
  r      : Nat
  launch : LaunchStep
  power  : Option Int
  vector : AttrSet

/-- The range hint at allocation: the leg's announce range, one up with OVER-RANGE, one down with UNDER-RANGE. -/
def hintAt (announceRange : RangeId) (v : AttrSet) : RangeId :=
  if v.overRange then announceRange.up else if v.underRange then announceRange.down else announceRange

/-- The record as allocation sets it: the table of R99. -/
def allocated (x : Leg) (d : Nat) (a : Admission) : DropRecord :=
  { state := .enrolling, ident := { drop := d, cycle := x.count, count := x.allocCount + 1#32 }, tag := a.tag,
    rosterIndex := a.index, plot := a.plot, share := a.share, r := a.r, e := x.derived.z - a.r,
    offsetField := .absent, launch := a.launch, launchField := .absent,
    hint := hintAt x.setup.announceRange a.vector, lastPower := a.power,
    flags := { fault := false, unknown := false, drift := false }, vector := a.vector, reported := none,
    attempts := 1, echoes := 0, adjustments := 0, unmeasured := 0, streak := 0, misses := 0, echoDue := none,
    echoSeq := 0#8, silentRun := 0, lastDrift := 0, resumeTo := none, isolated := false, lastSample := none,
    enrolTx := none, silenceTx := none, resumeTx := none, measures := [] }

/-- The record of drop `d` is allocated: its roster entry becomes ACTIVE with the link, and an Enrol is queued. -/
def State.allocate (s : State) (l : LegId) (d : Nat) (a : Admission) : State :=
  let r := allocated (s.leg l) d a
  let s := s.mapLeg l fun x => { x.setRecord d (some r) with allocCount := x.allocCount + 1#32 }
  let s := match s.rosterAt a.index with
    | some e => s.setRosterAt a.index (some { e with state := .active, link := some (l, d) })
    | none => s
  s.direct l (.enrol a.tag d r.e r.launch) r.ident

end Sys2Proof.Machine
end

