-- ==== Sys2Proof/Machine/Judgement.lean ====
section
/-! DEFINITION. What reaches a drop record: the verdict of a granted burst and the power outcome of its sample, and
how the record acts on each (R26 to R33, R100 to R113). -/

namespace Sys2Proof.Machine

/-! ## Judged in full (R27, R31, R33) -/

/-- A record that is SILENCED or isolation-silenced: bursts delivered to it are judged for presence and content
only, and move nothing. -/
def DropRecord.frozen (r : DropRecord) : Bool := r.isolated || decide (r.state = .silenced)

/-- A burst of a grant cycle is judged in full: the record is not frozen, and its offset field is absent or holds an
earlier cycle. -/
def DropRecord.inFull (r : DropRecord) (grant : Cycle) : Bool :=
  !r.frozen && (match r.offsetField with
    | .absent => true
    | .pending => false
    | .cycle c => decide (0 < cyclesSince grant c))

/-! ## The verdict (R58 to R61) -/

/-- A verdict as it is delivered: the grant's cycle and kind, the verdict, whether the burst was judged in full,
the drift of a delimiter found, and what a good echo reports. -/
structure Delivered where
  cycle   : Cycle
  kind    : BurstKind
  verdict : BurstVerdict
  full    : Bool
  drift   : Option Int
  report  : Option (LaunchStep × Int)
deriving DecidableEq, Repr

/-- What a good burst of an expectation reports; `none` for bad content. A service burst reports nothing (R59, R60). -/
def Expectation.content (x : Expectation) (content : List Byte) : Option (Option (LaunchStep × Int)) :=
  match x.kind with
  | .echo => (readEcho x.ident.drop x.sequence content).map some
  | .service => if serviceGood (x.length - Config.serviceOverhead) content then some none else none

/-- The verdict that settles an expectation, given to record `r` (R61). `judged` says that the bias was READY
throughout the look (R57). -/
def settle (r : DropRecord) (x : Expectation) (look : BurstLook) (judged : Bool) : Delivered :=
  let full := r.inFull x.cycle
  let none' : Delivered :=
    { cycle := x.cycle, kind := x.kind, verdict := .missing, full := full, drift := none, report := none }
  if judged then
    match look with
    | .nothing => none'
    | .delimiter k p content =>
      let d := driftOf k p
      match x.content content with
      | none => { none' with verdict := .corrupt, drift := some d }
      | some report =>
        if full && decide (driftClass d = .fault) then { none' with verdict := .driftFault, drift := some d }
        else { none' with verdict := .good, drift := some d, report := report }
  else { none' with verdict := .unjudged }

/-! ## Drift correction (R28) -/

/-- The correction of a record's E by a drift: a new E is the record's, with R = Z − E, its offset field is PENDING
and an Offset is queued; nothing when E does not change. -/
def State.correctDrift (s : State) (l : LegId) (d : Nat) (drift : Int) : State :=
  match s.record l d with
  | none => s
  | some r =>
    let z := (s.leg l).derived.z
    let e := correctedE z r.e drift
    if e = r.e then s
    else
      (s.setRecord l d (some { r with e := e, r := z - e, offsetField := .pending })).direct l (.offset d e) r.ident

/-! ## Counting a verdict (R104 to R111) -/

/-- A record enters LEVELLING (R106). -/
def DropRecord.toLevelling (r : DropRecord) : DropRecord :=
  { r with state := .levelling, adjustments := 0, unmeasured := 0, streak := 0, misses := 0 }

/-- A record enters SOAK (R109). -/
def DropRecord.toSoak (r : DropRecord) : DropRecord := { r with state := .soak, streak := 0 }

/-- A record enters IN-SERVICE (R110). -/
def DropRecord.toService (r : DropRecord) : DropRecord :=
  { r with state := .inService, echoDue := none, silentRun := 0, lastSample := none }

/-- Three counted bad echoes in ENROLLING: another Enrol, or the end NO-ANSWER after the third attempt (R105). -/
def State.enrolAgain (s : State) (l : LegId) (d : Nat) (r : DropRecord) : State :=
  if r.attempts < 3 then
    (s.setRecord l d (some { r with attempts := r.attempts + 1, echoes := 0, echoDue := none })).direct l
      (.enrol r.tag d r.e r.launch) r.ident
  else (s.setRecord l d (some { r with echoes := 3 })).endRecord l d .noAnswer true

/-- A bad echo in ENROLLING: counted when no Enrol of the drop is queued and the grant is later than the Enrol's
transmission (R104). -/
def State.enrolMiss (s : State) (l : LegId) (d : Nat) (grant : Cycle) (r : DropRecord) : State :=
  let counted := !(s.leg l).enrolQueued d &&
    (match r.enrolTx with
     | some t => decide (0 < cyclesSince grant t)
     | none => false)
  if counted then
    if 3 ≤ r.echoes + 1 then s.enrolAgain l d r
    else s.setRecord l d (some { r with echoes := r.echoes + 1 })
  else s

/-- A bad echo in LEVELLING or SOAK: one more soak miss, and the end SOAK-FAILED when they reach F (R106, R109). -/
def State.soakMiss (s : State) (l : LegId) (d : Nat) (r : DropRecord) : State :=
  let s' := s.setRecord l d (some { r with misses := r.misses + 1 })
  if s.params.missLim ≤ r.misses + 1 then s'.endRecord l d .soakFailed true else s'

/-- A good echo in SOAK: one more in the streak, and service with DROP-LIVE when it reaches S (R109, R110). -/
def State.soakGood (s : State) (l : LegId) (d : Nat) (r : DropRecord) : State :=
  let r := { r with streak := r.streak + 1 }
  if s.params.streak ≤ r.streak then
    (s.setRecord l d (some r.toService)).notify
      (.dropLive l d r.tag r.plot r.rosterIndex r.r r.lastPower r.launch r.flags (s.leg l).count)
  else s.setRecord l d (some r)

/-- A bad service burst: one more in the silent run, and the end LAPSED when it reaches 64 (R111). -/
def State.serviceMiss (s : State) (l : LegId) (d : Nat) (r : DropRecord) : State :=
  let s' := s.setRecord l d (some { r with silentRun := r.silentRun + 1 })
  if Config.lapseRun ≤ r.silentRun + 1 then s'.endRecord l d .lapsed true else s'

/-- The counting rule of a GOOD, MISSING or CORRUPT verdict by the state its record is in (R100). -/
def State.countVerdict (s : State) (l : LegId) (d : Nat) (v : Delivered) : State :=
  match s.record l d with
  | none => s
  | some r =>
    let good := decide (v.verdict = .good)
    match r.state, v.kind with
    | .enrolling, .echo =>
        if good then s.setRecord l d (some r.toLevelling) else s.enrolMiss l d v.cycle r
    | .levelling, .echo => if good then s else s.soakMiss l d r
    | .soak, .echo => if good then s.soakGood l d r else s.soakMiss l d { r with streak := 0 }
    | .inService, .service =>
        if good then s.setRecord l d (some { r with silentRun := 0 }) else s.serviceMiss l d r
    | _, _ => s

/-- The drift work of a GOOD verdict judged in full: last drift is set, and a correctable drift is corrected
(R27, R28). -/
def State.driftWork (s : State) (l : LegId) (d : Nat) (v : Delivered) : State :=
  match s.record l d, v.drift with
  | some r, some drift =>
    if v.full then
      let s := s.setRecord l d (some { r with lastDrift := drift })
      if driftClass drift = .correctable then s.correctDrift l d drift else s
    else s
  | _, _ => s

/-- What a good echo reports is kept in its record (R100). -/
def State.keepReport (s : State) (l : LegId) (d : Nat) (v : Delivered) : State :=
  match s.record l d, v.report with
  | some r, some report => s.setRecord l d (some { r with reported := some report })
  | _, _ => s

/-- A verdict is taken by its record (R100): UNJUDGED, or to a frozen record, it moves nothing; DRIFT-FAULT ends the
record (R113); a GOOD one does its drift work before the counting. -/
def State.takeVerdict (s : State) (l : LegId) (d : Nat) (v : Delivered) : State :=
  match s.record l d with
  | none => s
  | some r =>
    if r.frozen then s
    else
      match v.verdict with
      | .unjudged => s
      | .driftFault => s.endRecord l d .driftFault true
      | .good => ((s.keepReport l d v).driftWork l d v).countVerdict l d v
      | _ => s.countVerdict l d v

/-! ## The power outcome (R101 to R103, R107, R108, R112) -/

/-- A power result is stale when the launch field is PENDING or holds the grant's cycle or a later one (R103). -/
def DropRecord.stale (r : DropRecord) (grant : Cycle) : Bool :=
  match r.launchField with
  | .absent => false
  | .pending => true
  | .cycle c => decide (cyclesSince grant c ≤ 0)

/-- The range hint after a result: up with OVER-RANGE, down with UNDER-RANGE, saturating (R102). -/
def DropRecord.hintAfter (r : DropRecord) (a : LevelAttrs) : RangeId :=
  if a.overRange then r.hint.up else if a.underRange then r.hint.down else r.hint

/-- One more unmeasured echo: SOAK with LEVEL-UNKNOWN when they reach eight (R108). -/
def DropRecord.oneUnmeasured (r : DropRecord) : DropRecord :=
  let r := { r with unmeasured := r.unmeasured + 1 }
  if Config.unmeasuredLimit ≤ r.unmeasured then { r.toSoak with flags := { r.flags with unknown := true } } else r

/-- A launch step moved by a levelling decision (R107): the step and its field in the record, and a Launch queued. -/
def State.moveLaunch (s : State) (l : LegId) (d : Nat) (r : DropRecord) (launch : LaunchStep) : State :=
  (s.setRecord l d (some { r with launch := launch, adjustments := r.adjustments + 1, launchField := .pending })).direct
    l (.launch d launch) r.ident

/-- The levelling decision on a usable power result: the table of R107. -/
def State.level (s : State) (l : LegId) (d : Nat) (r : DropRecord) (a : LevelAttrs) : State :=
  let limit := s.setRecord l d (some { r.toSoak with flags := { r.flags with fault := true } })
  if a.strong then
    if r.launch ≠ .q3 ∧ r.adjustments < 3 then s.moveLaunch l d r r.launch.up else limit
  else if a.weak then
    if r.launch ≠ .q0 ∧ r.adjustments < 3 then s.moveLaunch l d r r.launch.down else limit
  else s.setRecord l d (some r.toSoak)

/-- A complete entry with a GOOD verdict in LEVELLING (R102, R103, R107, R108). -/
def State.levellingEntry (s : State) (l : LegId) (d : Nat) (r : DropRecord) (grant : Cycle) : PowerOutcome → State
  | .unmeasured => s.setRecord l d (some r.oneUnmeasured)
  | .result v a =>
    let hint := r.hintAfter a
    let reRanged := decide (hint ≠ r.hint)
    let r' := { r with hint := hint }
    if r.stale grant then s.setRecord l d (some r')
    else if reRanged then s.setRecord l d (some r'.oneUnmeasured)
    else s.level l d { r' with lastPower := some v } a

/-- A complete entry with a GOOD verdict in service (R102, R112). -/
def State.serviceEntry (s : State) (l : LegId) (d : Nat) (r : DropRecord) : PowerOutcome → State
  | .unmeasured => s
  | .result v a =>
    let hint := r.hintAfter a
    if hint ≠ r.hint then s.setRecord l d (some { r with hint := hint })
    else
      s.setRecord l d (some { r with lastPower := some v, flags := { r.flags with drift := a.weak || a.strong } })

/-- A complete entry is taken in the state its record has reached; with a verdict other than GOOD, in another state
or with the flag set, its outcome is used for nothing (R101). -/
def State.takeEntry (s : State) (l : LegId) (d : Nat) (grant : Cycle) (verdict : BurstVerdict) (o : PowerOutcome) :
    State :=
  match s.record l d with
  | none => s
  | some r =>
    if verdict = .good ∧ ¬ r.isolated then
      match r.state with
      | .levelling => s.levellingEntry l d r grant o
      | .inService => s.serviceEntry l d r o
      | _ => s
    else s

/-- The entry of a measurement list for a grant cycle. -/
def DropRecord.measure (r : DropRecord) (grant : Cycle) : Option Measure :=
  r.measures.find? fun m => decide (m.cycle = grant)

/-- The record without the measurement entry of a grant cycle. -/
def DropRecord.dropMeasure (r : DropRecord) (grant : Cycle) : DropRecord :=
  { r with measures := r.measures.filter fun m => decide (m.cycle ≠ grant) }

/-- The record with the measurement entry of a grant cycle mapped. -/
def DropRecord.mapMeasure (r : DropRecord) (grant : Cycle) (f : Measure → Measure) : DropRecord :=
  { r with measures := r.measures.map fun m => if m.cycle = grant then f m else m }

/-- A verdict fills its slot; an entry it completes is removed and taken (R101). -/
def State.fillVerdict (s : State) (l : LegId) (d : Nat) (grant : Cycle) (verdict : BurstVerdict) : State :=
  match s.record l d with
  | none => s
  | some r =>
    match r.measure grant with
    | none => s
    | some m =>
      match m.outcome with
      | none => s.setRecord l d (some (r.mapMeasure grant fun m => { m with verdict := some verdict }))
      | some o => (s.setRecord l d (some (r.dropMeasure grant))).takeEntry l d grant verdict o

/-- A power outcome reaches the record of its identity and fills its slot; an entry it completes is removed and
taken. An outcome with no entry, or for an allocation that has ended, is discarded (R97, R101). -/
def State.deliverOutcome (s : State) (l : LegId) (ident : Identity) (grant : Cycle) (o : PowerOutcome) : State :=
  match s.record l ident.drop with
  | none => s
  | some r =>
    if r.ident = ident then
      match r.measure grant with
      | none => s
      | some m =>
        match m.verdict with
        | none => s.setRecord l ident.drop (some (r.mapMeasure grant fun m => { m with outcome := some o }))
        | some v => (s.setRecord l ident.drop (some (r.dropMeasure grant))).takeEntry l ident.drop grant v o
    else s

/-- A verdict reaches the record of its identity: it is taken, and then it fills its measurement entry. One for an
allocation that has ended is discarded (R97, R100, R101). -/
def State.deliverVerdict (s : State) (l : LegId) (x : Expectation) (look : BurstLook) (judged : Bool) : State :=
  match s.record l x.ident.drop with
  | none => s
  | some r =>
    if r.ident = x.ident then
      let v := settle r x look judged
      (s.takeVerdict l x.ident.drop v).fillVerdict l x.ident.drop x.cycle v.verdict
    else s

end Sys2Proof.Machine
end

