-- ==== Sys2Proof/Machine/Calendar.lean ====
section
/-! DEFINITION. The calendar of a cycle (Chapter 3): the muster window, the echo area, the scaled service grants,
the watched set of its dark intervals, and what the build hands on to the records, the receiver, the Level Meter
and the downstream. -/

namespace Sys2Proof.Machine

/-! ## Mustering (R36 to R39) -/

/-- The conditions of R36 at the build of calendar `n`. -/
def Leg.musters (x : Leg) (n : Cycle) (held : Bool) : Bool :=
  decide (n.toNat % x.setup.interval = 0) && decide (n.toNat ≤ 2 ^ 32 - x.setup.interval)
    && decide (x.state = .running) && x.setup.musterOn && !held && x.run.isNone && !x.receiver.latch

/-- The spill that calendar `n` begins with: the rest of the window that the calendar before it opened (R38). -/
def Leg.spillNow (x : Leg) : Option Nat :=
  match x.calendar with
  | some c => if c.window.isSome && x.derived.spills then some (x.derived.w - Config.cycleTicks) else none
  | none => none

/-- The part of a muster window that stands in its own calendar (R21). -/
def Derived.windowHere (d : Derived) : Nat := if d.spills then Config.cycleTicks else d.w

/-! ## The echo area (R40 to R42) -/

/-- The class that decides the rank of an echo candidate first (R41). -/
def classRank : DropState → Nat
  | .enrolling => 0
  | .levelling => 1
  | .soak => 2
  | .inService => 3
  | .silenced => 4

/-- A record is an echo candidate at the build of calendar `n` (R40). `resumed` are the drops whose Resume leaves at
the start of cycle `n`. -/
def Leg.echoCandidate (x : Leg) (n : Cycle) (resumed : List Nat) (d : Nat) (r : DropRecord) : Bool :=
  decide (classRank r.state ≤ 2) && !r.isolated
    && (match r.echoDue with | some c => decide (0 ≤ cyclesSince n c) | none => false)
    && !x.enrolQueued d && !x.resumeQueued d && !resumed.contains d

/-- The first ranks higher than the second by class, or within a class by an earlier due cycle (R41). Between equal
due cycles the order of drop numbers stands. -/
def ranksBefore (a b : DropRecord) : Bool :=
  decide (classRank a.state < classRank b.state)
    || (decide (classRank a.state = classRank b.state)
        && (match a.echoDue, b.echoDue with
            | some x, some y => decide (cyclesSince x y < 0)
            | _, _ => false))

/-- A candidate put before the first that does not rank higher. -/
def insertRanked (a : Nat × DropRecord) : List (Nat × DropRecord) → List (Nat × DropRecord)
  | [] => [a]
  | b :: rest => if ranksBefore b.2 a.2 then b :: insertRanked a rest else a :: b :: rest

/-- The candidates in rank order. -/
def rankEchoes (cs : List (Nat × DropRecord)) : List (Nat × DropRecord) := cs.foldr insertRanked []

/-- The echo candidates of a leg in rank order; none when the leg is not RUNNING or the cycle is a hold cycle. -/
def Leg.echoCandidates (x : Leg) (n : Cycle) (held : Bool) (resumed : List Nat) : List (Nat × DropRecord) :=
  if held || decide (x.state ≠ .running) then []
  else rankEchoes (x.live.filter fun p => x.echoCandidate n resumed p.1 p.2)

/-- Echo slots of 112 ticks from a position on (R41). -/
def placeEchoes : Nat → List (Nat × DropRecord) → List EchoGrant
  | _, [] => []
  | pos, (d, r) :: rest =>
      { drop := d, position := pos, sequence := r.echoSeq } :: placeEchoes (pos + Config.echoSlot) rest

/-! ## Service grants (R43 to R45) -/

/-- A record is a service candidate at the build (R43). -/
def Leg.serviceCandidate (x : Leg) (resumed : List Nat) (d : Nat) (r : DropRecord) : Bool :=
  decide (r.state = .inService) && !r.isolated && decide (8 ≤ r.share) && !x.resumeQueued d && !resumed.contains d

/-- The service candidates of a leg in ascending drop number; none in a hold cycle. -/
def Leg.serviceCandidates (x : Leg) (held : Bool) (resumed : List Nat) : List (Nat × DropRecord) :=
  if held then [] else x.live.filter fun p => x.serviceCandidate resumed p.1 p.2

/-- The placed share of a record with share `r`, when Σr exceeds the available time (R44). -/
def scaledShare (r available total : Nat) : Nat :=
  let p := r * available / (total * 8) * 8
  if p = 0 then 8 else p

/-- The service grants from a position on, up to the first that would end past the placement end (R45). -/
def placeServices (place : Nat → Nat) (limit : Nat) : Nat → List (Nat × DropRecord) → List ServiceGrant
  | _, [] => []
  | pos, (d, r) :: rest =>
      let p := place r.share
      if pos + p + Config.serviceGrantExtra ≤ limit then
        { drop := d, position := pos, share := p } :: placeServices place limit (pos + p + Config.serviceGrantExtra) rest
      else []

/-! ## The build (R34, R35) -/

/-- Calendar `n` of a leg as its controller builds it at the boundary of instant `marker`. -/
def Leg.buildCalendar (x : Leg) (n : Cycle) (marker : Nat) (held : Bool) (resumed : List Nat) : Calendar :=
  let muster := x.musters n held
  let spill := x.spillNow
  let window := if muster then some x.derived.windowHere else none
  let darkTail := !(muster && x.derived.spills)
  let limit := if darkTail then Config.darkTailStart else Config.cycleTicks
  let start := spill.getD 0 + window.getD 0
  let candidates := x.echoCandidates n held resumed
  let slots := min x.setup.maxEchoes (min candidates.length ((limit - start) / Config.echoSlot))
  let echoes := placeEchoes start (candidates.take slots)
  let serviced := x.serviceCandidates held resumed
  let from' := start + Config.echoSlot * slots
  let available : Int := (limit : Int) - from' - Config.serviceGrantExtra * serviced.length
  let total : Nat := (serviced.map fun p => p.2.share).sum
  let scaled := decide (available < (total : Int)) && !serviced.isEmpty
  let place := fun r => if scaled then scaledShare r available.toNat total else r
  { cycle := n, marker := marker, spill := spill, window := window, echoes := echoes,
    services := placeServices place limit from' serviced, scaled := scaled, darkTail := darkTail, hold := held,
    closed := false }

/-! ## The watched set (R71) -/

/-- The positions of a granted burst with 4 ticks on either side, `shift` ticks on. -/
def burstSpan (shift position length : Nat) : Nat × Nat := (shift + position - 4, shift + position + length + 4)

/-- The spans of a calendar's bursts, in ascending position. -/
def Calendar.burstSpans (c : Calendar) (shift : Nat) : List (Nat × Nat) :=
  (c.echoes.map fun g => burstSpan shift g.position Config.echoLength)
    ++ (c.services.map fun g => burstSpan shift g.position (g.share + Config.serviceOverhead))

/-- The positions of a calendar's spill and muster window that are not watched: all but the last 32 ticks of a
window that ends in it. -/
def Calendar.windowSpan (c : Calendar) : List (Nat × Nat) :=
  match c.spill, c.window with
  | some n, _ => [(0, n - Config.windowGuard)]
  | none, some n => if c.darkTail then [(0, n - Config.windowGuard)] else [(0, Config.cycleTicks)]
  | none, none => []

/-- The gaps from position `pos` to the end of the cycle that ascending spans leave. -/
def gapsFrom : Nat → List (Nat × Nat) → List (Nat × Nat)
  | pos, [] => if pos < Config.cycleTicks then [(pos, Config.cycleTicks)] else []
  | pos, (lo, hi) :: rest =>
      if pos < lo ∧ pos < Config.cycleTicks then
        (pos, min lo Config.cycleTicks) :: gapsFrom (max pos hi) rest
      else gapsFrom (max pos hi) rest

/-- The watched set of a calendar as intervals [from, to): every position that is dark, less any within 4 ticks of
a granted burst of this calendar or of the next (R35, R71). -/
def Calendar.watched (c : Calendar) (next : Option Calendar) : List (Nat × Nat) :=
  gapsFrom 0 (c.windowSpan ++ c.burstSpans 0
    ++ (match next with | some c' => c'.burstSpans Config.cycleTicks | none => []))

/-- Light, given as lit intervals (start, length), was present in a watched tick. -/
def litIn (lit watched : List (Nat × Nat)) : Bool :=
  lit.any fun l => watched.any fun w => decide (0 < l.2) && decide (l.1 < w.2) && decide (w.1 < l.1 + l.2)

/-! ## What the build hands on (R42, R46, R47) -/

/-- A grant becomes an expectation of the leg's receiver (R56). -/
def Leg.expect (x : Leg) (e : Expectation) : Leg :=
  x.mapReceiver fun rx => { rx with expectations := rx.expectations ++ [e] }

/-- A sample request of a grant and its measurement entry: placed in the leg's sample queue, with its range wanted
when the offset is not valid; or refused when the queue holds 16, with the power slot filled "unmeasured" at once
(R46, R101, R127, R130). -/
def State.requestSample (s : State) (l : LegId) (d : Nat) (q : SampleRequest) : State :=
  match s.record l d with
  | none => s
  | some r =>
    let entry (o : Option PowerOutcome) : Measure := { cycle := q.cycle, kind := q.kind, verdict := none, outcome := o }
    if (s.meter.queues.get l).length < Config.maxSamples then
      let m := { s.meter with queues := s.meter.queues.set l (s.meter.queues.get l ++ [q]) }
      let m := if (s.offset l q.range).valid then m else m.addWant l q.range
      (s.setRecord l d (some { r with measures := r.measures ++ [entry none] })).setMeter m
    else s.setRecord l d (some { r with measures := r.measures ++ [entry (some .unmeasured)] })

/-- An echo grant acts on its record, the receiver and the Level Meter (R42, R46, R56). -/
def State.grantEcho (l : LegId) (n : Cycle) (marker : Nat) (s : State) (g : EchoGrant) : State :=
  match s.record l g.drop with
  | none => s
  | some r =>
    let due := if r.state = .soak then n + BitVec.ofNat 32 s.params.interval else n + 1#32
    let arrives := marker + (s.leg l).derived.omega + g.position
    let s := s.setRecord l g.drop (some { r with echoSeq := r.echoSeq + 1#8, echoDue := some due })
    let s := s.mapLeg l fun x => x.expect
      { ident := r.ident, kind := .echo, cycle := n, position := g.position, length := Config.echoLength,
        sequence := g.sequence, arrives := arrives }
    if r.state = .soak then s
    else s.requestSample l g.drop
      { ident := r.ident, cycle := n, kind := .echo, range := r.hint, start := arrives + 40 }

/-- A service grant acts on its record, the receiver and the Level Meter (R46, R56). -/
def State.grantService (l : LegId) (n : Cycle) (marker : Nat) (s : State) (g : ServiceGrant) : State :=
  match s.record l g.drop with
  | none => s
  | some r =>
    let arrives := marker + (s.leg l).derived.omega + g.position
    let s := s.mapLeg l fun x => x.expect
      { ident := r.ident, kind := .service, cycle := n, position := g.position,
        length := g.share + Config.serviceOverhead, sequence := 0#8, arrives := arrives }
    let sampled := match r.lastSample with
      | some c => decide (cyclesSince n c < Config.serviceSampleCycles)
      | none => false
    if sampled then s
    else
      (s.setRecord l g.drop (some { r with lastSample := some n })).requestSample l g.drop
        { ident := r.ident, cycle := n, kind := .service, range := r.hint, start := arrives + 40 }

/-- The grant list of the downstream (R6). -/
def Calendar.grantList (c : Calendar) : List GrantEntry :=
  (c.echoes.map fun g =>
      { drop := g.drop, kind := .echo, position := g.position, length := Config.echoLength, sequence := g.sequence })
    ++ (c.services.map fun g =>
      { drop := g.drop, kind := .service, position := g.position, length := g.share + Config.serviceOverhead,
        sequence := 0#8 })

/-- The receiver takes up a calendar, and begins a window scan when it is a muster cycle's (R47, R63). -/
def Receiver.takeUp (x : Receiver) (c : Calendar) (omega : Nat) : Receiver :=
  { x with
    inHand := x.inHand ++ [c],
    scan := if c.window.isSome then
        some { cycle := c.cycle, marker := c.marker, hunt := omega, found := [] }
      else x.scan }

/-- The leg with a calendar built: it is the current one, its downstream is being transmitted, the receiver takes it
up, and a muster it opens is counted (R34, R37, R47). -/
def Leg.takeCalendar (x : Leg) (c : Calendar) (directives : List Directive) : Leg :=
  { x with
    calendar := some c,
    downstream := some
      { cycle := c.cycle, grants := c.grantList,
        muster := if c.window.isSome then some x.derived.am else none, directives := directives },
    musterCounter := if c.window.isSome then x.musterCounter + 1#32 else x.musterCounter,
    lastMuster := if c.window.isSome then some c.cycle else x.lastMuster,
    receiver := x.receiver.takeUp c x.derived.omega }

/-! ## Holds, expiries and the beginning of a cycle -/

/-- A cycle field that would lie more than 2^30 cycles before the count is the count less 2^30 (R2). -/
def clampCycle (n : Cycle) (f : Option Cycle) : Option Cycle :=
  f.map fun c => if 2 ^ 30 < cyclesSince n c then n - BitVec.ofNat 32 (2 ^ 30) else c

/-- A field holding `c` becomes absent at the start of cycle c + 3 (R30, R103). -/
def InFlight.expire (f : InFlight) (n : Cycle) : InFlight :=
  match f with
  | .cycle c => if 3 ≤ cyclesSince n c then .absent else f
  | other => other

/-- What the start of cycle `n` does to every record of a leg: the clamp of its cycle fields (R2) and the expiry of
its offset and launch fields (R30, R103). -/
def DropRecord.startCycle (r : DropRecord) (n : Cycle) : DropRecord :=
  { r with
    echoDue := clampCycle n r.echoDue, lastSample := clampCycle n r.lastSample, enrolTx := clampCycle n r.enrolTx,
    silenceTx := clampCycle n r.silenceTx, resumeTx := clampCycle n r.resumeTx,
    offsetField := r.offsetField.expire n, launchField := r.launchField.expire n }

/-- The leg with its records at the start of cycle `n`. -/
def Leg.startRecords (x : Leg) (n : Cycle) : Leg :=
  { x with drops := x.drops.map fun r => r.map fun r => r.startCycle n }

/-- The hold of a leg at the build of calendar `n` (R157, R158): it has expired when all its hold cycles are built;
otherwise the calendar is a hold cycle, and the first one places HOLD-BEGUN. -/
def State.holdAtBuild (s : State) (l : LegId) (n : Cycle) : State :=
  match (s.leg l).hold with
  | none => s
  | some h =>
    if h.length ≤ h.built then
      (s.mapLeg l fun x => { x with hold := none }).notify (.holdEnded l .expired h.built n)
    else
      let s := s.mapLeg l fun x =>
        { x with hold := some { h with built := h.built + 1, first := some (h.first.getD n) } }
      match h.first with
      | none => s.notify (.holdBegun l n h.length)
      | some _ => s

/-- The drops whose Resume is among the directives that leave. -/
def resumedDrops (ds : List Directive) : List Nat :=
  ds.filterMap fun d => match d with | .resume d => some d | _ => none

/-- A started leg whose count is `n` begins cycle `n` at the boundary of instant `marker`: its records' expiries,
the departures, the hold, and the build with all it hands on. -/
def State.beginCycle (s : State) (l : LegId) (marker : Nat) : State :=
  let n := (s.leg l).count
  let departed := ((s.leg l).startRecords n).depart n
  let s := (s.setLeg l departed.1).holdAtBuild l n
  let c := (s.leg l).buildCalendar n marker (s.leg l).hold.isSome (resumedDrops departed.2)
  let s := s.mapLeg l fun x => x.takeCalendar c departed.2
  let s := c.echoes.foldl (State.grantEcho l n marker) s
  c.services.foldl (State.grantService l n marker) s

/-- START-LEG takes effect: cycle 0 begins (R151). -/
def State.startCycles (s : State) (l : LegId) (marker : Nat) : State :=
  let state : LegState := if s.bias.state = .ready then .running else .blind
  let s := s.mapLeg l fun x =>
    { x with startPending := false, state := state, count := 0#32, musterCounter := 0#32, lastMuster := none,
             allocCount := 0#32, queue := [] }
  (s.beginCycle l marker).notify (.legState l state 0#32)

/-- The final cycle of a stopping leg: Release ALL and nothing else (R11, R153). -/
def Leg.finalCycle (x : Leg) : Leg :=
  { x with
    count := x.count + 1#32, finalPending := false,
    downstream := some { cycle := x.count + 1#32, grants := [], muster := none,
                         directives := (x.queue.take Config.directivesPerCycle).map fun q => q.dir },
    queue := x.queue.drop Config.directivesPerCycle }

/-- A leg at a boundary (R1, R5, R11, R151): a started leg begins its next cycle, a stopping one its final cycle, one
with a start pending its cycle 0; another sends nothing. -/
def State.beginLeg (s : State) (l : LegId) (marker : Nat) : State :=
  let x := s.leg l
  match x.state with
  | .stopped =>
    if x.finalPending then s.mapLeg l Leg.finalCycle
    else if x.startPending then s.startCycles l marker
    else s.mapLeg l fun x => { x with downstream := none }
  | _ => (s.mapLeg l fun x => { x with count := x.count + 1#32 }).beginCycle l marker

end Sys2Proof.Machine
end

