-- ==== Sys2Proof/Machine/Supply.lean ====
section
/-! DEFINITION. The Bias Supply and what its changes do to the legs, the receivers and the Level Meter (Chapter 8). -/

namespace Sys2Proof.Machine

/-! ## Leaving READY (R133, R147, R164) -/

/-- A RUNNING leg becomes BLIND, with a LEG-STATE notice. -/
def State.blindLeg (s : State) (l : LegId) : State :=
  if (s.leg l).state = .running then
    (s.mapLeg l fun x => { x with state := .blind }).notify (.legState l .blind (s.leg l).count)
  else s

/-- A leg that is no longer RUNNING aborts its isolation run: the turn ends without a culprit, and ISOLATION-DONE
(ABORTED) is placed (R164). -/
def State.abortRun (s : State) (l : LegId) : State := (s.endTurn l).endRun l .aborted none

/-- The announces of a leg whose judgement is not complete are dropped as the bias leaves READY. The loss of a sample
completes the judgement of an announce whose content has ended, and that one stays, UNSAMPLED, when the bias had been
READY since 48 ticks before its delimiter (R57, R66, R67, R70, R133, log 10). -/
def Leg.dropAnnounces (readySince : Nat) (x : Leg) : Leg :=
  x.mapScan fun w =>
    { w with found := w.found.filter fun f =>
        decide (f.sample = .abandoned) && f.ended && decide (readySince + 48 ≤ w.marker + f.a) }

/-- The operation in hand is abandoned as the bias leaves READY (R133): a queued sample is "unmeasured", an announce
becomes UNSAMPLED, and a calibration's range returns to waiting. -/
def State.abandon (s : State) : State :=
  let idle := s.setMeter { s.meter with converter := .idle }
  match s.meter.converter with
  | .idle => s
  | .sampling l (.drop q) _ _ _ => idle.deliverOutcome l q.ident q.cycle .unmeasured
  | .sampling l (.announce a) _ _ _ => idle.mapLeg l fun x => x.mapScan fun w => w.result a .abandoned
  | .calibrating l k _ => idle.setMeter (idle.meter.markWant l k false)

/-- The bias has left READY: every RUNNING leg becomes BLIND, with its LEG-STATE, in leg order (R147); then every
isolation run is aborted, with its ISOLATION-DONE, after those notices (R164), the runs of several legs in leg order too
(DESIGN CHOICE, log 12); the operation in hand is abandoned and the other announces in judgement are dropped. -/
def State.leaveReady (s : State) : State :=
  let s := Quad.all.foldl State.blindLeg s
  let s := Quad.all.foldl State.abortRun s
  let s := s.abandon
  Quad.all.foldl (fun s l => s.mapLeg l (Leg.dropAnnounces s.bias.readySince)) s

/-! ## Entering READY (R126, R141, R147) -/

/-- Every dark offset entry becomes invalid, leg by leg and range by range; the ranges that a leg's queued requests
name join its want list in ascending order (R126, R127, R141; DESIGN CHOICE, log 30). -/
def Meter.invalidateAll (m : Meter) : Meter :=
  Quad.all.foldl (fun m l => Quad.all.foldl (fun m k => m.invalidate l k) m) m

/-- A BLIND leg becomes RUNNING, with a LEG-STATE notice. -/
def State.wakeLeg (s : State) (l : LegId) : State :=
  if (s.leg l).state = .blind then
    (s.mapLeg l fun x => { x with state := .running }).notify (.legState l .running (s.leg l).count)
  else s

/-- The bias enters READY at the boundary of an instant: the offsets, the notice and the legs, in that order. -/
def State.enterReady (s : State) (instant : Nat) : State :=
  let s := s.setBias { s.bias with state := .ready, settle := 0, readySince := instant }
  let s := s.setMeter s.meter.invalidateAll
  let s := s.notify (.biasState .ready .settling .settled)
  Quad.all.foldl State.wakeLeg s

/-- Recovery is complete: the bias enters SETTLING (R143). -/
def State.enterSettling (s : State) : State :=
  (s.setBias { s.bias with state := .settling, settle := 0, recovery := 0 }).notify
    (.biasState .settling .tripped .recovered)

/-! ## Counting at a boundary (R141, R143) -/

/-- The rail has been NORMAL without interruption since the previous boundary (R143). -/
def Rail.steady (r : Rail) : Bool := decide (r.state = .normal) && !r.sagSeen

/-- The Bias Supply at the boundary of an instant: a settle or a recovery goes on, or is complete. -/
def State.countBias (s : State) (instant : Nat) : State :=
  match s.bias.state with
  | .off => s
  | .ready => s
  | .settling =>
    if Config.settleCycles ≤ s.bias.settle + 1 then s.enterReady instant
    else s.setBias { s.bias with settle := s.bias.settle + 1 }
  | .tripped =>
    if s.rail.steady then
      if Config.recoveryCycles ≤ s.bias.recovery + 1 then s.enterSettling
      else s.setBias { s.bias with recovery := s.bias.recovery + 1 }
    else s.setBias { s.bias with recovery := 0 }

/-- The Bias Supply and the Rail Monitor at the boundary of an instant. A bias that has already taken the boundary
does not count it again (log 3). -/
def State.boundaryBias (s : State) (instant : Nat) : State :=
  let s := if s.bias.ahead then s.setBias { s.bias with ahead := false } else s.countBias instant
  s.setRail { s.rail with sagSeen := decide (s.rail.state = .sag) }

/-! ## The bias trips (R142) -/

/-- The rail enters SAG: the state, the latch and RAIL-SAG, then the trip of the bias (R142, R144). RAIL-SAG carries
the bias state that the trip leaves. -/
def State.enterSag (s : State) : State :=
  let previous := s.bias.state
  let trips := decide (previous = .settling) || decide (previous = .ready)
  let s := s.setRail { state := .sag, latch := true, sagSeen := true }
  let s := s.setBias { s.bias with state := if trips then .tripped else previous, settle := 0, recovery := 0 }
  let s := s.notify (.railSag s.bias.state)
  if trips then
    let s := s.notify (.biasState .tripped previous .sag)
    if previous = .ready then s.leaveReady else s
  else s

end Sys2Proof.Machine
end

