-- ==== Sys2Proof/Machine/Clock.lean ====
section
/-! DEFINITION. The boundary of the cycle clock (R1): every leg begins its cycle, the calibration arbiter chooses,
the dark offsets age and the bias counts; and the events that fall due at a boundary, taken ahead of it. An event
that is not due changes nothing (log 1, log 3). -/

namespace Sys2Proof.Machine

/-! ## The calibration arbiter (R128) -/

/-- The four indices in the order that begins at a pointer. -/
def Quad.orderFrom (p : Quad) : List Quad := [p, p.next, p.next.next, p.next.next.next]

/-- A leg is offered a calibration at the boundary of an instant: it is started, the calendar built for it there has
a dark tail, and a range on its want list is waiting. -/
def State.offered (s : State) (instant : Nat) (l : LegId) : Bool :=
  (s.leg l).started
    && (match (s.leg l).calendar with
        | some c => decide (c.marker = instant) && c.darkTail
        | none => false)
    && (s.meter.wants.get l).any fun w => !w.scheduled

/-- The first waiting range of a want list. -/
def firstWaiting (ws : List Want) : Option RangeId := (ws.find? fun w => !w.scheduled).map Want.range

/-- The calibration arbiter's choice at the boundary of an instant: the offered leg that the pointer favours, the
first range it has waiting, at position 31,200 of the calendar just built. -/
def State.arbitrateCalibration (s : State) (instant : Nat) : State :=
  match (Quad.orderFrom s.meter.calPtr).find? (s.offered instant) with
  | none => s
  | some l =>
    match firstWaiting (s.meter.wants.get l) with
    | none => s
    | some k =>
      let m := s.meter.markWant l k true
      s.setMeter
        { m with
          calPtr := l.next,
          scheduled := m.scheduled ++ [{ leg := l, range := k, instant := instant + (s.leg l).derived.omega + 31200 }] }

/-! ## The ages of the dark offsets (R126) -/

/-- One entry at a boundary: a valid one is a cycle older, and invalid at 40,000. -/
def Meter.ageOffset (m : Meter) (l : LegId) (k : RangeId) : Meter :=
  let e := (m.offsets.get l).get k
  if e.valid then
    if Config.offsetLife ≤ e.age + 1 then m.invalidate l k else m.setOffset l k { e with age := e.age + 1 }
  else m

/-- Every entry at a boundary, leg by leg and range by range. -/
def Meter.ageOffsets (m : Meter) : Meter :=
  Quad.all.foldl (fun m l => Quad.all.foldl (fun m k => m.ageOffset l k) m) m

/-! ## The lapse of candidates (R89) -/

/-- A candidate entry has been silent for Q cycles when cycle `n` begins on its leg (R89). -/
def Candidate.lapsed (c : Candidate) (n : Cycle) (q : Nat) : Bool := decide ((q : Int) ≤ cyclesSince n c.lastHeard)

/-- A candidate entry expires at a boundary: its leg is started, and the cycle that began there finds it lapsed. -/
def State.expires (s : State) (c : Candidate) : Bool :=
  (s.leg c.leg).started && c.lapsed (s.leg c.leg).count s.params.timeout

/-- CANDIDATE-LAPSED for an entry (R89). -/
def Candidate.lapseNotice (c : Candidate) : Notice := .candidateLapsed c.tag c.leg c.reason c.lastHeard

/-- The entries that expire at a boundary, of whatever legs, leave the list in list order with one notice each
(R89). -/
def State.lapseCandidates (s : State) : State :=
  let gone := s.candidates.filter s.expires
  gone.foldl (fun s c => s.notify c.lapseNotice) (s.setCandidates (s.candidates.filter fun c => !s.expires c))

/-! ## CYCLE_BOUNDARY -/

/-- A leg at the boundary of an instant; one that has begun the cycle already does not begin it again (log 3). -/
def State.boundaryLeg (instant : Nat) (s : State) (l : LegId) : State :=
  if (s.leg l).ahead then s.mapLeg l fun x => { x with ahead := false } else s.beginLeg l instant

/-- The boundary, in the order of log 3: the legs in leg order, the lapse of candidates, the calibration arbiter, the
offsets' ages, the bias and the rail. -/
def State.boundary (s : State) : State :=
  let instant := s.comingInstant
  let s := Quad.all.foldl (State.boundaryLeg instant) s
  let s := s.lapseCandidates
  let s := s.arbitrateCalibration instant
  let s := s.setMeter s.meter.ageOffsets
  let s := s.boundaryBias instant
  { s with boundaries := s.boundaries + 1 }

/-- CYCLE_BOUNDARY (R1). -/
def execCycleBoundary (s : State) : Host.Outcome State Fault Refusal := event State.boundary s

/-! ## What falls due at a boundary -/

/-- OFFSET_FIELD_EXPIRY (R30): at the start of cycle c + 3 a field holding c becomes absent. -/
def execOffsetFieldExpiry (leg : LegId) (drop : Nat) (s : State) : Host.Outcome State Fault Refusal :=
  event (fun s =>
    match s.record leg drop with
    | none => s
    | some r =>
      s.setRecord leg drop (some { r with offsetField := r.offsetField.expire (s.leg leg).coming })) s

/-- LAUNCH_FIELD_EXPIRY (R103): at the start of cycle c + 3 a field holding c becomes absent. -/
def execLaunchFieldExpiry (leg : LegId) (drop : Nat) (s : State) : Host.Outcome State Fault Refusal :=
  event (fun s =>
    match s.record leg drop with
    | none => s
    | some r =>
      s.setRecord leg drop (some { r with launchField := r.launchField.expire (s.leg leg).coming })) s

/-- DARK_OFFSET_EXPIRY (R126): due for a valid entry whose age reaches 40,000 at the coming boundary. -/
def execDarkOffsetExpiry (leg : LegId) (range : RangeId) (s : State) : Host.Outcome State Fault Refusal :=
  event (fun s =>
    let e := s.offset leg range
    if e.valid && decide (Config.offsetLife ≤ e.age + 1) then s.setMeter (s.meter.invalidate leg range) else s) s

/-- CANDIDATE_LAPSED (R89): due for an entry of a started leg that is Q or more cycles old when the coming cycle
begins. -/
def execCandidateLapsed (tag : FactoryTag) (s : State) : Host.Outcome State Fault Refusal :=
  event (fun s =>
    match s.candidate tag with
    | none => s
    | some c =>
      if (s.leg c.leg).started && c.lapsed (s.leg c.leg).coming s.params.timeout then
        (s.dropCandidate tag).notify c.lapseNotice
      else s) s

/-- A leg's hold expires at the coming boundary: all its hold cycles are built, and the leg has not begun the coming
cycle (R158). -/
def Leg.holdExpires (x : Leg) : Bool :=
  x.started && !x.ahead && (match x.hold with | some h => decide (h.length ≤ h.built) | none => false)

/-- HOLD_EXPIRY (R158): the expiry and the build of calendar f + d are one event, so the leg begins its cycle here
and CYCLE_BOUNDARY finds it ahead. -/
def execHoldExpiry (leg : LegId) (s : State) : Host.Outcome State Fault Refusal :=
  event (fun s =>
    if (s.leg leg).holdExpires then
      (s.beginLeg leg s.comingInstant).mapLeg leg fun x => { x with ahead := true }
    else s) s

/-- The bias with the coming boundary taken. -/
def State.biasAhead (s : State) : State := s.setBias { s.bias with ahead := true }

/-- SETTLE_COMPLETE (R141): due in SETTLING when the coming boundary makes the count 120. -/
def execSettleComplete (s : State) : Host.Outcome State Fault Refusal :=
  event (fun s =>
    if decide (s.bias.state = .settling) && !s.bias.ahead && decide (Config.settleCycles ≤ s.bias.settle + 1) then
      (s.enterReady s.comingInstant).biasAhead
    else s) s

/-- RECOVERY_COMPLETE (R143): due in TRIPPED when the coming boundary makes the count 40. -/
def execRecoveryComplete (s : State) : Host.Outcome State Fault Refusal :=
  event (fun s =>
    if decide (s.bias.state = .tripped) && !s.bias.ahead && s.rail.steady
        && decide (Config.recoveryCycles ≤ s.bias.recovery + 1) then
      s.enterSettling.biasAhead
    else s) s

end Sys2Proof.Machine
end

