-- ==== Sys2Proof/Machine/Admission.lean ====
section
/-! DEFINITION. The admission of an announce at the end of its window (R81 to R88), over the Roster Table, the
Candidate List and the drop table of the leg that heard it. -/

namespace Sys2Proof.Machine

/-- Admission's allocation: the lowest FREE record of leg `l` is allocated from the roster entry of index `i`
(R85, R92); nothing when no record is FREE. -/
def State.takeIn (s : State) (l : LegId) (i : Nat) (e : RosterEntry) (r : Nat) (launch : LaunchStep)
    (power : Option Int) (vector : AttrSet) : State :=
  match firstFree (s.leg l).drops with
  | none => s
  | some d =>
    s.allocate l d { tag := e.tag, index := i, plot := e.plot, share := e.share, r := r, launch := launch,
                     power := power, vector := vector }

/-- The candidate entry that an announce creates (R88). -/
def newCandidate (l : LegId) (a : Announce) (reason : HeldReason) (i : Option Nat) : Candidate :=
  { tag := a.tag, leg := l, reason := reason, r := a.r, power := a.power, vector := a.vector, launch := a.launch,
    rosterIndex := i, firstHeard := a.cycle, lastHeard := a.cycle }

/-- The announce is held as a candidate with CANDIDATE-HELD, or discarded when the list holds 16 (R86, R88). -/
def State.holdCandidate (s : State) (l : LegId) (a : Announce) (reason : HeldReason) (i : Option Nat) : State :=
  if s.candidates.length < Config.maxCandidates then
    (s.setCandidates (s.candidates ++ [newCandidate l a reason i])).notify
      (.candidateHeld a.tag l reason a.r a.power a.vector a.launch i a.cycle)
  else s

/-- The candidate's refresh by an announce on its own leg (R82). -/
def Candidate.refresh (c : Candidate) (a : Announce) : Candidate :=
  { c with r := a.r, power := a.power, vector := a.vector, launch := a.launch, lastHeard := a.cycle }

/-- Steps 5 to 7 of R81: the entry of index `i` is EXPECTED. -/
def State.decideExpected (s : State) (l : LegId) (a : Announce) (i : Nat) (e : RosterEntry) : State :=
  if e.expected = .any ∨ e.expected = .leg l then
    match firstFree (s.leg l).drops with
    | none => s.holdCandidate l a .fullLeg (some i)
    | some _ => s.takeIn l i e a.r a.launch a.power a.vector
  else s.holdCandidate l a .crossed (some i)

/-- Step 3 of R81: the entry's link names drop `d` on the leg that heard the announce (R84). The record ends whole,
with the skip of an isolation turn it was in and the Silence or ISOLATION-DONE of that skip, before the fresh decision
queues its Enrol or holds its candidate (DESIGN CHOICE, log 29). -/
def State.restarted (s : State) (l : LegId) (a : Announce) (i : Nat) (e : RosterEntry) (d : Nat) : State :=
  match s.record l d with
  | none => s
  | some r =>
    if r.state = .enrolling then s
    else (s.endRecord l d .superseded false).decideExpected l a i { e with state := .expected, link := none }

/-- The admission of one announce heard on leg `l` (R81): the roster entry's last heard, then the first case that
applies. -/
def State.admission (s : State) (l : LegId) (a : Announce) : State :=
  let s := s.heard a.tag l a.cycle
  match s.candidate a.tag with
  | some c =>
    if c.leg = l then
      s.setCandidates (s.candidates.map fun c => if c.tag = a.tag then c.refresh a else c)
    else s
  | none =>
    match s.rosterEntry a.tag with
    | some (i, e) =>
      match e.state, e.link with
      | .barred, _ => s.mapLeg l fun x => x.park a.tag
      | .active, some (l', d) =>
        if l' = l then s.restarted l a i e d else s.holdCandidate l a .duplicate (some i)
      | _, _ => s.decideExpected l a i e
    | none =>
      match (s.leg l).setup.policy with
      | .hold => s.holdCandidate l a .unknown none
      | .discard => s

end Sys2Proof.Machine
end

