-- ==== Sys2Proof/Machine/PartRequests.lean ====
section
/-! DEFINITION. The requests that concern the part as a whole: STATUS, RESET and BIAS (R140, R172, R173). -/

namespace Sys2Proof.Machine

/-- A leg's state with its marks, as STATUS and LEG-READ give them (R148). -/
def legStateBytes (x : Leg) : List Byte := u8 (legStateNo x.state) ++ flagByte x.startPending ++ flagByte x.finalPending

/-- The values of a STATUS reply (R172). -/
def State.statusValues (s : State) : List Byte :=
  u8 (causeNo s.iface.cause) ++ u8 (biasNo s.bias.state) ++ u8 (railNo s.rail.state) ++ flagByte s.rail.latch
    ++ legStateBytes (s.leg .q0) ++ legStateBytes (s.leg .q1) ++ legStateBytes (s.leg .q2) ++ legStateBytes (s.leg .q3)
    ++ u16 (usedCount s.roster) ++ u8 s.candidates.length ++ u8 s.iface.notices.length ++ u8 s.iface.buffer.length

/-- STATUS: reports the part and clears the sag latch in the same event (R146, R172). -/
def answerStatus (payload : List Byte) (s : State) : Answer :=
  parsed parseEmpty (fun _ s => done (s.setRail { s.rail with latch := false }) s.statusValues) payload s

/-- RESET: a requested reset is pending from here on (R173). -/
def answerReset (payload : List Byte) (s : State) : Answer :=
  parsed parseEmpty (fun _ s => done (s.setIface { s.iface with resetPending := true }) []) payload s

/-- The Bias Supply in a state newly entered, both counts 0 (R139). -/
def State.biasTo (s : State) (b : BiasState) : State :=
  s.setBias { s.bias with state := b, settle := 0, recovery := 0 }

/-- The table of R140: BIAS ON. -/
def State.biasOn (s : State) : State :=
  match s.bias.state with
  | .off => s.biasTo (if s.rail.state = .normal then .settling else .tripped)
  | _ => s

/-- The table of R140: BIAS OFF. -/
def State.biasOff (s : State) : State :=
  match s.bias.state with
  | .off => s
  | .ready => (s.biasTo .off).leaveReady
  | _ => s.biasTo .off

/-- BIAS: ON or OFF, answered with the bias state it leaves (R140). -/
def answerBias (payload : List Byte) (s : State) : Answer :=
  parsed parseChoice (fun on s =>
    let s' := if on then s.biasOn else s.biasOff
    done s' (u8 (biasNo s'.bias.state))) payload s

/-- STATUS (R172). -/
def execStatus (tag : Byte) (payload : List Byte) (s : State) : Host.Outcome State Fault Refusal :=
  event (frameRequest tag 0x01#8 (answerStatus payload)) s

/-- RESET (R173). -/
def execReset (tag : Byte) (payload : List Byte) (s : State) : Host.Outcome State Fault Refusal :=
  event (frameRequest tag 0x02#8 (answerReset payload)) s

/-- BIAS (R140). -/
def execBias (tag : Byte) (payload : List Byte) (s : State) : Host.Outcome State Fault Refusal :=
  event (frameRequest tag 0x03#8 (answerBias payload)) s

end Sys2Proof.Machine
end

