-- ==== Sys2Proof/Machine/LegRequests.lean ====
section
/-! DEFINITION. The requests about a leg (Chapter 9): setup, start, stop, musters, the quiet hold, the isolation run
and the read. -/

namespace Sys2Proof.Machine

/-! ## SETUP-LEG (R150) -/

/-- The ranges of near, far and trim. -/
def SetupFields.reachOk (f : SetupFields) : Bool :=
  decide (f.near ≤ 239) && decide (f.near < f.far) && decide (f.far ≤ 240) && decide (f.trim ≤ 255)

/-- Z as entered is 0, or a multiple of 20 from 25 × far_m to 600,000. -/
def SetupFields.zOk (f : SetupFields) : Bool :=
  decide (f.zEntered = 0)
    || (decide (f.zEntered % 20 = 0) && decide (2500 * f.far ≤ f.zEntered) && decide (f.zEntered ≤ 600000))

/-- The ranges of M and of the maximum echoes. -/
def SetupFields.musterOk (f : SetupFields) : Bool :=
  decide (8 ≤ f.interval) && decide (f.interval ≤ 4000) && decide (1 ≤ f.maxEchoes) && decide (f.maxEchoes ≤ 16)

/-- The setup a request carries, its announce range being `k`. -/
def SetupFields.setup (f : SetupFields) (k : RangeId) : Setup :=
  { near := f.near, far := f.far, zEntered := f.zEntered, trim := f.trim, interval := f.interval,
    maxEchoes := f.maxEchoes, mask := f.mask, matchSet := f.matchSet, announceRange := k, policy := f.policy,
    musterOn := f.musterOn }

/-- The derived values of a setup (R18 to R20). -/
def Setup.derived (x : Setup) : Derived := derive x.near x.far x.zEntered x.trim

/-- The effective Z and the four derived values, as replies carry them. -/
def Derived.values (d : Derived) : List Byte := u32 d.z ++ u16 d.omega ++ u16 d.span ++ u16 d.w ++ u16 d.am

/-- A leg that is STOPPED with neither mark set. -/
def Leg.quiet (x : Leg) : Bool := decide (x.state = .stopped) && !x.startPending && !x.finalPending

/-- SETUP-LEG: the checks in order, then the whole setup and its derived values replaced (R150). -/
def answerSetupLeg (payload : List Byte) (s : State) : Answer :=
  parsed parseSetup (fun f => withLeg f.leg fun l s =>
    if !(s.leg l).quiet then refuse .wrongState s
    else if !f.reachOk then refuse .outOfRange s
    else if !f.zOk then refuse .outOfRange s
    else if !f.musterOk then refuse .outOfRange s
    else
      match Quad.ofNat? f.announceRange with
      | none => refuse .outOfRange s
      | some k =>
        let setup := f.setup k
        done (s.mapLeg l fun x => { x with setup := setup, derived := setup.derived }) setup.derived.values) payload s

/-! ## START-LEG and STOP-LEG (R151, R152) -/

/-- START-LEG: a quiet leg has a start pending (R151). -/
def answerStartLeg (payload : List Byte) (s : State) : Answer :=
  parsed parseByte (fun n => withLeg n fun l s =>
    if !(s.leg l).quiet then refuse .wrongState s
    else done (s.mapLeg l fun x => { x with startPending := true }) []) payload s

/-- Step 3 of R152: a quiet hold ends with the cause given. -/
def State.endHold (s : State) (l : LegId) (cause : HoldCause) : State :=
  match (s.leg l).hold with
  | none => s
  | some h => (s.mapLeg l fun x => { x with hold := none }).notify (.holdEnded l cause h.built (s.leg l).count)

/-- Step 4 of R152: every record that is not FREE ends STOPPED, in ascending drop number, with no Release. -/
def State.endAll (s : State) (l : LegId) : State :=
  (s.leg l).live.foldl (fun s p => s.endRecord l p.1 .stopped false) s

/-- Step 7 of R152: the receiver is cleared; its light history stands (R56). -/
def Receiver.cleared (x : Receiver) : Receiver := { Receiver.reset with lightHistory := x.lightHistory }

/-- The leg of the converter's operation in hand. -/
def Converter.leg? : Converter → Option LegId
  | .idle => none
  | .sampling l _ _ _ _ => some l
  | .calibrating l _ _ => some l

/-- Step 8 of R152: the Level Meter drops all it holds of a leg, delivering nothing (R133). -/
def Meter.dropLeg (m : Meter) (l : LegId) : Meter :=
  { m with
    converter := if m.converter.leg? = some l then .idle else m.converter,
    queues := m.queues.set l [], wants := m.wants.set l [],
    scheduled := m.scheduled.filter fun c => decide (c.leg ≠ l) }

/-- The teardown of a started leg: the ten steps of R152, in order. -/
def State.teardown (s : State) (l : LegId) : State :=
  let s := s.mapLeg l fun x => { x with state := .stopped, finalPending := true }
  let s := s.endRun l .aborted none
  let s := s.endHold l .stopped
  let s := s.endAll l
  let s := s.setCandidates (s.candidates.filter fun c => decide (c.leg ≠ l))
  let s := s.mapLeg l fun x =>
    { x with queue := [{ dir := .releaseAll, ident := none, follow := FollowOn.empty }] }
  let s := s.mapLeg l fun x => x.mapReceiver Receiver.cleared
  let s := s.setMeter (s.meter.dropLeg l)
  let s := s.mapLeg l fun x => { x with calendar := none }
  s.notify (.legState l .stopped (s.leg l).count)

/-- STOP-LEG (R152). -/
def answerStopLeg (payload : List Byte) (s : State) : Answer :=
  parsed parseByte (fun n => withLeg n fun l s =>
    if (s.leg l).started then done (s.teardown l) [] else refuse .wrongState s) payload s

/-! ## LEG-MUSTER (R154) -/

/-- LEG-MUSTER: the muster flag, in any leg state. -/
def answerLegMuster (payload : List Byte) (s : State) : Answer :=
  parsed parseLegMuster (fun f => withLeg f.leg fun l s =>
    done (s.mapLeg l fun x => { x with setup := { x.setup with musterOn := f.on } }) []) payload s

/-! ## LEG-READ (R55, R155) -/

/-- A group of fields present or absent as a whole (R177). -/
def groupBytes {α : Type} (f : α → List Byte) : Option α → List Byte
  | none => [0#8]
  | some a => 1#8 :: f a

/-- The leg setup, in SETUP-LEG's order. -/
def Setup.values (x : Setup) : List Byte :=
  u8 x.near ++ u8 x.far ++ u32 x.zEntered ++ u16 x.trim ++ u16 x.interval ++ u8 x.maxEchoes ++ attrByte x.mask
    ++ attrByte x.matchSet ++ u8 x.announceRange.val ++ u8 (policyNo x.policy) ++ flagByte x.musterOn

/-- The hold group. -/
def Hold.values (h : Hold) : List Byte := u16 h.length ++ optCycleBytes h.first ++ u16 h.built

/-- The isolation run group. The clean watched cycles have 1 byte (DEDUCED, log 13). -/
def IsolationRun.values (r : IsolationRun) : List Byte :=
  u8 r.list.length ++ u8 r.pos ++ optByte ((r.list[r.pos]?).map Identity.drop) ++ u8 (phaseNo r.phase)
    ++ optCycleBytes r.silence ++ u8 r.clean

/-- The calendar summary (R55). -/
def Calendar.values (c : Calendar) : List Byte :=
  cycleBytes c.cycle ++ flagByte c.window.isSome ++ u16 (c.spill.getD 0 + c.window.getD 0) ++ flagByte c.spill.isSome
    ++ u8 c.echoes.length ++ u8 (c.echoes.length + c.services.length) ++ flagByte c.scaled ++ flagByte c.darkTail

/-- The number of records of a leg in a state. -/
def Leg.countIn (x : Leg) (st : DropState) : Nat := (x.live.filter fun p => decide (p.2.state = st)).length

/-- The values of a LEG-READ reply (R155). The clean-cycle count has 1 byte (DEDUCED, log 13). -/
def Leg.values (x : Leg) : List Byte :=
  legStateBytes x ++ cycleBytes x.count
    ++ x.setup.values ++ x.derived.values
    ++ groupBytes Hold.values x.hold ++ groupBytes IsolationRun.values x.run
    ++ flagByte x.receiver.latch ++ u8 x.receiver.cleanCount ++ u8 x.receiver.announces.length
    ++ groupBytes Calendar.values x.calendar
    ++ u32 x.musterCounter.toNat ++ optCycleBytes x.lastMuster ++ u8 x.queue.length ++ u8 (parkCount x.queue)
    ++ u8 (x.drops.length - usedCount x.drops) ++ u8 (x.countIn .enrolling) ++ u8 (x.countIn .levelling)
    ++ u8 (x.countIn .soak) ++ u8 (x.countIn .inService) ++ u8 (x.countIn .silenced)

/-- LEG-READ (R155). -/
def answerLegRead (payload : List Byte) (s : State) : Answer :=
  parsed parseByte (fun n => withLeg n fun l s => done s (s.leg l).values) payload s

/-! ## HOLD-LEG and UNHOLD-LEG (R156, R159) -/

/-- HOLD-LEG: the checks in order, then the hold is in effect (R156). -/
def answerHoldLeg (payload : List Byte) (s : State) : Answer :=
  parsed parseHold (fun f => withLeg f.leg fun l s =>
    let x := s.leg l
    if !(x.started && x.hold.isNone && x.run.isNone) then refuse .wrongState s
    else if f.length < 1 ∨ Config.maxHold < f.length then refuse .outOfRange s
    else
      done (s.mapLeg l fun x => { x with hold := some { length := f.length, first := none, built := 0 } }) [])
    payload s

/-- UNHOLD-LEG: a hold in effect ends RELEASED (R159). -/
def answerUnholdLeg (payload : List Byte) (s : State) : Answer :=
  parsed parseByte (fun n => withLeg n fun l s =>
    if (s.leg l).hold.isSome then done (s.endHold l .released) [] else refuse .wrongState s) payload s

/-! ## ISOLATE-LEG (R160) -/

/-- The turn list: every record in ENROLLING, LEVELLING, SOAK or IN-SERVICE, in ascending drop number. -/
def Leg.turnList (x : Leg) : List Identity :=
  (x.live.filter fun p => decide (p.2.state ≠ .silenced)).map fun p => p.2.ident

/-- ISOLATE-LEG: the run becomes active and its first turn begins, or the run ends at once (R160). -/
def answerIsolateLeg (payload : List Byte) (s : State) : Answer :=
  parsed parseByte (fun n => withLeg n fun l s =>
    let x := s.leg l
    if decide (x.state = .running) && x.receiver.latch && x.hold.isNone && x.run.isNone then
      let list := x.turnList
      let run : IsolationRun :=
        { list := list, pos := 0, begun := 0, phase := .silenceQueued, silence := none, clean := 0 }
      done (beginTurn l run list 0 (s.mapLeg l fun x => { x with run := some run })) (u8 list.length)
    else refuse .wrongState s) payload s

/-! ## The commands -/

/-- SETUP-LEG (R150). -/
def execSetupLeg (tag : Byte) (payload : List Byte) (s : State) : Host.Outcome State Fault Refusal :=
  event (frameRequest tag 0x10#8 (answerSetupLeg payload)) s

/-- START-LEG (R151). -/
def execStartLeg (tag : Byte) (payload : List Byte) (s : State) : Host.Outcome State Fault Refusal :=
  event (frameRequest tag 0x11#8 (answerStartLeg payload)) s

/-- STOP-LEG (R152). -/
def execStopLeg (tag : Byte) (payload : List Byte) (s : State) : Host.Outcome State Fault Refusal :=
  event (frameRequest tag 0x12#8 (answerStopLeg payload)) s

/-- LEG-MUSTER (R154). -/
def execLegMuster (tag : Byte) (payload : List Byte) (s : State) : Host.Outcome State Fault Refusal :=
  event (frameRequest tag 0x13#8 (answerLegMuster payload)) s

/-- LEG-READ (R155). -/
def execLegRead (tag : Byte) (payload : List Byte) (s : State) : Host.Outcome State Fault Refusal :=
  event (frameRequest tag 0x14#8 (answerLegRead payload)) s

/-- HOLD-LEG (R156). -/
def execHoldLeg (tag : Byte) (payload : List Byte) (s : State) : Host.Outcome State Fault Refusal :=
  event (frameRequest tag 0x15#8 (answerHoldLeg payload)) s

/-- UNHOLD-LEG (R159). -/
def execUnholdLeg (tag : Byte) (payload : List Byte) (s : State) : Host.Outcome State Fault Refusal :=
  event (frameRequest tag 0x16#8 (answerUnholdLeg payload)) s

/-- ISOLATE-LEG (R160). -/
def execIsolateLeg (tag : Byte) (payload : List Byte) (s : State) : Host.Outcome State Fault Refusal :=
  event (frameRequest tag 0x17#8 (answerIsolateLeg payload)) s

end Sys2Proof.Machine
end

