-- ==== Sys2Proof/Machine/RosterRequests.lean ====
section
/-! DEFINITION. The roster requests, VERDICT and CANDIDATE-READ (Chapter 5). -/

namespace Sys2Proof.Machine

/-- The expected leg that a byte carries: 0..3, or ANY (R177). -/
def expectedOf (n : Nat) : Option ExpectedLeg :=
  if n = 255 then some .any else (Quad.ofNat? n).map ExpectedLeg.leg

/-- A plot label and a share in their ranges (R74). -/
def rosterValuesOk (plot share : Nat) : Bool :=
  decide (1 ≤ plot) && decide (plot ≤ 4095) && decide (share ≤ 8000) && decide (share % 8 = 0)

/-! ## ROSTER-PUT (R76, R77) -/

/-- The state that a barred flag asks for. -/
def putState (barred : Bool) : RosterState := if barred then .barred else .expected

/-- A new entry at the lowest free index; a candidate with the tag takes the index (R76, R80). -/
def State.putNew (s : State) (f : RosterPutFields) (leg : ExpectedLeg) : Answer :=
  match firstFree s.roster with
  | none => refuse .noRoom s
  | some i =>
    let e : RosterEntry :=
      { tag := f.tag, plot := f.plot, expected := leg, share := f.share, state := putState f.barred, link := none,
        lastHeard := none }
    done ((s.setRosterAt i (some e)).indexCandidate f.tag (some i)) (u16 i)

/-- The record a link names takes a plot label and a share (R77). -/
def State.relabel (s : State) (link : Option (LegId × Nat)) (plot share : Nat) : State :=
  match link with
  | none => s
  | some (l, d) =>
    match s.record l d with
    | none => s
    | some r => s.setRecord l d (some { r with plot := plot, share := share })

/-- The entry that holds the tag is changed: R77 when it is ACTIVE, else R76. -/
def State.putOver (s : State) (f : RosterPutFields) (leg : ExpectedLeg) (i : Nat) (e : RosterEntry) : Answer :=
  if e.state = .active then
    if f.barred ∨ e.expected ≠ leg then refuse .wrongState s
    else
      done ((s.setRosterAt i (some { e with plot := f.plot, share := f.share })).relabel e.link f.plot f.share) (u16 i)
  else
    done (s.setRosterAt i (some
      { e with plot := f.plot, expected := leg, share := f.share, state := putState f.barred })) (u16 i)

/-- ROSTER-PUT (R76). -/
def answerRosterPut (payload : List Byte) (s : State) : Answer :=
  parsed parseRosterPut (fun f s =>
    match rosterValuesOk f.plot f.share, expectedOf f.leg with
    | true, some leg =>
      match s.rosterEntry f.tag with
      | none => s.putNew f leg
      | some (i, e) => s.putOver f leg i e
    | _, _ => refuse .outOfRange s) payload s

/-! ## ROSTER-REMOVE and ROSTER-READ (R78, R79) -/

/-- ROSTER-REMOVE: the entry is removed and a candidate with the tag loses its index (R78, R80). -/
def answerRosterRemove (payload : List Byte) (s : State) : Answer :=
  parsed parseTag (fun t s =>
    match s.rosterEntry t with
    | none => refuse .notFound s
    | some (i, e) =>
      if e.state = .active then refuse .wrongState s
      else done ((s.setRosterAt i none).indexCandidate t none) (u16 i)) payload s

/-- The values of an entry as ROSTER-READ gives them. -/
def RosterEntry.values (e : RosterEntry) (i : Nat) : List Byte :=
  u16 i ++ tagBytes e.tag ++ u16 e.plot ++ expectedByte e.expected ++ u16 e.share ++ u8 (rosterStateNo e.state)
    ++ optLegByte (e.link.map Prod.fst) ++ optByte (e.link.map Prod.snd)
    ++ optLegByte (e.lastHeard.map Prod.fst) ++ optCycleBytes (e.lastHeard.map Prod.snd)

/-- ROSTER-READ by index or by tag (R79). -/
def answerRosterRead (payload : List Byte) (s : State) : Answer :=
  parsed parseRosterKey (fun k s =>
    match k with
    | .number i =>
      if 255 < i then refuse .outOfRange s
      else
        match s.rosterAt i with
        | none => refuse .notFound s
        | some e => done s (e.values i)
    | .tag t =>
      match s.rosterEntry t with
      | none => refuse .notFound s
      | some (i, e) => done s (e.values i)) payload s

/-! ## VERDICT (R90 to R94) -/

/-- The checks of R91 on the roster values when no entry holds the tag; the expected leg they carry when they pass. -/
def VerdictFields.newEntry (f : VerdictFields) (leg : LegId) : Except ReplyCode ExpectedLeg :=
  if f.plot = 0 ∨ f.share = 65535 ∨ f.leg = 254 then .error .malformed
  else
    match rosterValuesOk f.plot f.share, expectedOf f.leg with
    | true, some .any => .ok .any
    | true, some (.leg l) => if l = leg then .ok (.leg l) else .error .outOfRange
    | _, _ => .error .outOfRange

/-- The checks of R91, in order: the entry the ADMIT uses, with its index. A new entry has no last heard (R92;
DESIGN CHOICE, log 28). -/
def State.admitCheck (s : State) (f : VerdictFields) (c : Candidate) : Except ReplyCode (Nat × RosterEntry) :=
  let room := match firstFree (s.leg c.leg).drops with
    | none => false
    | some _ => true
  match s.rosterEntry f.tag with
  | some (i, e) =>
    if e.state = .barred then .error .wrongState
    else if room then .ok (i, e) else .error .noRoom
  | none =>
    match f.newEntry c.leg with
    | .error r => .error r
    | .ok leg =>
      match firstFree s.roster with
      | none => .error .noRoom
      | some i =>
        if room then
          .ok (i, { tag := f.tag, plot := f.plot, expected := leg, share := f.share, state := .expected,
                    link := none, lastHeard := none })
        else .error .noRoom

/-- An entry with its expected leg corrected to the candidate's, unless it is ANY (R92, item 2). -/
def RosterEntry.correct (e : RosterEntry) (l : LegId) : RosterEntry :=
  match e.expected with
  | .any => e
  | .leg _ => { e with expected := .leg l }

/-- The record linked to an ACTIVE entry is ended SUPERSEDED with a Release (R92, item 3). -/
def State.supersedeLinked (s : State) (e : RosterEntry) : State :=
  match e.state, e.link with
  | .active, some (l, d) => s.endRecord l d .superseded true
  | _, _ => s

/-- An ADMIT that has passed its checks, in the order of R92; the skip of an isolation turn that item 3 cuts short goes
with item 3, and so before the Enrol of item 4 (DESIGN CHOICE, log 29). -/
def State.carryAdmit (s : State) (c : Candidate) (i : Nat) (e : RosterEntry) : State :=
  let e := e.correct c.leg
  let s := s.setRosterAt i (some e)
  let s := s.supersedeLinked e
  let s := s.takeIn c.leg i e c.r c.launch c.power c.vector
  s.dropCandidate c.tag

/-- VERDICT (R90): ADMIT or REJECT of the candidate that holds the tag. -/
def answerVerdict (payload : List Byte) (s : State) : Answer :=
  parsed parseVerdict (fun f s =>
    match s.candidate f.tag with
    | none => refuse .notFound s
    | some c =>
      if f.reject then done ((s.dropCandidate f.tag).mapLeg c.leg fun x => x.park f.tag) []
      else
        match s.admitCheck f c with
        | .error r => refuse r s
        | .ok (i, e) =>
          let s' := s.carryAdmit c i e
          let drop := match s'.rosterAt i with
            | some e' => e'.link.map Prod.snd
            | none => none
          done s' (u16 i ++ optByte drop)) payload s

/-! ## CANDIDATE-READ (R95) -/

/-- The values of a candidate entry at a position of a list of `n`. -/
def Candidate.values (c : Candidate) (pos n : Nat) : List Byte :=
  tagBytes c.tag ++ legByte c.leg ++ u8 (heldReasonNo c.reason) ++ distanceBytes c.r ++ u32 c.r
    ++ optPowerBytes c.power ++ attrByte c.vector ++ u8 c.launch.val ++ optIndexBytes c.rosterIndex
    ++ cycleBytes c.firstHeard ++ cycleBytes c.lastHeard ++ u8 pos ++ u8 n

/-- CANDIDATE-READ by list position or by tag (R95). -/
def answerCandidateRead (payload : List Byte) (s : State) : Answer :=
  parsed parseCandidateKey (fun k s =>
    let reply (pos : Nat) : Answer :=
      match s.candidates[pos]? with
      | none => refuse .notFound s
      | some c => done s (c.values pos s.candidates.length)
    match k with
    | .number pos => if Config.maxCandidates ≤ pos then refuse .outOfRange s else reply pos
    | .tag t => reply (s.candidates.findIdx fun c => decide (c.tag = t))) payload s

/-! ## The commands -/

/-- ROSTER-PUT (R76). -/
def execRosterPut (tag : Byte) (payload : List Byte) (s : State) : Host.Outcome State Fault Refusal :=
  event (frameRequest tag 0x20#8 (answerRosterPut payload)) s

/-- ROSTER-REMOVE (R78). -/
def execRosterRemove (tag : Byte) (payload : List Byte) (s : State) : Host.Outcome State Fault Refusal :=
  event (frameRequest tag 0x21#8 (answerRosterRemove payload)) s

/-- ROSTER-READ (R79). -/
def execRosterRead (tag : Byte) (payload : List Byte) (s : State) : Host.Outcome State Fault Refusal :=
  event (frameRequest tag 0x22#8 (answerRosterRead payload)) s

/-- VERDICT (R90). -/
def execVerdict (tag : Byte) (payload : List Byte) (s : State) : Host.Outcome State Fault Refusal :=
  event (frameRequest tag 0x23#8 (answerVerdict payload)) s

/-- CANDIDATE-READ (R95). -/
def execCandidateRead (tag : Byte) (payload : List Byte) (s : State) : Host.Outcome State Fault Refusal :=
  event (frameRequest tag 0x24#8 (answerCandidateRead payload)) s

end Sys2Proof.Machine
end

