-- ==== Sys2Proof/Machine/DropRequests.lean ====
section
/-! DEFINITION. The requests about drop records and the activation parameters (Chapter 6). -/

namespace Sys2Proof.Machine

/-! ## SET-ACTIVATION and ACTIVATION-READ (R120, R121) -/

/-- The ranges of the six activation parameters. -/
def ActivationFields.ok (f : ActivationFields) : Bool :=
  decide (4 ≤ f.streak) && decide (f.streak ≤ 64) && decide (1 ≤ f.interval) && decide (f.interval ≤ 64)
    && decide (1 ≤ f.missLim) && decide (f.missLim ≤ 16) && decide (-500 ≤ f.floor) && decide (f.floor < f.ceiling)
    && decide (f.ceiling ≤ 100) && decide (400 ≤ f.timeout) && decide (f.timeout ≤ 40000)

/-- The parameters a request carries. -/
def ActivationFields.params (f : ActivationFields) : Activation :=
  { streak := f.streak, interval := f.interval, missLim := f.missLim, floor := f.floor, ceiling := f.ceiling,
    timeout := f.timeout }

/-- SET-ACTIVATION: taken while every leg is STOPPED (R120). -/
def answerSetActivation (payload : List Byte) (s : State) : Answer :=
  parsed parseActivation (fun f s =>
    if Quad.all.any fun l => (s.leg l).started then refuse .wrongState s
    else if f.ok then done (s.setParams f.params) []
    else refuse .outOfRange s) payload s

/-- The six parameters as ACTIVATION-READ gives them; the echo interval has 1 byte (DEDUCED, log 13). -/
def Activation.values (a : Activation) : List Byte :=
  u8 a.streak ++ u8 a.interval ++ u8 a.missLim ++ i16 a.floor ++ i16 a.ceiling ++ u16 a.timeout

/-- ACTIVATION-READ (R121). -/
def answerActivationRead (payload : List Byte) (s : State) : Answer :=
  parsed parseEmpty (fun _ s => done s s.params.values) payload s

/-! ## Requests about one record (R114, R115, R117, R122) -/

/-- A request about a drop record: OUT-OF-RANGE for a leg that is not 0..3 or a drop number that is not 0..63. -/
def withDrop (f : DropFields) (act : LegId → Nat → State → Answer) (s : State) : Answer :=
  withLeg f.leg (fun l s => if f.drop < Config.dropsPerLeg then act l f.drop s else refuse .outOfRange s) s

/-- DROP-SILENCE: the record becomes SILENCED and a Silence is queued (R114). -/
def answerDropSilence (payload : List Byte) (s : State) : Answer :=
  parsed parseDrop (fun f => withDrop f fun l d s =>
    match s.record l d with
    | none => refuse .wrongState s
    | some r =>
      if r.state = .silenced then refuse .wrongState s
      else
        done ((s.setRecord l d (some { r with state := .silenced, resumeTo := some r.state })).direct l (.silence d)
          r.ident) []) payload s

/-- DROP-RESUME: the record returns to its resume-to state and a Resume is queued (R115). -/
def answerDropResume (payload : List Byte) (s : State) : Answer :=
  parsed parseDrop (fun f => withDrop f fun l d s =>
    match s.record l d with
    | none => refuse .wrongState s
    | some r =>
      match r.state, r.resumeTo, r.isolated with
      | .silenced, some st, false =>
        done ((s.setRecord l d (some { r with state := st, resumeTo := none })).direct l (.resume d) r.ident) []
      | _, _, _ => refuse .wrongState s) payload s

/-- DROP-RETIRE: the record ends RETIRED with a Release (R117). -/
def answerDropRetire (payload : List Byte) (s : State) : Answer :=
  parsed parseDrop (fun f => withDrop f fun l d s =>
    match s.record l d with
    | none => refuse .wrongState s
    | some _ => done (s.endRecord l d .retired true) []) payload s

/-- The fields that DROP-READ adds for a record that is not FREE, in R122's order. -/
def DropRecord.values (r : DropRecord) : List Byte :=
  cycleBytes r.ident.cycle ++ u32 r.ident.count.toNat
    ++ tagBytes r.tag ++ u16 r.rosterIndex ++ u16 r.plot ++ u16 r.share
    ++ u32 r.r ++ distanceBytes r.r ++ u32 r.e
    ++ inFlightBytes r.offsetField ++ inFlightBytes r.launchField
    ++ u8 r.launch.val ++ optByte (r.reported.map fun p => p.1.val) ++ optPowerBytes (r.reported.map Prod.snd)
    ++ u8 r.hint.val ++ optPowerBytes r.lastPower ++ flagsByte r.flags ++ attrByte r.vector
    ++ u8 r.attempts ++ u8 r.echoes ++ u8 r.adjustments ++ u8 r.unmeasured ++ u8 r.streak ++ u8 r.misses
    ++ u8 r.silentRun
    ++ optCycleBytes r.echoDue ++ [r.echoSeq] ++ i16 r.lastDrift
    ++ optByte (r.resumeTo.map dropStateNo) ++ flagByte r.isolated
    ++ optCycleBytes r.lastSample
    ++ optCycleBytes r.enrolTx ++ optCycleBytes r.silenceTx ++ optCycleBytes r.resumeTx

/-- DROP-READ (R122): a FREE record has state 0 and no further fields. -/
def answerDropRead (payload : List Byte) (s : State) : Answer :=
  parsed parseDrop (fun f => withDrop f fun l d s =>
    let state := match s.record l d with | some r => dropStateNo r.state | none => 0
    done s (cycleBytes (s.leg l).count ++ u8 d ++ u8 state ++ groupBytes DropRecord.values (s.record l d))) payload s

/-! ## The commands -/

/-- SET-ACTIVATION (R120). -/
def execSetActivation (tag : Byte) (payload : List Byte) (s : State) : Host.Outcome State Fault Refusal :=
  event (frameRequest tag 0x30#8 (answerSetActivation payload)) s

/-- ACTIVATION-READ (R121). -/
def execActivationRead (tag : Byte) (payload : List Byte) (s : State) : Host.Outcome State Fault Refusal :=
  event (frameRequest tag 0x31#8 (answerActivationRead payload)) s

/-- DROP-SILENCE (R114). -/
def execDropSilence (tag : Byte) (payload : List Byte) (s : State) : Host.Outcome State Fault Refusal :=
  event (frameRequest tag 0x32#8 (answerDropSilence payload)) s

/-- DROP-RESUME (R115). -/
def execDropResume (tag : Byte) (payload : List Byte) (s : State) : Host.Outcome State Fault Refusal :=
  event (frameRequest tag 0x33#8 (answerDropResume payload)) s

/-- DROP-RETIRE (R117). -/
def execDropRetire (tag : Byte) (payload : List Byte) (s : State) : Host.Outcome State Fault Refusal :=
  event (frameRequest tag 0x34#8 (answerDropRetire payload)) s

/-- DROP-READ (R122). -/
def execDropRead (tag : Byte) (payload : List Byte) (s : State) : Host.Outcome State Fault Refusal :=
  event (frameRequest tag 0x35#8 (answerDropRead payload)) s

end Sys2Proof.Machine
end

