-- ==== Sys2Proof/Machine/MeterRequests.lean ====
section
/-! DEFINITION. The requests about the Level Meter: CAL-LOAD and CAL-READ (R137, R138). -/

namespace Sys2Proof.Machine

/-- Each value is no lower than the one before it. -/
def notFalling : List Int → Bool
  | a :: b :: rest => decide (a ≤ b) && notFalling (b :: rest)
  | _ => true

/-- The values of a calibration table: in −500..+100 and not falling (R136, R137). -/
def tableOk (vs : List Int) : Bool := vs.all (fun v => decide (-500 ≤ v) && decide (v ≤ 100)) && notFalling vs

/-- CAL-LOAD: the whole table of a range is replaced (R137). -/
def answerCalLoad (payload : List Byte) (s : State) : Answer :=
  parsed parseCalLoad (fun f s =>
    match Quad.ofNat? f.range with
    | none => refuse .outOfRange s
    | some k =>
      if tableOk f.values then done (s.setMeter { s.meter with tables := s.meter.tables.set k f.values }) []
      else refuse .outOfRange s) payload s

/-- A dark offset entry as CAL-READ gives it: its code or none, its valid flag and its age. -/
def OffsetEntry.values (e : OffsetEntry) : List Byte :=
  (match e.code with | some c => u16 c | none => [0xFF#8, 0xFF#8]) ++ flagByte e.valid ++ u16 e.age

/-- A range on a want list: 0 waiting, 1 scheduled, absent when it is not on it. -/
def wantByte (ws : List Want) (k : RangeId) : List Byte :=
  optByte ((ws.find? fun w => decide (w.range = k)).map fun w => if w.scheduled then 1 else 0)

/-- The converter state with the leg, and the drop or the range, of the operation in hand. -/
def Converter.values : Converter → List Byte
  | .idle => u8 0 ++ optLegByte none ++ optByte none ++ optByte none
  | .sampling l (.drop q) _ _ _ => u8 1 ++ legByte l ++ u8 q.ident.drop ++ optByte none
  | .sampling l (.announce _) _ _ _ => u8 1 ++ legByte l ++ optByte none ++ optByte none
  | .calibrating l k _ => u8 2 ++ legByte l ++ optByte none ++ u8 k.val

/-- The values of a CAL-READ reply for a range. -/
def Meter.values (m : Meter) (k : RangeId) : List Byte :=
  (m.tables.get k).flatMap i16
    ++ Quad.all.flatMap (fun l => ((m.offsets.get l).get k).values)
    ++ Quad.all.flatMap (fun l => wantByte (m.wants.get l) k)
    ++ m.converter.values
    ++ Quad.all.flatMap (fun l => u8 (m.queues.get l).length)

/-- CAL-READ (R138). -/
def answerCalRead (payload : List Byte) (s : State) : Answer :=
  parsed parseByte (fun n s =>
    match Quad.ofNat? n with
    | none => refuse .outOfRange s
    | some k => done s (s.meter.values k)) payload s

/-- CAL-LOAD (R137). -/
def execCalLoad (tag : Byte) (payload : List Byte) (s : State) : Host.Outcome State Fault Refusal :=
  event (frameRequest tag 0x38#8 (answerCalLoad payload)) s

/-- CAL-READ (R138). -/
def execCalRead (tag : Byte) (payload : List Byte) (s : State) : Host.Outcome State Fault Refusal :=
  event (frameRequest tag 0x39#8 (answerCalRead payload)) s

end Sys2Proof.Machine
end

