-- ==== Sys2Proof/Machine/Line.lean ====
section
/-! DEFINITION. The management line (Chapter 10): the receive side that finds frames in the characters, the frames it
drops, the line out, the resets of the part and the Rail Monitor's events. -/

namespace Sys2Proof.Machine

/-! ## Requests by code (R168) -/

/-- What taking a request of a code gives: UNKNOWN-REQUEST for a code that is not a request code. -/
def answerFor (code : Byte) (payload : List Byte) : State → Answer :=
  match code with
  | 0x01#8 => answerStatus payload
  | 0x02#8 => answerReset payload
  | 0x03#8 => answerBias payload
  | 0x10#8 => answerSetupLeg payload
  | 0x11#8 => answerStartLeg payload
  | 0x12#8 => answerStopLeg payload
  | 0x13#8 => answerLegMuster payload
  | 0x14#8 => answerLegRead payload
  | 0x15#8 => answerHoldLeg payload
  | 0x16#8 => answerUnholdLeg payload
  | 0x17#8 => answerIsolateLeg payload
  | 0x20#8 => answerRosterPut payload
  | 0x21#8 => answerRosterRemove payload
  | 0x22#8 => answerRosterRead payload
  | 0x23#8 => answerVerdict payload
  | 0x24#8 => answerCandidateRead payload
  | 0x30#8 => answerSetActivation payload
  | 0x31#8 => answerActivationRead payload
  | 0x32#8 => answerDropSilence payload
  | 0x33#8 => answerDropResume payload
  | 0x34#8 => answerDropRetire payload
  | 0x35#8 => answerDropRead payload
  | 0x38#8 => answerCalLoad payload
  | 0x39#8 => answerCalRead payload
  | _ => refuse .unknownRequest

/-! ## The receive side (R166) -/

/-- What a received byte makes of the receive side: it goes on, a frame is discarded with the bytes after its sync,
or a frame is complete with them. -/
inductive Reading where
  | goOn (rx : Option (List Byte))
  | discarded (bytes : List Byte)
  | complete (bytes : List Byte)
deriving DecidableEq, Repr

/-- The bytes after a sync, as far as they have come: discarded at the control byte for no frame kind, at the length
byte for a length above 240, at the second CRC byte for a CRC that does not match; complete there otherwise. -/
def readFrame (bytes : List Byte) : Reading :=
  match bytes with
  | [control] => if control &&& 3#8 = 0#8 then .discarded bytes else .goOn (some bytes)
  | _ :: _ :: _ :: len :: rest =>
    if Config.maxPayload < len.toNat then .discarded bytes
    else if rest.length < len.toNat + 2 then .goOn (some bytes)
    else if crcBytes (bytes.take (4 + len.toNat)) = bytes.drop (4 + len.toNat) then .complete bytes
    else .discarded bytes
  | _ => .goOn (some bytes)

/-- A byte at the receive side: HUNTING drops all but a sync; IN FRAME takes it. -/
def readByte (rx : Option (List Byte)) (b : Byte) : Reading :=
  match rx with
  | none => .goOn (if b = Config.syncByte then some [] else none)
  | some held => readFrame (held ++ [b])

/-- A well-formed frame is delivered: a REQUEST is taken, a REPLY or a NOTICE is dropped without answer (R166). -/
def State.deliverFrame (s : State) (bytes : List Byte) : State :=
  match bytes with
  | control :: tag :: code :: len :: rest =>
    if control &&& 3#8 = kindRequest then takeRequest tag code (answerFor code (rest.take len.toNat)) s else s
  | _ => s

/-- Bytes at the receive side up to the first frame discarded; the bytes to be read again, when there was one. The
output arbiter looks at the line after each frame delivered, so that the reply to one request begins on an idle
line before the next is taken (R168, R170, log 26). -/
def State.readBytes (s : State) : List Byte → State × Option (List Byte)
  | [] => (s, none)
  | b :: rest =>
    match readByte s.iface.rx b with
    | .goOn rx => (s.setIface { s.iface with rx := rx }).readBytes rest
    | .discarded bytes => (s.hunt, some (bytes ++ rest))
    | .complete bytes => (s.hunt.deliverFrame bytes).arbitrate.readBytes rest

/-- The bytes after a discarded frame's sync, read afresh by a receive side that is HUNTING; a frame discarded among
them is read again in its turn. Each reading is at least one byte shorter than the one before, so as many readings
as there are bytes are enough. -/
def State.rescan : Nat → List Byte → State → State
  | 0, _, s => s
  | n + 1, bytes, s =>
    match s.readBytes bytes with
    | (s', none) => s'
    | (s', some again) => rescan n again s'

/-- A character is received (R166). -/
def State.receive (s : State) (b : Byte) : State :=
  match s.readBytes [b] with
  | (s', none) => s'
  | (s', some bytes) => s'.rescan bytes.length bytes

/-- CHARACTER_RECEIVED (R166). -/
def execCharacterReceived (byte : Byte) (s : State) : Host.Outcome State Fault Refusal :=
  event (fun s => s.receive byte) s

/-- Whether the last of the bytes is the one at which a frame that holds `held` is discarded. -/
def discardsAt (held : List Byte) : List Byte → Bool
  | [] => false
  | b :: rest =>
    match readFrame (held ++ [b]) with
    | .goOn _ => discardsAt (held ++ [b]) rest
    | .discarded _ => rest.isEmpty
    | .complete _ => false

/-- FRAME_DISCARDED (R166): the bytes after a sync, up to the one that discards the frame, are read again. -/
def execFrameDiscarded (bytes : List Byte) (s : State) : Host.Outcome State Fault Refusal :=
  event (fun s => if discardsAt [] bytes then s.hunt.rescan bytes.length bytes else s) s

/-- REPLY_OR_NOTICE_FRAME_DROPPED (R166): the receive side is HUNTING after the frame, and nothing else changes. -/
def execReplyOrNoticeFrameDropped (control _tag _code : Byte) (_payload : List Byte) (s : State) :
    Host.Outcome State Fault Refusal :=
  event (fun s => if control &&& 3#8 = kindReply ∨ control &&& 3#8 = kindNotice then s.hunt else s) s

/-- FRAME_TIMEOUT (R166): the bytes of an incomplete frame are dropped. -/
def execFrameTimeout (s : State) : Host.Outcome State Fault Refusal := event State.hunt s

/-- UNKNOWN_REQUEST (R168): a frame whose code is not a request code is answered so. -/
def execUnknownRequest (tag code : Byte) (_payload : List Byte) (s : State) : Host.Outcome State Fault Refusal :=
  event (fun s =>
    if Config.requestCodes.contains code then s else frameRequest tag code (refuse .unknownRequest) s) s

/-- LINE_BUSY (R167): due when all four places are occupied; the tag joins the busy list. -/
def execLineBusy (tag code : Byte) (_payload : List Byte) (s : State) : Host.Outcome State Fault Refusal :=
  event (fun s =>
    if Config.bufferPlaces ≤ s.iface.buffer.length ∧ s.iface.resetPending = false then
      frameRequest tag code (refuse .lineBusy) s
    else s) s

/-- REQUEST_DISCARDED_RESET_PENDING (R173): due while a requested reset is pending; the frame is discarded. -/
def execRequestDiscardedResetPending (_tag _code : Byte) (_payload : List Byte) (s : State) :
    Host.Outcome State Fault Refusal :=
  event (fun s => if s.iface.resetPending then s.hunt else s) s

/-! ## Resets (R174, R175) -/

/-- The interface as the part leaves reset, before READY is placed: the cause is recorded (R175). -/
def Interface.left (cause : ResetCause) : Interface := { Interface.reset with cause := cause }

/-- The rail state the part takes up: NORMAL after POWER or BROWNOUT, and from the rail after PIN or REQUEST
(R144). A rail that is SAG has been so since the clock's start. -/
def railAt (cause : ResetCause) (railMv : Nat) : Rail :=
  match cause with
  | .power => Rail.reset
  | .brownout => Rail.reset
  | _ => if Config.railNormalMv ≤ railMv then Rail.reset else { state := .sag, latch := false, sagSeen := true }

/-- The part as it leaves reset with `blocks` at their reset values: the cause recorded, the rail, and the READY
notice, which begins transmission at once on the idle line (R170, R175). -/
def State.leaveReset (blocks : State) (cause : ResetCause) (railMv : Nat) : State :=
  (({ blocks with iface := Interface.left cause, rail := railAt cause railMv, inReset := none }).notify
    (.ready cause)).arbitrate

/-- Every block at its value after a POWER, BROWNOUT or PIN reset; the commands that wait are not the part's. -/
def State.fullReset (s : State) : State := { State.blocks with pending := s.pending }

/-- A roster entry after a requested reset (R74). -/
def RosterEntry.afterRequest (e : RosterEntry) : RosterEntry :=
  { e with state := if e.state = .active then .expected else e.state, link := none, lastHeard := none }

/-- A leg after a requested reset: it keeps its setup and derived values (R149). -/
def Leg.afterRequest (x : Leg) : Leg := { Leg.reset with setup := x.setup, derived := x.derived }

/-- Every block at its value after a requested reset: what R174's table keeps is kept. -/
def State.requestReset (s : State) : State :=
  { s.fullReset with
    roster := s.roster.map fun e => e.map RosterEntry.afterRequest,
    legs := s.legs.map Leg.afterRequest,
    meter := { Meter.reset with tables := s.meter.tables },
    params := s.params }

/-- A reset of a cause that holds the part in reset (R174): the blocks take their reset values, and the conditions of
an earlier cause still in force stay in force. -/
def State.holdInReset (s : State) (cause : ResetCause) (pin rail : Bool) : State :=
  let before : HeldReset := s.inReset.getD { cause := cause, pinHeld := false, railWait := false }
  { s.fullReset with
    inReset := some { cause := cause, pinHeld := pin || before.pinHeld, railWait := rail || before.railWait } }

/-- RESET_PIN_ASSERTED (R174), also while the part is in reset. -/
def execResetPinAsserted (s : State) : Host.Outcome State Fault Refusal := .next (s.holdInReset .pin true false)

/-- POWER_APPLIED (R145), also while the part is in reset. -/
def execPowerApplied (s : State) : Host.Outcome State Fault Refusal := .next (s.holdInReset .power false true)

/-- BROWNOUT (R145), also while the part is in reset. -/
def execBrownout (s : State) : Host.Outcome State Fault Refusal := .next (s.holdInReset .brownout false true)

/-- The conditions left in force when the pin is seen released or the rail above 3.10 V. -/
def HeldReset.seen (h : HeldReset) (pinReleased : Bool) (railMv : Nat) : HeldReset :=
  { h with pinHeld := h.pinHeld && !pinReleased,
           railWait := h.railWait && !decide (Config.railLeaveMv < railMv) }

/-- LEAVE_RESET (R174, R175): with the pin and the rail as given, the part leaves reset once no condition is left in
force. -/
def execLeaveReset (pinReleased : Bool) (railMv : Nat) (s : State) : Host.Outcome State Fault Refusal :=
  .next (match s.inReset with
    | none => s
    | some h =>
      let h' := h.seen pinReleased railMv
      if h'.pinHeld || h'.railWait then { s with inReset := some h' }
      else s.fullReset.leaveReset h'.cause railMv)

/-! ## The line out (R170, R173) -/

/-- The RESET reply has been sent with its reset pending. -/
def Interface.resetSent (i : Interface) (r : Reply) : Bool :=
  i.resetPending && decide (r.request = 0x02#8) && decide (r.code = .done)

/-- The frame in transmission is completed: a reply frees its buffer place, and the RESET reply resets the part. -/
def State.sent (s : State) (railMv : Nat) : State :=
  match s.iface.lineOut with
  | none => s
  | some x =>
    match x.frame with
    | .reply r =>
      if s.iface.resetSent r then s.requestReset.leaveReset .request railMv
      else s.setIface { s.iface with lineOut := none, buffer := s.iface.buffer.tail }
    | _ => s.setIface { s.iface with lineOut := none }

/-- FRAME_TRANSMITTED (R170): the arbiter then begins the next frame. `railMv` is the rail as a requested reset
leaves reset finds it (log 18). -/
def execFrameTransmitted (railMv : Nat) (s : State) : Host.Outcome State Fault Refusal :=
  event (fun s => s.sent railMv) s

/-! ## The rail (R144) -/

/-- RAIL_SAG (R144): due in NORMAL. -/
def execRailSag (s : State) : Host.Outcome State Fault Refusal :=
  event (fun s => if s.rail.state = .normal then s.enterSag else s) s

/-- RAIL_RECOVERY (R144): due in SAG. -/
def execRailRecovery (s : State) : Host.Outcome State Fault Refusal :=
  event (fun s => if s.rail.state = .sag then s.setRail { s.rail with state := .normal } else s) s

end Sys2Proof.Machine
end

