-- ==== Sys2Proof/Machine/Converter.lean ====
section
/-! DEFINITION. The converter of the Level Meter (Chapter 7): its arbiter, queued samples, announce samples and dark
calibrations. -/

namespace Sys2Proof.Machine

/-! ## The arbiter (R125, log 9) -/

/-- The legs whose head request starts its integration at an instant. -/
def Meter.queuedAt (m : Meter) (instant : Nat) : List LegId :=
  Quad.all.filter fun l => match m.queues.get l with
    | q :: _ => decide (q.start = instant)
    | [] => false

/-- The legs whose scheduled calibration has its instant there. -/
def Meter.calibrationsAt (m : Meter) (instant : Nat) : List LegId :=
  (m.scheduled.filter fun c => decide (c.instant = instant)).map Scheduled.leg

/-- The claims that decide a tie at an instant: the first form that has one, with its legs. `announcing` are the
legs with an announce request made there. -/
def Meter.claims (m : Meter) (instant : Nat) (announcing : List LegId) : ClaimForm × List LegId :=
  if !(m.queuedAt instant).isEmpty then (.queued, m.queuedAt instant)
  else if !(m.calibrationsAt instant).isEmpty then (.calibration, m.calibrationsAt instant)
  else (.announce, announcing)

/-- The leg favoured among those with a claim: the first from the tie pointer on. -/
def favoured (pointer : LegId) (legs : List LegId) : LegId :=
  ((Quad.orderFrom pointer).find? fun l => legs.contains l).getD pointer

/-- The arbiter decides at an instant between the claims that reach the idle converter there, unless it has decided
already; the tie pointer moves when it decided between two or more (R125). -/
def Meter.decide (m : Meter) (instant : Nat) (announcing : List LegId) : Meter :=
  match m.decided with
  | some d => if d.instant = instant then m else
      let (form, legs) := m.claims instant announcing
      let l := favoured m.tiePtr legs
      { m with decided := some { instant := instant, form := form, leg := l },
               tiePtr := if 2 ≤ legs.length then l.next else m.tiePtr }
  | none =>
      let (form, legs) := m.claims instant announcing
      let l := favoured m.tiePtr legs
      { m with decided := some { instant := instant, form := form, leg := l },
               tiePtr := if 2 ≤ legs.length then l.next else m.tiePtr }

/-- The arbiter's decision at an instant favours a claim. -/
def Meter.favours (m : Meter) (instant : Nat) (form : ClaimForm) (l : LegId) : Bool :=
  match m.decided with
  | some d => Decidable.decide (d = { instant := instant, form := form, leg := l })
  | none => false

/-- A claim reaches the converter: the meter after its arbiter, and whether the claim is taken up. A converter that
is not IDLE refuses it and decides nothing. -/
def Meter.claim (m : Meter) (instant : Nat) (form : ClaimForm) (l : LegId) (announcing : List LegId) : Meter × Bool :=
  match m.converter with
  | .idle =>
    let m := m.decide instant announcing
    (m, m.favours instant form l)
  | _ => (m, false)

/-! ## Queued samples (R131) -/

/-- The code a sample captures: the valid offset of its leg and range. -/
def OffsetEntry.usable (e : OffsetEntry) : Option Nat := if e.valid then e.code else none

/-- SAMPLE_INTEGRATION_START (R131): the head request of a leg leaves its queue, and is taken, or missed with its
outcome "unmeasured" delivered at once. -/
def execSampleIntegrationStart (leg : LegId) (s : State) : Host.Outcome State Fault Refusal :=
  event (fun s =>
    match s.meter.queues.get leg with
    | [] => s
    | q :: rest =>
      let claimed := s.meter.claim q.start .queued leg []
      let m := { claimed.1 with queues := claimed.1.queues.set leg rest }
      match claimed.2 && decide (s.bias.state = .ready), (s.offset leg q.range).usable with
      | true, some o => s.setMeter { m with converter := .sampling leg (.drop q) q.range q.start o }
      | _, _ => (s.setMeter m).deliverOutcome leg q.ident q.cycle .unmeasured) s

/-! ## Results (R124, R134, R135) -/

/-- SAMPLE_RESULT (R124): the code becomes a power value through the captured offset and the table as it stands, and
goes to the record or the announce that the sample serves; the converter is IDLE. -/
def execSampleResult (code : BitVec 12) (s : State) : Host.Outcome State Fault Refusal :=
  event (fun s =>
    match s.meter.converter with
    | .sampling l target range _ o =>
      let v := powerResult code.toNat o (s.meter.tables.get range) s.params.floor s.params.ceiling
      let s := s.setMeter { s.meter with converter := .idle }
      match target with
      | .drop q => s.deliverOutcome l q.ident q.cycle (.result v.1 v.2)
      | .announce a =>
        s.mapLeg l fun x => x.mapScan fun w => w.result a (.returned v.1 v.2)
    | _ => s) s

/-! ## Dark calibrations (R128, R129) -/

/-- CALIBRATION_INSTANT (R128): the scheduled calibration whose instant arrives is taken, or fails with its range
waiting again. -/
def execCalibrationInstant (s : State) : Host.Outcome State Fault Refusal :=
  event (fun s =>
    match s.meter.scheduled with
    | [] => s
    | c :: rest =>
      let claimed := s.meter.claim c.instant .calibration c.leg []
      let m := { claimed.1 with scheduled := rest }
      if claimed.2 && decide (s.bias.state = .ready) && (s.leg c.leg).started then
        s.setMeter { m with converter := .calibrating c.leg c.range c.instant }
      else s.setMeter (m.markWant c.leg c.range false)) s

/-- CALIBRATION_RESULT (R129): with no light in the 32 ticks the code is the offset, valid with age 0, and the want
is served; with light the code is discarded and the range waits again. -/
def execCalibrationResult (code : BitVec 12) (light : BitVec 32) (s : State) : Host.Outcome State Fault Refusal :=
  event (fun s =>
    match s.meter.converter with
    | .calibrating l k _ =>
      let m := { s.meter with converter := .idle }
      if light = 0#32 then
        s.setMeter ((m.setOffset l k { code := some code.toNat, valid := true, age := 0 }).dropWant l k)
      else s.setMeter (m.markWant l k false)
    | _ => s) s

end Sys2Proof.Machine
end

