-- ==== Sys2Proof/Machine/Reception.lean ====
section
/-! DEFINITION. The Burst Receivers (Chapter 4): the verdict of a granted burst, the announces of a muster window,
the end of its scan and the close of a calendar. -/

namespace Sys2Proof.Machine

/-! ## Granted bursts (R58 to R61) -/

/-- GRANTED_BURST_VERDICT (R61): the leg's oldest open expectation is settled with what its search span held, and the
verdict is delivered to its record. -/
def execGrantedBurstVerdict (leg : LegId) (look : BurstLook) (s : State) : Host.Outcome State Fault Refusal :=
  event (fun s =>
    match (s.leg leg).receiver.expectations with
    | [] => s
    | x :: rest =>
      (s.mapLeg leg fun l => l.mapReceiver fun rx => Receiver.prune { rx with expectations := rest }).deliverVerdict
        leg x look (s.readyThrough (x.arrives + 29))) s

/-! ## Announces (R63 to R69) -/

/-- A tick stands in the interval of a leg's window and at or after the hunt (R63). -/
def Leg.hunts (x : Leg) (w : WindowScan) (tick : Nat) : Bool :=
  decide (x.derived.omega ≤ tick) && decide (tick < x.derived.omega + x.derived.w) && decide (w.hunt ≤ tick)

/-- The announce request of a delimiter at an instant (R66, R132): the meter, and whether it is taken. A request
refused for an invalid offset alone marks the want (R127). -/
def State.announceRequest (s : State) (l : LegId) (a instant : Nat) (rivals : List LegId) : Meter × AnnounceSample :=
  let k := (s.leg l).setup.announceRange
  let claimed := s.meter.claim instant .announce l (l :: rivals)
  if claimed.2 && decide (s.bias.state = .ready) then
    match (s.offset l k).usable with
    | some o => ({ claimed.1 with converter := .sampling l (.announce a) k (instant + 8) o }, .awaited)
    | none => (claimed.1.addWant l k, .lost)
  else (claimed.1, .lost)

/-- ANNOUNCE_DELIMITER_FOUND (R63, R65, R66): due while the bias is READY, for a delimiter inside the interval of the
scan that the hunt has not passed. The light history becomes that at A, `light`, due or not, and the CROWDED test
reads it; `rivals` are the other legs with an announce request at this tick. -/
def execAnnounceDelimiterFound (leg : LegId) (a : Nat) (p : Fin 20) (light : BitVec 48) (rivals : List LegId)
    (s : State) : Host.Outcome State Fault Refusal :=
  event (fun s =>
    let s := s.recordLight leg light
    match (s.leg leg).receiver.scan with
    | none => s
    | some w =>
      if (s.leg leg).hunts w a && decide (s.bias.state = .ready) then
        let asked := s.announceRequest leg a (w.marker + a) rivals
        let found : AnnounceInHand :=
          { a := a, p := p, crowded := crowdedBy (s.leg leg).receiver.lightHistory, sample := asked.2, ended := false }
        (s.setMeter asked.1).mapLeg leg fun x =>
          x.mapScan fun w => { w with hunt := a + 128, found := w.found ++ [found] }
      else s) s

/-- GARBLED (R63): a preamble with no intact delimiter moves the hunt past its tick; an announce whose content fails
its CRC is discarded. -/
def execGarbled (leg : LegId) (what : Garble) (s : State) : Host.Outcome State Fault Refusal :=
  event (fun s =>
    match (s.leg leg).receiver.scan, what with
    | some w, .noDelimiter tick =>
      if (s.leg leg).hunts w tick && decide (s.bias.state = .ready) then
        s.mapLeg leg fun x => x.mapScan fun w => { w with hunt := tick + 1 }
      else s
    | some _, .badContent a =>
      s.mapLeg leg fun x => x.mapScan fun w => { w with found := w.found.filter fun f => decide (f.a ≠ a) }
    | none, _ => s) s

/-- An announce is placed in the queue in ascending order of delimiter position (R69). -/
def insertAnnounce (a : Announce) : List Announce → List Announce
  | [] => [a]
  | b :: rest => if b.a ≤ a.a then b :: insertAnnounce a rest else a :: b :: rest

/-- What the judgement of an announce comes to (R57, R63, R64, R66, R67). -/
inductive Judged where
  | notYet
  | discarded
  | judged (x : Announce)
deriving DecidableEq, Repr

/-- The levels of a returned sample. -/
def AnnounceSample.levels : AnnounceSample → Option LevelAttrs
  | .returned _ l => some l
  | _ => none

/-- The power of a returned sample. -/
def AnnounceSample.power : AnnounceSample → Option Int
  | .returned v _ => some v
  | _ => none

/-- The bias was READY throughout the look at an announce (R57). One whose sample the bias abandoned is UNSAMPLED, so
it is asked for READY to the end of its content and to no sample's return: its content must have ended before the
bias left READY (R57, R66, R67, R133, log 10). -/
def State.judgedReady (s : State) (w : WindowScan) (f : AnnounceInHand) : Bool :=
  if f.sample = .abandoned then f.ended else s.readyThrough (w.marker + f.a - 48)

/-- The judgement of an announce in hand on its content: GARBLED, EARLY and BEYOND are discarded; it waits for its
sample; without the bias READY throughout it is dropped; else it carries its vector. -/
def State.judge (s : State) (l : LegId) (w : WindowScan) (f : AnnounceInHand) (content : List Byte) : Judged :=
  let x := s.leg l
  match readAnnounce content with
  | none => .discarded
  | some c =>
    let r := roundTrip f.a x.derived.am c.holdoff x.setup.trim f.p.val
    match reachClass r x.derived.z x.setup.near x.setup.far with
    | .early => .discarded
    | .beyond => .discarded
    | reach =>
      if f.sample = .awaited then .notYet
      else if s.judgedReady w f then
        .judged
          { cycle := w.cycle, tag := c.tag, holdoff := c.holdoff, launch := c.launch, a := f.a, p := f.p,
            r := r.toNat, power := f.sample.power,
            vector := verdictVector (decide (reach = .outOfBand)) f.crowded f.sample.levels }
      else .discarded

/-- A judged announce at the leg's screen (R68, R69): it is queued when there is room, or else its tag is only noted
as heard when it fails the screen. -/
def State.screen (s : State) (l : LegId) (x : Announce) : State :=
  let leg := s.leg l
  if screenPasses leg.setup.mask leg.setup.matchSet x.vector then
    if leg.receiver.announces.length < Config.maxAnnounces then
      s.mapLeg l fun y => y.mapReceiver fun rx => { rx with announces := insertAnnounce x rx.announces }
    else s
  else s.heard x.tag l x.cycle

/-- The content of the announce of a scan at a delimiter position has ended (R67). -/
def WindowScan.contentEnded (w : WindowScan) (a : Nat) : WindowScan :=
  { w with found := w.found.map fun f => if f.a = a then { f with ended := true } else f }

/-- ANNOUNCE_JUDGEMENT_COMPLETE (R67): the announce found at `a`, with its content, is judged. Sent at the end of its
content while its sample is in flight, it records that end, and the judgement completes with the sample's return or
loss (log 10). -/
def execAnnounceJudgementComplete (leg : LegId) (a : Nat) (content : List Byte) (s : State) :
    Host.Outcome State Fault Refusal :=
  event (fun s =>
    match (s.leg leg).receiver.scan with
    | none => s
    | some w =>
      match w.found.find? fun f => decide (f.a = a) with
      | none => s
      | some f =>
        let gone := s.mapLeg leg fun x => x.mapScan fun w =>
          { w with found := w.found.filter fun f => decide (f.a ≠ a) }
        match s.judge leg w f content with
        | .notYet => s.mapLeg leg fun x => x.mapScan fun w => w.contentEnded a
        | .discarded => gone
        | .judged x => gone.screen leg x) s

/-- WINDOW_SCAN_END (R70): due when no announce of the scan is in judgement. The announce queue goes to admission,
from its head, and the scan is absent. -/
def execWindowScanEnd (leg : LegId) (s : State) : Host.Outcome State Fault Refusal :=
  event (fun s =>
    match (s.leg leg).receiver.scan with
    | none => s
    | some w =>
      if w.found.isEmpty then
        let s' := s.mapLeg leg fun x => x.mapReceiver fun rx => Receiver.prune { rx with scan := none, announces := [] }
        (s.leg leg).receiver.announces.foldl (fun s a => s.admission leg a) s'
      else s) s

/-! ## The close of a calendar (R71, R72, R162) -/

/-- The class of a calendar at its close (R71). -/
def State.classOf (s : State) (l : LegId) (c : Calendar) (next : Option Calendar) (lit : List (Nat × Nat)) :
    CycleClass :=
  let watched := c.watched next
  if c.hold || !s.readyThrough (c.marker + (s.leg l).derived.omega) || watched.isEmpty then .neutral
  else if litIn lit watched then .stray
  else .clean

/-- The stray-light latch at the close of calendar `n`: the table of R72. -/
def State.updateLatch (s : State) (l : LegId) (n : Cycle) (k : CycleClass) : State :=
  let rx := (s.leg l).receiver
  let set (latch : Bool) (count : Nat) : State :=
    s.mapLeg l fun x => x.mapReceiver fun rx => { rx with latch := latch, cleanCount := count }
  match rx.latch, k with
  | false, .stray => (set true 0).notify (.strayOnset l n)
  | false, _ => s
  | true, .stray => set true 0
  | true, .clean =>
    if Config.clearRun ≤ rx.cleanCount + 1 then (set false 0).notify (.strayCleared l n)
    else set true (rx.cleanCount + 1)
  | true, .neutral => s

/-- A watched calendar's class acts on the turn: the table of R162. -/
def State.watchTurn (s : State) (l : LegId) (run : IsolationRun) (k : CycleClass) : State :=
  match k with
  | .neutral => s
  | .stray => (s.endTurn l).nextTurn l
  | .clean =>
    let s := s.mapLeg l fun x => { x with run := some { run with clean := run.clean + 1 } }
    if Config.culpritRun ≤ run.clean + 1 then s.nameCulprit l else s

/-- The class of calendar `n` reaches the leg's isolation run (R161): those of c + 1 and c + 2 are not used, the
second of them begins WATCH, and later ones are watched. -/
def State.updateRun (s : State) (l : LegId) (n : Cycle) (k : CycleClass) : State :=
  match (s.leg l).run with
  | none => s
  | some run =>
    match run.phase, run.silence with
    | .silenceQueued, _ => s
    | _, none => s
    | _, some c =>
      let after := cyclesSince n c
      if after = 2 then s.mapLeg l fun x => { x with run := some { run with phase := .watch } }
      else if 3 ≤ after then s.watchTurn l run k
      else s

/-- Light stands in a position, by lit intervals. -/
def litAt (lit : List (Nat × Nat)) (x : Nat) : Bool :=
  lit.any fun i => decide (i.1 ≤ x) && decide (x < i.1 + i.2)

/-- The light history at the end of a calendar's arrival interval: bit i is position 31,249 − i (R56, R65). -/
def historyAtClose (lit : List (Nat × Nat)) : BitVec 48 :=
  BitVec.ofNat 48 ((List.range 48).foldr (fun i acc => acc + if litAt lit (Config.cycleTicks - 1 - i) then 2 ^ i else 0) 0)

/-- The first calendar in hand that has not closed. -/
def Receiver.closing (x : Receiver) : Option Calendar := x.inHand.find? fun c => !c.closed

/-- The receiver with a calendar closed. -/
def Receiver.close (x : Receiver) (n : Cycle) : Receiver :=
  Receiver.prune
    { x with inHand := x.inHand.map fun c => if c.cycle = n then { c with closed := true } else c }

/-- CALENDAR_CLOSE (R71): the calendar whose arrival interval has fully arrived, with the lit intervals (first
position, number of ticks) that the light-present detector reported in it. The latch takes the class, and then the
isolation run. The light history becomes that at the interval's end, with a calendar to close or without one: it
records on a STOPPED leg too (R56, log 16). -/
def execCalendarClose (leg : LegId) (lit : List (Nat × Nat)) (s : State) : Host.Outcome State Fault Refusal :=
  event (fun s =>
    let s := s.recordLight leg (historyAtClose lit)
    match (s.leg leg).receiver.closing with
    | none => s
    | some c =>
      let next := (s.leg leg).receiver.inHand.find? fun d => decide (d.cycle = c.cycle + 1#32)
      let k := s.classOf leg c next lit
      let s := s.mapLeg leg fun x => x.mapReceiver fun rx => rx.close c.cycle
      (s.updateLatch leg c.cycle k).updateRun leg c.cycle k) s

end Sys2Proof.Machine
end

