-- ==== Sys2Proof/Machine/Dispatch.lean ====
section
/-! DEFINITION. The effect of every command on everything but the queue: one arm per command, one meaning per arm. -/

namespace Sys2Proof.Machine

def exec (i : Instr) (s : State) : Host.Outcome State Fault Refusal :=
  match i with
  | .status tag payload => Sys2Proof.Machine.execStatus tag payload s
  | .reset tag payload => Sys2Proof.Machine.execReset tag payload s
  | .bias tag payload => Sys2Proof.Machine.execBias tag payload s
  | .setupLeg tag payload => Sys2Proof.Machine.execSetupLeg tag payload s
  | .startLeg tag payload => Sys2Proof.Machine.execStartLeg tag payload s
  | .stopLeg tag payload => Sys2Proof.Machine.execStopLeg tag payload s
  | .legMuster tag payload => Sys2Proof.Machine.execLegMuster tag payload s
  | .legRead tag payload => Sys2Proof.Machine.execLegRead tag payload s
  | .holdLeg tag payload => Sys2Proof.Machine.execHoldLeg tag payload s
  | .unholdLeg tag payload => Sys2Proof.Machine.execUnholdLeg tag payload s
  | .isolateLeg tag payload => Sys2Proof.Machine.execIsolateLeg tag payload s
  | .rosterPut tag payload => Sys2Proof.Machine.execRosterPut tag payload s
  | .rosterRemove tag payload => Sys2Proof.Machine.execRosterRemove tag payload s
  | .rosterRead tag payload => Sys2Proof.Machine.execRosterRead tag payload s
  | .verdict tag payload => Sys2Proof.Machine.execVerdict tag payload s
  | .candidateRead tag payload => Sys2Proof.Machine.execCandidateRead tag payload s
  | .setActivation tag payload => Sys2Proof.Machine.execSetActivation tag payload s
  | .activationRead tag payload => Sys2Proof.Machine.execActivationRead tag payload s
  | .dropSilence tag payload => Sys2Proof.Machine.execDropSilence tag payload s
  | .dropResume tag payload => Sys2Proof.Machine.execDropResume tag payload s
  | .dropRetire tag payload => Sys2Proof.Machine.execDropRetire tag payload s
  | .dropRead tag payload => Sys2Proof.Machine.execDropRead tag payload s
  | .calLoad tag payload => Sys2Proof.Machine.execCalLoad tag payload s
  | .calRead tag payload => Sys2Proof.Machine.execCalRead tag payload s
  | .unknownRequest tag code payload => Sys2Proof.Machine.execUnknownRequest tag code payload s
  | .lineBusy tag code payload => Sys2Proof.Machine.execLineBusy tag code payload s
  | .requestDiscardedResetPending tag code payload => Sys2Proof.Machine.execRequestDiscardedResetPending tag code payload s
  | .frameDiscarded bytes => Sys2Proof.Machine.execFrameDiscarded bytes s
  | .replyOrNoticeFrameDropped control tag code payload => Sys2Proof.Machine.execReplyOrNoticeFrameDropped control tag code payload s
  | .frameTimeout => Sys2Proof.Machine.execFrameTimeout s
  | .frameTransmitted railMv => Sys2Proof.Machine.execFrameTransmitted railMv s
  | .characterReceived byte => Sys2Proof.Machine.execCharacterReceived byte s
  | .resetPinAsserted => Sys2Proof.Machine.execResetPinAsserted s
  | .powerApplied => Sys2Proof.Machine.execPowerApplied s
  | .leaveReset pinReleased railMv => Sys2Proof.Machine.execLeaveReset pinReleased railMv s
  | .railSag => Sys2Proof.Machine.execRailSag s
  | .railRecovery => Sys2Proof.Machine.execRailRecovery s
  | .brownout => Sys2Proof.Machine.execBrownout s
  | .cycleBoundary => Sys2Proof.Machine.execCycleBoundary s
  | .offsetFieldExpiry leg drop => Sys2Proof.Machine.execOffsetFieldExpiry leg drop s
  | .launchFieldExpiry leg drop => Sys2Proof.Machine.execLaunchFieldExpiry leg drop s
  | .darkOffsetExpiry leg range => Sys2Proof.Machine.execDarkOffsetExpiry leg range s
  | .candidateLapsed tag => Sys2Proof.Machine.execCandidateLapsed tag s
  | .holdExpiry leg => Sys2Proof.Machine.execHoldExpiry leg s
  | .settleComplete => Sys2Proof.Machine.execSettleComplete s
  | .recoveryComplete => Sys2Proof.Machine.execRecoveryComplete s
  | .grantedBurstVerdict leg look => Sys2Proof.Machine.execGrantedBurstVerdict leg look s
  | .announceDelimiterFound leg a p light rivals => Sys2Proof.Machine.execAnnounceDelimiterFound leg a p light rivals s
  | .garbled leg what => Sys2Proof.Machine.execGarbled leg what s
  | .announceJudgementComplete leg a content => Sys2Proof.Machine.execAnnounceJudgementComplete leg a content s
  | .windowScanEnd leg => Sys2Proof.Machine.execWindowScanEnd leg s
  | .calendarClose leg lit => Sys2Proof.Machine.execCalendarClose leg lit s
  | .sampleIntegrationStart leg => Sys2Proof.Machine.execSampleIntegrationStart leg s
  | .sampleResult code => Sys2Proof.Machine.execSampleResult code s
  | .calibrationInstant => Sys2Proof.Machine.execCalibrationInstant s
  | .calibrationResult code light => Sys2Proof.Machine.execCalibrationResult code light s

end Sys2Proof.Machine
end

