-- ==== Sys2Proof/Safety.lean ====
section
/-! DEFINITION. What claims about the part are made of: when it takes a request, the interface a request leaves, the
command of a request frame, and the invariants that every step keeps. -/

namespace Sys2Proof.Machine

/-! ## Requests -/

/-- The part takes a request that arrives now: it is not in reset, no requested reset is pending, and a place of the
input buffer is free (R167, R173, R174). -/
def State.takes (s : State) : Prop :=
  s.inReset = none ∧ s.iface.resetPending = false ∧ s.iface.buffer.length < Config.bufferPlaces

/-- The interface that a request taken and answered leaves: its place occupied, its reply at the tail, the receive
side HUNTING, and the arbiter having looked at the line (R167 to R170). -/
def Interface.answered (i : Interface) (tag code : Byte) (reply : ReplyCode) (values : List Byte) : Interface :=
  Interface.arbitrate
    { i with
      rx := none, buffer := i.buffer ++ [⟨tag, code⟩],
      replies := i.replies ++ [{ tag := tag, request := code, code := reply, values := values }] }

/-- The command of a request frame (section 10.7). -/
def commandOf (tag code : Byte) (payload : List Byte) : Instr :=
  match code with
  | 0x01#8 => .status tag payload
  | 0x02#8 => .reset tag payload
  | 0x03#8 => .bias tag payload
  | 0x10#8 => .setupLeg tag payload
  | 0x11#8 => .startLeg tag payload
  | 0x12#8 => .stopLeg tag payload
  | 0x13#8 => .legMuster tag payload
  | 0x14#8 => .legRead tag payload
  | 0x15#8 => .holdLeg tag payload
  | 0x16#8 => .unholdLeg tag payload
  | 0x17#8 => .isolateLeg tag payload
  | 0x20#8 => .rosterPut tag payload
  | 0x21#8 => .rosterRemove tag payload
  | 0x22#8 => .rosterRead tag payload
  | 0x23#8 => .verdict tag payload
  | 0x24#8 => .candidateRead tag payload
  | 0x30#8 => .setActivation tag payload
  | 0x31#8 => .activationRead tag payload
  | 0x32#8 => .dropSilence tag payload
  | 0x33#8 => .dropResume tag payload
  | 0x34#8 => .dropRetire tag payload
  | 0x35#8 => .dropRead tag payload
  | 0x38#8 => .calLoad tag payload
  | 0x39#8 => .calRead tag payload
  | _ => .unknownRequest tag code payload

/-- The state after characters are received one after another. -/
def receiveAll (bytes : List Byte) (s : State) : State :=
  bytes.foldl (fun s b => match exec (.characterReceived b) s with | .next t => t | _ => s) s

/-- A command that acts on a part in reset (R174): the causes of a reset and the leaving of it. -/
def actsInReset : Instr → Bool
  | .resetPinAsserted => true
  | .powerApplied => true
  | .brownout => true
  | .leaveReset _ _ => true
  | _ => false

/-! ## Invariant: the interface (R166, R167, R170, R171) -/

/-- The buffer places in use are those of the reply in transmission and of the replies that wait. -/
def Interface.inUse (i : Interface) : List FrameId :=
  (match i.lineOut with
    | some ⟨.reply r, _⟩ => [⟨r.tag, r.request⟩]
    | _ => []) ++ i.replies.map fun r => ⟨r.tag, r.request⟩

/-- The queues keep their bounds; a place is occupied exactly while its reply is unsent; nothing waits while the line
is idle; and the bytes held are those of a frame that can still go on. -/
structure Interface.Sound (i : Interface) : Prop where
  notices : i.notices.length ≤ Config.maxNotices
  buffer  : i.buffer.length ≤ Config.bufferPlaces
  busy    : i.busy.length ≤ Config.busyPlaces
  places  : i.buffer = i.inUse
  idle    : i.lineOut = none → i.busy = [] ∧ i.replies = [] ∧ i.notices = []
  held    : ∀ bytes, i.rx = some bytes → readFrame bytes = .goOn (some bytes)

/-! ## Invariant: the bias and the legs (R139, R147, R148, R152, R156, R160, R164) -/

/-- The counts of the Bias Supply have a meaning only in their states (R139). -/
structure Bias.Sound (b : Bias) : Prop where
  settle    : b.settle < Config.settleCycles
  recovery  : b.recovery < Config.recoveryCycles
  settling  : b.state ≠ .settling → b.settle = 0
  tripped   : b.state ≠ .tripped → b.recovery = 0

/-- A leg that is STOPPED holds nothing of a run, a hold, a calendar, a record or a burst (R148, R152). -/
structure Leg.Empty (x : Leg) : Prop where
  hold     : x.hold = none
  run      : x.run = none
  calendar : x.calendar = none
  records  : ∀ d, x.record d = none
  inHand   : x.receiver.inHand = []
  expected : x.receiver.expectations = []
  scan     : x.receiver.scan = none
  announces : x.receiver.announces = []
  latch    : x.receiver.latch = false
  queue    : x.queue =
    if x.finalPending then [{ dir := .releaseAll, ident := none, follow := FollowOn.empty }] else []

/-- A leg under the bias state `b`. -/
structure Leg.Sound (x : Leg) (b : BiasState) : Prop where
  running : x.state = .running → b = .ready
  blind   : x.state = .blind → b ≠ .ready
  started : x.started = true → x.startPending = false ∧ x.finalPending = false
  marks   : ¬ (x.startPending = true ∧ x.finalPending = true)
  stopped : x.state = .stopped → x.Empty
  onlyOne : x.hold = none ∨ x.run = none
  run     : x.run ≠ none → x.state = .running
  hold    : ∀ h, x.hold = some h → 1 ≤ h.length ∧ h.length ≤ Config.maxHold ∧ h.built ≤ h.length
  clean   : x.receiver.cleanCount < Config.clearRun ∧ (x.receiver.latch = false → x.receiver.cleanCount = 0)

/-- The converter is in use only while the bias is READY, and for a leg that is started (R131 to R133). -/
def State.ConverterSound (s : State) : Prop :=
  ∀ l, s.meter.converter.leg? = some l → s.bias.state = .ready ∧ (s.leg l).started = true

/-- The Level Meter and the Candidate List hold nothing of a leg that is STOPPED (R152). -/
def State.NothingOfStopped (s : State) : Prop :=
  ∀ l, (s.leg l).state = .stopped →
    s.meter.queues.get l = [] ∧ s.meter.wants.get l = [] ∧ (∀ c ∈ s.meter.scheduled, c.leg ≠ l)
      ∧ ∀ c ∈ s.candidates, c.leg ≠ l

/-- The bias, the legs and the converter agree. -/
structure State.Supervised (s : State) : Prop where
  bias      : s.bias.Sound
  legs      : ∀ l, (s.leg l).Sound s.bias.state
  converter : s.ConverterSound
  stopped   : s.NothingOfStopped

/-! ## Invariant: the roster, the records and the directive queues (R48, R74, R75, R80, R87) -/

/-- An entry in use and the record of its link: ACTIVE exactly with a link to a live record of its tag, plot label
and share. -/
def State.EntrySound (s : State) (i : Nat) (e : RosterEntry) : Prop :=
  match e.link with
  | none => e.state ≠ .active
  | some (l, d) =>
    e.state = .active ∧
      ∃ r, s.record l d = some r ∧ r.rosterIndex = i ∧ r.tag = e.tag ∧ r.plot = e.plot ∧ r.share = e.share

/-- A live record is in its own place and is linked from its roster entry. -/
def State.RecordLinked (s : State) (l : LegId) (d : Nat) (r : DropRecord) : Prop :=
  r.ident.drop = d ∧ ∃ e, s.rosterAt r.rosterIndex = some e ∧ e.link = some (l, d)

/-- The tag of a Park. -/
def Directive.parked? : Directive → Option FactoryTag
  | .park tag => some tag
  | _ => none

/-- The bounds of a directive queue (R48): an entry is drop-numbered exactly when it carries an identity, of that drop;
it holds one entry at the most for a drop number and one Park for a tag, at most 16 Parks, and so at most 80
directives beside a stopping leg's Release ALL. -/
structure Leg.QueueSound (x : Leg) : Prop where
  numbered : ∀ q ∈ x.queue, q.dir.drop? = q.ident.map Identity.drop
  range    : ∀ q ∈ x.queue, ∀ d, q.dir.drop? = some d → d < Config.dropsPerLeg
  drops    : (x.queue.filterMap fun q => q.dir.drop?).Nodup
  tags     : (x.queue.filterMap fun q => q.dir.parked?).Nodup
  parks    : parkCount x.queue ≤ Config.maxParks
  bound    : (x.queue.filter fun q => decide (q.dir ≠ .releaseAll)).length ≤ Config.dropsPerLeg + Config.maxParks

/-- The roster, the drop tables, the directive queues and the Candidate List agree. -/
structure State.Linked (s : State) : Prop where
  roster     : s.roster.length = Config.rosterSize
  drops      : ∀ l, (s.leg l).drops.length = Config.dropsPerLeg
  tags       : ∀ i j e f, s.rosterAt i = some e → s.rosterAt j = some f → e.tag = f.tag → i = j
  entries    : ∀ i e, s.rosterAt i = some e → s.EntrySound i e
  records    : ∀ l d r, s.record l d = some r → s.RecordLinked l d r
  candidates : s.candidates.length ≤ Config.maxCandidates ∧ (s.candidates.map Candidate.tag).Nodup
  indices    : ∀ c ∈ s.candidates, c.rosterIndex = (s.rosterEntry c.tag).map Prod.fst
  queues     : ∀ l, (s.leg l).QueueSound

/-! ## Invariant: equalization (R18, R25, R28) -/

/-- Every round trip held on a leg lies in [0, Z], and every live record's R and E sum to Z. -/
structure State.Equalized (s : State) : Prop where
  records    : ∀ l d r, s.record l d = some r → r.r + r.e = (s.leg l).derived.z
  announces  : ∀ l, ∀ a ∈ (s.leg l).receiver.announces, a.r ≤ (s.leg l).derived.z
  candidates : ∀ c ∈ s.candidates, c.r ≤ (s.leg c.leg).derived.z
  stopped    : ∀ l, (s.leg l).state = .stopped →
    (∀ d, s.record l d = none) ∧ (s.leg l).receiver.announces = [] ∧ (s.leg l).receiver.scan = none
      ∧ ∀ c ∈ s.candidates, c.leg ≠ l

/-! ## Calendars (R21, R35, R41, R45) -/

/-- The spans (first position, ticks) of a calendar's granted bursts, in the order they are placed. -/
def Calendar.bursts (c : Calendar) : List (Nat × Nat) :=
  (c.echoes.map fun g => (g.position, 96)) ++ c.services.map fun g => (g.position, g.share + 40)

/-- The first position after a calendar's spill and muster window. -/
def Calendar.firstFree (c : Calendar) : Nat := c.spill.getD 0 + c.window.getD 0

/-- The bursts of a calendar stand in ascending order with 16 ticks of guard after each, behind the spill and the
window, and before the placement end. -/
structure Calendar.Fits (c : Calendar) : Prop where
  guards : c.bursts.Pairwise fun a b => a.1 + a.2 + 16 ≤ b.1
  start  : ∀ b ∈ c.bursts, c.firstFree ≤ b.1
  limit  : ∀ b ∈ c.bursts, b.1 + b.2 + 16 ≤ if c.darkTail then 31186 else 31250

/-! ## Safe runs -/

/-- A command in a state is safe when the part answers it with a next state: it neither faults nor refuses. -/
def safe (c : Instr) (s : State) : Prop := ∃ t, exec c s = .next t

/-- A run of the waiting commands is safe when every step of it is. -/
def safeRun : Nat → State → Prop
  | 0, _ => True
  | n + 1, s => ∃ t, step s = .next t ∧ safeRun n t

end Sys2Proof.Machine
end

