-- ==== Sys2Proof/Certificates/Slice0/Obligations.lean ====
section
/-! DEFINITION. The statements for the provers. Each is listed in OBLIGATIONS.json with the rule it formalises. A
statement about a request holds for every state that takes it (`State.takes`) and every payload that its form reads. -/

open Sys2Proof Sys2Proof.Machine

/-! ## The part as a whole -/

/-- A step takes the command at the front of the queue: it is exec of that command with the queue's rest. -/
def Obligations.StepTakesTheFrontCommand : Prop :=
  ∀ (c : Instr) (rest : List Instr) (s : State),
    step { s with pending := c :: rest } = exec c { s with pending := rest }

/-- Every command completes in every state and leaves the queue as it stands; on a part in reset none but a reset's
causes and the leaving of reset has an effect (R174). -/
def Obligations.EveryCommandCompletes : Prop :=
  (∀ (c : Instr) (s : State), ∃ t, exec c s = .next t ∧ t.pending = s.pending) ∧
  (∀ (c : Instr) (s : State), s.inReset ≠ none → actsInReset c = false → exec c s = .next s)

/-- The payload lengths in bytes that a request of a code allows (R177; SET-ACTIVATION's 9 bytes hold the interval in
1 byte, log 13). -/
def payloadLengths : Byte → List Nat
  | 0x01#8 => [0] | 0x02#8 => [0] | 0x03#8 => [1]
  | 0x10#8 => [17] | 0x11#8 => [1] | 0x12#8 => [1] | 0x13#8 => [2] | 0x14#8 => [1] | 0x15#8 => [3]
  | 0x16#8 => [1] | 0x17#8 => [1]
  | 0x20#8 => [14] | 0x21#8 => [8] | 0x22#8 => [3, 9] | 0x23#8 => [14] | 0x24#8 => [2, 9]
  | 0x30#8 => [9] | 0x31#8 => [0] | 0x32#8 => [2] | 0x33#8 => [2] | 0x34#8 => [2] | 0x35#8 => [2]
  | 0x38#8 => [19] | 0x39#8 => [1]
  | _ => []

/-- A request whose payload has none of the lengths its code allows is answered MALFORMED, and one that is not
answered DONE, whatever the reason, changes nothing. SET-ACTIVATION's length of 9 bytes, with the interval in 1 byte,
is DEDUCED (log 13) (R168). -/
def Obligations.ARefusedRequestChangesNothing : Prop :=
  (∀ (tag code : Byte) (payload : List Byte) (s : State), s.takes → code ∈ Config.requestCodes →
    payload.length ∉ payloadLengths code →
    exec (commandOf tag code payload) s = .next { s with iface := s.iface.answered tag code .malformed [] }) ∧
  (∀ (code : Byte) (payload : List Byte) (s : State),
    (answerFor code payload s).code ≠ .done → (answerFor code payload s).state = s)

/-! ## STATUS, RESET, BIAS -/

/-- STATUS reports the part, its own place included, and clears the sag latch; nothing else changes (R172). -/
def Obligations.StatusReportsThePart : Prop :=
  ∀ (tag : Byte) (s : State), s.takes →
    exec (.status tag []) s = .next
      { s with
        rail := { s.rail with latch := false },
        iface := s.iface.answered tag 0x01#8 .done
          (u8 (causeNo s.iface.cause) ++ u8 (biasNo s.bias.state) ++ u8 (railNo s.rail.state)
            ++ flagByte s.rail.latch
            ++ Quad.all.flatMap (fun l => u8 (legStateNo (s.leg l).state) ++ flagByte (s.leg l).startPending
                ++ flagByte (s.leg l).finalPending)
            ++ u16 (usedCount s.roster) ++ u8 s.candidates.length ++ u8 s.iface.notices.length
            ++ u8 (s.iface.buffer.length + 1)) }

/-- RESET is answered DONE and marks a requested reset as pending; the part runs on (R173). -/
def Obligations.ResetRequestMarksAReset : Prop :=
  ∀ (tag : Byte) (s : State), s.takes →
    exec (.reset tag []) s = .next
      { s with iface := Interface.answered { s.iface with resetPending := true } tag 0x02#8 .done [] }

/-- The table of R140 but for BIAS OFF in READY: the state entered, both counts at 0 when it changes, and the reply
with the bias state. A value that is neither ON nor OFF is MALFORMED (R168). -/
def Obligations.BiasRequestFollowsItsTable : Prop :=
  ∀ (tag : Byte) (s : State), s.takes →
    (s.bias.state = .off → s.rail.state = .normal →
      exec (.bias tag [1#8]) s = .next
        { s with bias := { s.bias with state := .settling, settle := 0, recovery := 0 },
                 iface := s.iface.answered tag 0x03#8 .done [1#8] }) ∧
    (s.bias.state = .off → s.rail.state = .sag →
      exec (.bias tag [1#8]) s = .next
        { s with bias := { s.bias with state := .tripped, settle := 0, recovery := 0 },
                 iface := s.iface.answered tag 0x03#8 .done [3#8] }) ∧
    (s.bias.state ≠ .off →
      exec (.bias tag [1#8]) s = .next
        { s with iface := s.iface.answered tag 0x03#8 .done [BitVec.ofNat 8 (biasNo s.bias.state)] }) ∧
    (s.bias.state = .settling ∨ s.bias.state = .tripped →
      exec (.bias tag [0#8]) s = .next
        { s with bias := { s.bias with state := .off, settle := 0, recovery := 0 },
                 iface := s.iface.answered tag 0x03#8 .done [0#8] }) ∧
    (s.bias.state = .off →
      exec (.bias tag [0#8]) s = .next { s with iface := s.iface.answered tag 0x03#8 .done [0#8] }) ∧
    (∀ b : Byte, b ≠ 0#8 → b ≠ 1#8 →
      exec (.bias tag [b]) s = .next { s with iface := s.iface.answered tag 0x03#8 .malformed [] })

/-- The leg and delimiter position of the announce whose sample is in hand. -/
def announceSampled : Converter → Option (LegId × Nat)
  | .sampling l (.announce a) _ _ _ => some (l, a)
  | _ => none

/-- The announces in judgement that a scan keeps as the bias leaves READY: the one whose sample is abandoned, when the
bias had been READY from 48 ticks before it to the end of its content. It has no sample from then on (R57, R66,
R133). -/
def keptAnnounces (s : State) (l : LegId) (w : WindowScan) : List AnnounceInHand :=
  (w.found.map fun f =>
      if announceSampled s.meter.converter = some (l, f.a) ∧ f.sample = .awaited then { f with sample := .abandoned }
      else f).filter
    fun f => decide (f.sample = .abandoned ∧ f.ended = true ∧ s.bias.readySince + 48 ≤ w.marker + f.a)

/-- What every departure of the bias from READY does (R57, R133, R147, R164): RUNNING legs are BLIND, isolation runs
are ended, an announce whose content has ended and whose sample is abandoned becomes UNSAMPLED, the other announces in
judgement are dropped, and the converter is IDLE; queued samples, offsets, tables, schedules, calendars, holds, counts and every other block
stand. -/
def LeftReady (s t : State) : Prop :=
  (∀ l,
    (t.leg l).state = (if (s.leg l).state = .running then .blind else (s.leg l).state) ∧
    (t.leg l).run = none ∧
    (t.leg l).receiver =
      { (s.leg l).receiver with
        scan := (s.leg l).receiver.scan.map fun w => { w with found := keptAnnounces s l w } } ∧
    (t.leg l).count = (s.leg l).count ∧ (t.leg l).hold = (s.leg l).hold ∧
    (t.leg l).setup = (s.leg l).setup ∧ (t.leg l).derived = (s.leg l).derived ∧
    (t.leg l).calendar = (s.leg l).calendar ∧ (t.leg l).downstream = (s.leg l).downstream ∧
    (t.leg l).startPending = (s.leg l).startPending ∧ (t.leg l).finalPending = (s.leg l).finalPending) ∧
  t.meter.converter = .idle ∧ t.meter.queues = s.meter.queues ∧ t.meter.offsets = s.meter.offsets ∧
  t.meter.tables = s.meter.tables ∧ t.meter.scheduled = s.meter.scheduled ∧
  t.roster = s.roster ∧ t.candidates = s.candidates ∧ t.params = s.params ∧ t.boundaries = s.boundaries ∧
  t.inReset = none

/-- The notices of a departure from READY: LEG-STATE of every leg that was RUNNING, and then ISOLATION-DONE (ABORTED) of
every isolation run (R147, R164), the runs of several legs in leg order too (DESIGN CHOICE, log 12). -/
def leavingNotices (s : State) : List Notice :=
  ((Quad.all.filter fun l => decide ((s.leg l).state = .running)).map fun l => .legState l .blind (s.leg l).count)
    ++ Quad.all.flatMap fun l => match (s.leg l).run with
        | some run => [.isolationDone l .aborted none none run.begun (s.leg l).count]
        | none => []

/-- BIAS OFF in READY and a sag in READY both end READY with the same consequences, the sag after RAIL-SAG and
BIAS-STATE. The ISOLATION-DONE notices of several legs come in leg order (DESIGN CHOICE, log 12) (R140, R142, R147,
R164). -/
def Obligations.LeavingReadyBlindsTheLegs : Prop :=
  (∀ (tag : Byte) (s : State), s.takes → s.bias.state = .ready →
    ∃ t, exec (.bias tag [0#8]) s = .next t ∧ t.bias = { s.bias with state := .off, settle := 0, recovery := 0 } ∧
      t.rail = s.rail ∧ LeftReady s t ∧
      t.iface = Interface.answered ((leavingNotices s).foldl Interface.place s.iface) tag 0x03#8 .done [0#8]) ∧
  (∀ s : State, s.inReset = none → s.rail.state = .normal → s.bias.state = .ready →
    ∃ t, exec .railSag s = .next t ∧
      t.bias = { s.bias with state := .tripped, settle := 0, recovery := 0 } ∧
      t.rail = { state := .sag, latch := true, sagSeen := true } ∧ LeftReady s t ∧
      t.iface = Interface.arbitrate
        ((.railSag .tripped :: .biasState .tripped .ready .sag :: leavingNotices s).foldl Interface.place s.iface))

/-- The rail's events while the bias is not READY, and its recovery (R142, R144): a sag sets the latch and is
reported, SETTLING trips and OFF and TRIPPED stay; a recovery changes the rail state alone. -/
def Obligations.RailEventsFollowTheirTable : Prop :=
  ∀ s : State, s.inReset = none →
    (s.rail.state = .normal → s.bias.state = .settling →
      exec .railSag s = .next
        { s with rail := { state := .sag, latch := true, sagSeen := true },
                 bias := { s.bias with state := .tripped, settle := 0, recovery := 0 },
                 iface := ((s.iface.place (.railSag .tripped)).place (.biasState .tripped .settling .sag)).arbitrate }) ∧
    (s.rail.state = .normal → s.bias.state = .off ∨ s.bias.state = .tripped →
      exec .railSag s = .next
        { s with rail := { state := .sag, latch := true, sagSeen := true },
                 bias := { s.bias with settle := 0, recovery := 0 },
                 iface := (s.iface.place (.railSag s.bias.state)).arbitrate }) ∧
    (s.rail.state = .sag →
      exec .railRecovery s = .next
        { s with rail := { s.rail with state := .normal }, iface := s.iface.arbitrate })

/-! ## Leg requests -/

/-- SETUP-LEG on a quiet leg with every value in its range replaces the whole setup, and the derived values are those
of R18 to R20, which the reply carries; a payload that cannot be read, a leg that is not 0..3, a leg that is not quiet
and a value out of range are refused in that order (R150). -/
def Obligations.SetupLegReplacesTheSetup : Prop :=
  (∀ (tag : Byte) (payload : List Byte) (s : State), s.takes → parseSetup payload = none →
    exec (.setupLeg tag payload) s = .next { s with iface := s.iface.answered tag 0x10#8 .malformed [] }) ∧
  (∀ (tag : Byte) (payload : List Byte) (f : SetupFields) (s : State), s.takes → parseSetup payload = some f →
    (Quad.ofNat? f.leg = none →
      exec (.setupLeg tag payload) s = .next { s with iface := s.iface.answered tag 0x10#8 .outOfRange [] }) ∧
    (∀ l, Quad.ofNat? f.leg = some l → (s.leg l).quiet = false →
      exec (.setupLeg tag payload) s = .next { s with iface := s.iface.answered tag 0x10#8 .wrongState [] }) ∧
    (∀ l, Quad.ofNat? f.leg = some l → (s.leg l).quiet = true →
      ¬ (f.near < f.far ∧ f.far ≤ 240 ∧ f.trim ≤ 255 ∧
          (f.zEntered = 0 ∨ (f.zEntered % 20 = 0 ∧ 25 * (100 * f.far) ≤ f.zEntered ∧ f.zEntered ≤ 600000)) ∧
          8 ≤ f.interval ∧ f.interval ≤ 4000 ∧ 1 ≤ f.maxEchoes ∧ f.maxEchoes ≤ 16 ∧ f.announceRange ≤ 3) →
      exec (.setupLeg tag payload) s = .next { s with iface := s.iface.answered tag 0x10#8 .outOfRange [] }) ∧
    (∀ l k z, Quad.ofNat? f.leg = some l → (s.leg l).quiet = true →
      f.near < f.far → f.far ≤ 240 → f.trim ≤ 255 →
      (f.zEntered = 0 ∧ z = 25 * (100 * f.far) ∨
        f.zEntered ≠ 0 ∧ z = f.zEntered ∧ z % 20 = 0 ∧ 25 * (100 * f.far) ≤ z ∧ z ≤ 600000) →
      8 ≤ f.interval → f.interval ≤ 4000 → 1 ≤ f.maxEchoes → f.maxEchoes ≤ 16 →
      Quad.ofNat? f.announceRange = some k →
      exec (.setupLeg tag payload) s = .next
        { s with
          legs := s.legs.set l
            { s.leg l with
              setup :=
                { near := f.near, far := f.far, zEntered := f.zEntered, trim := f.trim, interval := f.interval,
                  maxEchoes := f.maxEchoes, mask := f.mask, matchSet := f.matchSet, announceRange := k,
                  policy := f.policy, musterOn := f.musterOn },
              derived :=
                { z := z, omega := 4000 + f.trim + z / 20, span := 125 * (f.far - f.near),
                  w := 125 * (f.far - f.near) + 2176, am := (z - 25 * (100 * f.near)) / 20 } },
          iface := s.iface.answered tag 0x10#8 .done
            (u32 z ++ u16 (4000 + f.trim + z / 20) ++ u16 (125 * (f.far - f.near))
              ++ u16 (125 * (f.far - f.near) + 2176) ++ u16 ((z - 25 * (100 * f.near)) / 20)) }))

/-- START-LEG leaves a start pending on a quiet leg, is refused WRONG-STATE on another and OUT-OF-RANGE for a number
that is not a leg (R151); LEG-MUSTER sets the muster flag in any leg state, and is MALFORMED with a flag that is
neither 0 nor 1 (R154, R168). -/
def Obligations.StartAndMusterSetTheirMarks : Prop :=
  (∀ (tag b : Byte) (s : State), s.takes →
    (Quad.ofNat? b.toNat = none →
      exec (.startLeg tag [b]) s = .next { s with iface := s.iface.answered tag 0x11#8 .outOfRange [] }) ∧
    (∀ l, Quad.ofNat? b.toNat = some l →
      ((s.leg l).started = true ∨ (s.leg l).startPending = true ∨ (s.leg l).finalPending = true →
        exec (.startLeg tag [b]) s = .next { s with iface := s.iface.answered tag 0x11#8 .wrongState [] }) ∧
      ((s.leg l).state = .stopped → (s.leg l).startPending = false → (s.leg l).finalPending = false →
        exec (.startLeg tag [b]) s = .next
          { s with legs := s.legs.set l { s.leg l with startPending := true },
                   iface := s.iface.answered tag 0x11#8 .done [] }))) ∧
  (∀ (tag : Byte) (payload : List Byte) (f : LegMusterFields) (s : State), s.takes →
    parseLegMuster payload = some f →
    (Quad.ofNat? f.leg = none →
      exec (.legMuster tag payload) s = .next { s with iface := s.iface.answered tag 0x13#8 .outOfRange [] }) ∧
    (∀ l, Quad.ofNat? f.leg = some l →
      exec (.legMuster tag payload) s = .next
        { s with legs := s.legs.set l { s.leg l with setup := { (s.leg l).setup with musterOn := f.on } },
                 iface := s.iface.answered tag 0x13#8 .done [] })) ∧
  (∀ (tag leg flag : Byte) (s : State), s.takes → flag ≠ 0#8 → flag ≠ 1#8 →
    exec (.legMuster tag [leg, flag]) s = .next { s with iface := s.iface.answered tag 0x13#8 .malformed [] })

/-- The notices that the teardown of leg `l` places, in the order of R152's steps. -/
def teardownNotices (l : LegId) (x : Leg) : List Notice :=
  (match x.run with
    | some run => [.isolationDone l .aborted none none run.begun x.count]
    | none => [])
  ++ (match x.hold with
    | some h => [.holdEnded l .stopped h.built x.count]
    | none => [])
  ++ (x.live.map fun p =>
      .dropEnded l p.1 p.2.tag p.2.plot p.2.rosterIndex .stopped p.2.state p.2.attempts p.2.misses x.count)
  ++ [.legState l .stopped x.count]

/-- STOP-LEG on a started leg tears it down whole: the leg, its records, its candidates, its receiver and its share of
the Level Meter, with one notice for each thing ended; every other leg stands. On a STOPPED leg it is refused
WRONG-STATE, and for a number that is not a leg OUT-OF-RANGE (R152). -/
def Obligations.StopLegTearsTheLegDown : Prop :=
  (∀ (tag b : Byte) (s : State), s.takes → Quad.ofNat? b.toNat = none →
    exec (.stopLeg tag [b]) s = .next { s with iface := s.iface.answered tag 0x12#8 .outOfRange [] }) ∧
  ∀ (tag b : Byte) (l : LegId) (s : State), s.takes → Quad.ofNat? b.toNat = some l →
    ((s.leg l).state = .stopped →
      exec (.stopLeg tag [b]) s = .next { s with iface := s.iface.answered tag 0x12#8 .wrongState [] }) ∧
    ((s.leg l).started = true →
      ∃ t, exec (.stopLeg tag [b]) s = .next t ∧
        t.leg l =
          { s.leg l with
            state := .stopped, finalPending := true, run := none, hold := none, calendar := none,
            drops := (s.leg l).drops.map fun _ => none,
            queue := [{ dir := .releaseAll, ident := none, follow := FollowOn.empty }],
            receiver := { Receiver.reset with lightHistory := (s.leg l).receiver.lightHistory } } ∧
        (∀ k, k ≠ l → t.leg k = s.leg k) ∧
        t.candidates = s.candidates.filter (fun c => decide (c.leg ≠ l)) ∧
        t.meter =
          { s.meter with
            converter := if s.meter.converter.leg? = some l then .idle else s.meter.converter,
            queues := s.meter.queues.set l [], wants := s.meter.wants.set l [],
            scheduled := s.meter.scheduled.filter fun c => decide (c.leg ≠ l) } ∧
        (∀ i e, s.rosterAt i = some e → (∃ d r, s.record l d = some r ∧ r.rosterIndex = i) →
          t.rosterAt i = some { e with state := .expected, link := none }) ∧
        (∀ i, (∀ d r, s.record l d = some r → r.rosterIndex ≠ i) → t.rosterAt i = s.rosterAt i) ∧
        t.iface = Interface.answered ((teardownNotices l (s.leg l)).foldl Interface.place s.iface) tag 0x12#8 .done [] ∧
        t.bias = s.bias ∧ t.rail = s.rail ∧ t.params = s.params ∧ t.boundaries = s.boundaries ∧ t.inReset = none)

/-- LEG-READ reports a leg and changes nothing (R55, R155). -/
def Obligations.LegReadReportsALeg : Prop :=
  ∀ (tag b : Byte) (s : State), s.takes →
    (Quad.ofNat? b.toNat = none →
      exec (.legRead tag [b]) s = .next { s with iface := s.iface.answered tag 0x14#8 .outOfRange [] }) ∧
    (∀ l x, Quad.ofNat? b.toNat = some l → x = s.leg l →
      exec (.legRead tag [b]) s = .next
        { s with
          iface := s.iface.answered tag 0x14#8 .done
            (u8 (legStateNo x.state) ++ flagByte x.startPending ++ flagByte x.finalPending ++ cycleBytes x.count
              ++ x.setup.values ++ x.derived.values
              ++ (match x.hold with
                  | none => [0#8]
                  | some h => 1#8 :: (u16 h.length ++ optCycleBytes h.first ++ u16 h.built))
              ++ (match x.run with
                  | none => [0#8]
                  | some r => 1#8 :: (u8 r.list.length ++ u8 r.pos
                      ++ optByte ((r.list[r.pos]?).map Identity.drop) ++ u8 (phaseNo r.phase)
                      ++ optCycleBytes r.silence ++ u8 r.clean))
              ++ flagByte x.receiver.latch ++ u8 x.receiver.cleanCount ++ u8 x.receiver.announces.length
              ++ (match x.calendar with
                  | none => [0#8]
                  | some c => 1#8 :: (cycleBytes c.cycle ++ flagByte c.window.isSome
                      ++ u16 (c.spill.getD 0 + c.window.getD 0) ++ flagByte c.spill.isSome ++ u8 c.echoes.length
                      ++ u8 (c.echoes.length + c.services.length) ++ flagByte c.scaled ++ flagByte c.darkTail))
              ++ u32 x.musterCounter.toNat ++ optCycleBytes x.lastMuster ++ u8 x.queue.length
              ++ u8 (parkCount x.queue) ++ u8 (x.drops.length - usedCount x.drops)
              ++ u8 (x.countIn .enrolling) ++ u8 (x.countIn .levelling) ++ u8 (x.countIn .soak)
              ++ u8 (x.countIn .inService) ++ u8 (x.countIn .silenced)) })

/-- HOLD-LEG: its checks in order, and then a hold in effect with no hold cycle built (R156). UNHOLD-LEG ends a hold
in effect RELEASED, with the hold cycles built; without one it is refused (R159). -/
def Obligations.HoldAndUnholdBeginAndEndAHold : Prop :=
  (∀ (tag : Byte) (payload : List Byte) (f : HoldFields) (s : State), s.takes → parseHold payload = some f →
    (Quad.ofNat? f.leg = none →
      exec (.holdLeg tag payload) s = .next { s with iface := s.iface.answered tag 0x15#8 .outOfRange [] }) ∧
    (∀ l, Quad.ofNat? f.leg = some l →
      ((s.leg l).state = .stopped ∨ (s.leg l).hold ≠ none ∨ (s.leg l).run ≠ none →
        exec (.holdLeg tag payload) s = .next { s with iface := s.iface.answered tag 0x15#8 .wrongState [] }) ∧
      ((s.leg l).state ≠ .stopped → (s.leg l).hold = none → (s.leg l).run = none →
        (f.length = 0 ∨ 1600 < f.length →
          exec (.holdLeg tag payload) s = .next { s with iface := s.iface.answered tag 0x15#8 .outOfRange [] }) ∧
        (1 ≤ f.length → f.length ≤ 1600 →
          exec (.holdLeg tag payload) s = .next
            { s with
              legs := s.legs.set l
                { s.leg l with hold := some { length := f.length, first := none, built := 0 } },
              iface := s.iface.answered tag 0x15#8 .done [] })))) ∧
  (∀ (tag b : Byte) (s : State), s.takes →
    (Quad.ofNat? b.toNat = none →
      exec (.unholdLeg tag [b]) s = .next { s with iface := s.iface.answered tag 0x16#8 .outOfRange [] }) ∧
    (∀ l, Quad.ofNat? b.toNat = some l →
      ((s.leg l).hold = none →
        exec (.unholdLeg tag [b]) s = .next { s with iface := s.iface.answered tag 0x16#8 .wrongState [] }) ∧
      (∀ h, (s.leg l).hold = some h →
        exec (.unholdLeg tag [b]) s = .next
          { s with
            legs := s.legs.set l { s.leg l with hold := none },
            iface := Interface.answered (s.iface.place (.holdEnded l .released h.built (s.leg l).count)) tag 0x16#8
              .done [] })))

/-- ISOLATE-LEG fixes the turn list and begins the first turn: the first candidate's flag is set and a Silence for it
is queued; with no candidate the run ends NONE at once; otherwise than on a RUNNING leg with its latch set and no hold
or run it is refused WRONG-STATE, and for a number that is not a leg OUT-OF-RANGE (R160, R161). -/
def Obligations.IsolateLegBeginsTheFirstTurn : Prop :=
  (∀ (tag b : Byte) (s : State), s.takes → Quad.ofNat? b.toNat = none →
    exec (.isolateLeg tag [b]) s = .next { s with iface := s.iface.answered tag 0x17#8 .outOfRange [] }) ∧
  ∀ (tag b : Byte) (l : LegId) (s : State), s.takes → Quad.ofNat? b.toNat = some l →
    ((s.leg l).state ≠ .running ∨ (s.leg l).receiver.latch = false ∨ (s.leg l).hold ≠ none ∨ (s.leg l).run ≠ none →
      exec (.isolateLeg tag [b]) s = .next { s with iface := s.iface.answered tag 0x17#8 .wrongState [] }) ∧
    ((s.leg l).state = .running → (s.leg l).receiver.latch = true → (s.leg l).hold = none → (s.leg l).run = none →
      ∀ turns, turns = (s.leg l).live.filter (fun p => decide (p.2.state ≠ .silenced)) →
      (turns = [] →
        exec (.isolateLeg tag [b]) s = .next
          { s with
            iface := Interface.answered
              (s.iface.place (.isolationDone l .none none none 0 (s.leg l).count)) tag 0x17#8 .done [0#8] }) ∧
      (∀ d r rest, turns = (d, r) :: rest → s.record l d = some r → r.ident.drop = d →
        exec (.isolateLeg tag [b]) s = .next
          { s with
            legs := s.legs.set l
              { s.leg l with
                drops := (s.leg l).drops.set d (some { r with isolated := true }),
                queue := enqueue d (.silence d) (some r.ident) (s.leg l).queue,
                run := some { list := turns.map fun p => p.2.ident, pos := 0, begun := 1, phase := .silenceQueued,
                              silence := none, clean := 0 } },
            iface := s.iface.answered tag 0x17#8 .done [BitVec.ofNat 8 turns.length] }))

/-! ## Roster and candidates -/

/-- ROSTER-PUT for a tag that no entry holds: a new entry at the lowest free index, which a candidate with the tag
takes; NO-ROOM with no free index; OUT-OF-RANGE for a value out of its range, whatever the roster (R76, R80). -/
def Obligations.RosterPutCreatesAnEntry : Prop :=
  ∀ (tag : Byte) (payload : List Byte) (f : RosterPutFields) (s : State), s.takes →
    parseRosterPut payload = some f →
    (¬ (1 ≤ f.plot ∧ f.plot ≤ 4095 ∧ f.share ≤ 8000 ∧ f.share % 8 = 0 ∧ (f.leg ≤ 3 ∨ f.leg = 255)) →
      exec (.rosterPut tag payload) s = .next { s with iface := s.iface.answered tag 0x20#8 .outOfRange [] }) ∧
    (∀ leg, 1 ≤ f.plot → f.plot ≤ 4095 → f.share ≤ 8000 → f.share % 8 = 0 → expectedOf f.leg = some leg →
      s.rosterEntry f.tag = none →
      (firstFree s.roster = none →
        exec (.rosterPut tag payload) s = .next { s with iface := s.iface.answered tag 0x20#8 .noRoom [] }) ∧
      (∀ i, firstFree s.roster = some i →
        exec (.rosterPut tag payload) s = .next
          { s with
            roster := s.roster.set i (some
              { tag := f.tag, plot := f.plot, expected := leg, share := f.share,
                state := if f.barred then .barred else .expected, link := none, lastHeard := none }),
            candidates := s.candidates.map fun c => if c.tag = f.tag then { c with rosterIndex := some i } else c,
            iface := s.iface.answered tag 0x20#8 .done (u16 i) }))

/-- ROSTER-PUT for a tag that an entry holds: an entry that is not ACTIVE takes every value carried; an ACTIVE one
takes the plot label and the share, with its record, when the barred flag is clear and the expected leg is its own,
and is refused otherwise (R76, R77). -/
def Obligations.RosterPutChangesAnEntry : Prop :=
  ∀ (tag : Byte) (payload : List Byte) (f : RosterPutFields) (s : State) (leg : ExpectedLeg) (i : Nat)
    (e : RosterEntry), s.takes → parseRosterPut payload = some f →
    1 ≤ f.plot → f.plot ≤ 4095 → f.share ≤ 8000 → f.share % 8 = 0 → expectedOf f.leg = some leg →
    s.rosterEntry f.tag = some (i, e) →
    (e.state ≠ .active →
      exec (.rosterPut tag payload) s = .next
        { s with
          roster := s.roster.set i (some
            { e with plot := f.plot, expected := leg, share := f.share,
                     state := if f.barred then .barred else .expected }),
          iface := s.iface.answered tag 0x20#8 .done (u16 i) }) ∧
    (e.state = .active → f.barred = true ∨ e.expected ≠ leg →
      exec (.rosterPut tag payload) s = .next { s with iface := s.iface.answered tag 0x20#8 .wrongState [] }) ∧
    (∀ l d r, e.state = .active → f.barred = false → e.expected = leg → e.link = some (l, d) →
      s.record l d = some r →
      exec (.rosterPut tag payload) s = .next
        { s with
          roster := s.roster.set i (some { e with plot := f.plot, share := f.share }),
          legs := s.legs.set l
            { s.leg l with drops := (s.leg l).drops.set d (some { r with plot := f.plot, share := f.share }) },
          iface := s.iface.answered tag 0x20#8 .done (u16 i) })

/-- ROSTER-REMOVE frees the index of an entry that is not ACTIVE, and a candidate with the tag loses its index
(R78, R80). -/
def Obligations.RosterRemoveFreesTheIndex : Prop :=
  ∀ (tag : Byte) (payload : List Byte) (f : FactoryTag) (s : State), s.takes → parseTag payload = some f →
    (s.rosterEntry f = none →
      exec (.rosterRemove tag payload) s = .next { s with iface := s.iface.answered tag 0x21#8 .notFound [] }) ∧
    (∀ i e, s.rosterEntry f = some (i, e) →
      (e.state = .active →
        exec (.rosterRemove tag payload) s = .next { s with iface := s.iface.answered tag 0x21#8 .wrongState [] }) ∧
      (e.state ≠ .active →
        exec (.rosterRemove tag payload) s = .next
          { s with
            roster := s.roster.set i none,
            candidates := s.candidates.map fun c => if c.tag = f then { c with rosterIndex := none } else c,
            iface := s.iface.answered tag 0x21#8 .done (u16 i) }))

/-- The fields of a roster entry in ROSTER-READ's order (R79, R177). -/
def rosterReply (i : Nat) (e : RosterEntry) : List Byte :=
  u16 i ++ tagBytes e.tag ++ u16 e.plot ++ expectedByte e.expected ++ u16 e.share ++ u8 (rosterStateNo e.state)
    ++ (match e.link with
        | some (l, d) => u8 l.val ++ u8 d
        | none => [0xFE#8, 0xFF#8])
    ++ (match e.lastHeard with
        | some (l, n) => u8 l.val ++ (2#8 :: u32 n.toNat)
        | none => [0xFE#8, 0#8, 0#8, 0#8, 0#8, 0#8])

/-- ROSTER-READ by index or by tag reports the entry and changes nothing (R79). -/
def Obligations.RosterReadReportsAnEntry : Prop :=
  ∀ (tag : Byte) (payload : List Byte) (s : State), s.takes →
    (∀ i, parseRosterKey payload = some (.number i) →
      (255 < i →
        exec (.rosterRead tag payload) s = .next { s with iface := s.iface.answered tag 0x22#8 .outOfRange [] }) ∧
      (i ≤ 255 → s.rosterAt i = none →
        exec (.rosterRead tag payload) s = .next { s with iface := s.iface.answered tag 0x22#8 .notFound [] }) ∧
      (∀ e, i ≤ 255 → s.rosterAt i = some e →
        exec (.rosterRead tag payload) s = .next
          { s with iface := s.iface.answered tag 0x22#8 .done (rosterReply i e) })) ∧
    (∀ f, parseRosterKey payload = some (.tag f) →
      (s.rosterEntry f = none →
        exec (.rosterRead tag payload) s = .next { s with iface := s.iface.answered tag 0x22#8 .notFound [] }) ∧
      (∀ i e, s.rosterEntry f = some (i, e) →
        exec (.rosterRead tag payload) s = .next
          { s with iface := s.iface.answered tag 0x22#8 .done (rosterReply i e) }))

/-- VERDICT is NOT-FOUND for a tag that no candidate holds; a REJECT removes the candidate and queues a Park on its
leg; an ADMIT that fails a check of R91 is refused with the reply of the first check that fails (R90, R91, R94). -/
def Obligations.VerdictRejectsAndRefuses : Prop :=
  ∀ (tag : Byte) (payload : List Byte) (f : VerdictFields) (s : State), s.takes →
    parseVerdict payload = some f →
    (s.candidate f.tag = none →
      exec (.verdict tag payload) s = .next { s with iface := s.iface.answered tag 0x23#8 .notFound [] }) ∧
    (∀ c, s.candidate f.tag = some c → f.reject = true →
      exec (.verdict tag payload) s = .next
        { s with
          candidates := s.candidates.filter (fun c => decide (c.tag ≠ f.tag)),
          legs := s.legs.set c.leg ((s.leg c.leg).park f.tag),
          iface := s.iface.answered tag 0x23#8 .done [] }) ∧
    (∀ c, s.candidate f.tag = some c → f.reject = false →
      (∀ i e, s.rosterEntry f.tag = some (i, e) → e.state = .barred →
        exec (.verdict tag payload) s = .next { s with iface := s.iface.answered tag 0x23#8 .wrongState [] }) ∧
      (s.rosterEntry f.tag = none → f.plot = 0 ∨ f.share = 65535 ∨ f.leg = 254 →
        exec (.verdict tag payload) s = .next { s with iface := s.iface.answered tag 0x23#8 .malformed [] }) ∧
      (s.rosterEntry f.tag = none → f.plot ≠ 0 → f.share ≠ 65535 → f.leg ≠ 254 →
        ¬ (f.plot ≤ 4095 ∧ f.share ≤ 8000 ∧ f.share % 8 = 0 ∧ (f.leg = c.leg.val ∨ f.leg = 255)) →
        exec (.verdict tag payload) s = .next { s with iface := s.iface.answered tag 0x23#8 .outOfRange [] }) ∧
      (s.rosterEntry f.tag = none → f.plot ≠ 0 → f.plot ≤ 4095 → f.share ≤ 8000 → f.share % 8 = 0 →
        f.leg = c.leg.val ∨ f.leg = 255 → firstFree s.roster = none ∨ firstFree (s.leg c.leg).drops = none →
        exec (.verdict tag payload) s = .next { s with iface := s.iface.answered tag 0x23#8 .noRoom [] }) ∧
      (∀ i e, s.rosterEntry f.tag = some (i, e) → e.state ≠ .barred → firstFree (s.leg c.leg).drops = none →
        exec (.verdict tag payload) s = .next { s with iface := s.iface.answered tag 0x23#8 .noRoom [] }))

/-- The leg of a candidate as an ADMIT leaves it: the lowest FREE record `d` allocated from the candidate and the
roster values, one allocation more, and an Enrol queued (R85, R92, R99). -/
def admitted (x : Leg) (d i plot share : Nat) (c : Candidate) : Leg :=
  { x with
    allocCount := x.allocCount + 1#32,
    drops := x.drops.set d (some
      { state := .enrolling, ident := { drop := d, cycle := x.count, count := x.allocCount + 1#32 }, tag := c.tag,
        rosterIndex := i, plot := plot, share := share, r := c.r, e := x.derived.z - c.r, offsetField := .absent,
        launch := c.launch, launchField := .absent,
        hint := if c.vector.overRange then x.setup.announceRange.up
          else if c.vector.underRange then x.setup.announceRange.down else x.setup.announceRange,
        lastPower := c.power, flags := { fault := false, unknown := false, drift := false }, vector := c.vector,
        reported := none, attempts := 1, echoes := 0, adjustments := 0, unmeasured := 0, streak := 0, misses := 0,
        echoDue := none, echoSeq := 0#8, silentRun := 0, lastDrift := 0, resumeTo := none, isolated := false,
        lastSample := none, enrolTx := none, silenceTx := none, resumeTx := none, measures := [] }),
    queue := enqueue d (.enrol c.tag d (x.derived.z - c.r) c.launch)
      (some { drop := d, cycle := x.count, count := x.allocCount + 1#32 }) x.queue }

/-- An ADMIT that passes its checks: for an EXPECTED entry, and for a new one, the expected leg is corrected, the
lowest FREE drop of the candidate's leg is allocated, the entry is ACTIVE with the link, and the candidate leaves the
list; for an ACTIVE entry the linked record is first ended SUPERSEDED with a Release on its own leg (R92, R99). -/
def Obligations.VerdictAdmitAllocatesADrop : Prop :=
  ∀ (tag : Byte) (payload : List Byte) (f : VerdictFields) (s : State) (c : Candidate) (d : Nat), s.takes →
    parseVerdict payload = some f → f.reject = false → s.candidate f.tag = some c →
    firstFree (s.leg c.leg).drops = some d →
    (∀ i e, s.rosterEntry f.tag = some (i, e) → e.state = .expected →
      exec (.verdict tag payload) s = .next
        { s with
          roster := s.roster.set i (some
            { e with expected := if e.expected = .any then .any else .leg c.leg,
                     state := .active, link := some (c.leg, d) }),
          legs := s.legs.set c.leg (admitted (s.leg c.leg) d i e.plot e.share c),
          candidates := s.candidates.filter (fun c => decide (c.tag ≠ f.tag)),
          iface := s.iface.answered tag 0x23#8 .done (u16 i ++ u8 d) }) ∧
    (∀ i leg, s.rosterEntry f.tag = none → f.plot ≠ 0 → f.plot ≤ 4095 → f.share ≤ 8000 → f.share % 8 = 0 →
      expectedOf f.leg = some leg → leg = .any ∨ leg = .leg c.leg → firstFree s.roster = some i →
      exec (.verdict tag payload) s = .next
        { s with
          roster := s.roster.set i (some
            { tag := f.tag, plot := f.plot, expected := leg, share := f.share, state := .active,
              link := some (c.leg, d), lastHeard := none }),
          legs := s.legs.set c.leg (admitted (s.leg c.leg) d i f.plot f.share c),
          candidates := s.candidates.filter (fun c => decide (c.tag ≠ f.tag)),
          iface := s.iface.answered tag 0x23#8 .done (u16 i ++ u8 d) }) ∧
    (∀ i e k n r, s.rosterEntry f.tag = some (i, e) → e.state = .active → e.link = some (k, n) →
      s.record k n = some r → r.rosterIndex = i → r.isolated = false → r.ident.drop = n → k ≠ c.leg →
      exec (.verdict tag payload) s = .next
        { s with
          roster := s.roster.set i (some
            { e with expected := if e.expected = .any then .any else .leg c.leg,
                     state := .active, link := some (c.leg, d) }),
          legs := (s.legs.set k
              { s.leg k with drops := (s.leg k).drops.set n none,
                             queue := enqueue n (.release n) (some r.ident) (s.leg k).queue }).set
            c.leg (admitted (s.leg c.leg) d i e.plot e.share c),
          candidates := s.candidates.filter (fun c => decide (c.tag ≠ f.tag)),
          iface := Interface.answered
            (s.iface.place (.dropEnded k n r.tag r.plot r.rosterIndex .superseded r.state r.attempts r.misses
              (s.leg k).count)) tag 0x23#8 .done (u16 i ++ u8 d) })

/-- The fields of a candidate entry in CANDIDATE-READ's order (R95, R177). -/
def candidateReply (pos n : Nat) (c : Candidate) : List Byte :=
  tagBytes c.tag ++ u8 c.leg.val ++ u8 (heldReasonNo c.reason) ++ u16 (c.r / 25) ++ u32 c.r
    ++ (match c.power with
        | some v => i16 v
        | none => [0x80#8, 0x00#8])
    ++ attrByte c.vector ++ u8 c.launch.val
    ++ (match c.rosterIndex with
        | some i => u16 i
        | none => [0xFF#8, 0xFF#8])
    ++ u32 c.firstHeard.toNat ++ u32 c.lastHeard.toNat ++ u8 pos ++ u8 n

/-- CANDIDATE-READ by list position or by tag reports the entry and changes nothing (R95). -/
def Obligations.CandidateReadReportsAnEntry : Prop :=
  ∀ (tag : Byte) (payload : List Byte) (s : State), s.takes →
    (∀ pos, parseCandidateKey payload = some (.number pos) →
      (16 ≤ pos →
        exec (.candidateRead tag payload) s = .next { s with iface := s.iface.answered tag 0x24#8 .outOfRange [] }) ∧
      (pos < 16 → s.candidates[pos]? = none →
        exec (.candidateRead tag payload) s = .next { s with iface := s.iface.answered tag 0x24#8 .notFound [] }) ∧
      (∀ c, pos < 16 → s.candidates[pos]? = some c →
        exec (.candidateRead tag payload) s = .next
          { s with iface := s.iface.answered tag 0x24#8 .done (candidateReply pos s.candidates.length c) })) ∧
    (∀ f, parseCandidateKey payload = some (.tag f) →
      ((∀ c ∈ s.candidates, c.tag ≠ f) →
        exec (.candidateRead tag payload) s = .next { s with iface := s.iface.answered tag 0x24#8 .notFound [] }) ∧
      (∀ pos c, s.candidates[pos]? = some c → c.tag = f →
        (∀ j b, j < pos → s.candidates[j]? = some b → b.tag ≠ f) →
        exec (.candidateRead tag payload) s = .next
          { s with iface := s.iface.answered tag 0x24#8 .done (candidateReply pos s.candidates.length c) }))

/-! ## Activation parameters and drop records -/

/-- SET-ACTIVATION replaces all six values while every leg is STOPPED; with a leg started it is refused WRONG-STATE,
and with a value out of its range OUT-OF-RANGE (R120). -/
def Obligations.SetActivationReplacesTheSix : Prop :=
  ∀ (tag : Byte) (payload : List Byte) (f : ActivationFields) (s : State), s.takes →
    parseActivation payload = some f →
    ((∃ l, (s.leg l).state ≠ .stopped) →
      exec (.setActivation tag payload) s = .next { s with iface := s.iface.answered tag 0x30#8 .wrongState [] }) ∧
    ((∀ l, (s.leg l).state = .stopped) →
      (¬ (4 ≤ f.streak ∧ f.streak ≤ 64 ∧ 1 ≤ f.interval ∧ f.interval ≤ 64 ∧ 1 ≤ f.missLim ∧ f.missLim ≤ 16 ∧
          -500 ≤ f.floor ∧ f.floor < f.ceiling ∧ f.ceiling ≤ 100 ∧ 400 ≤ f.timeout ∧ f.timeout ≤ 40000) →
        exec (.setActivation tag payload) s = .next { s with iface := s.iface.answered tag 0x30#8 .outOfRange [] }) ∧
      (4 ≤ f.streak ∧ f.streak ≤ 64 ∧ 1 ≤ f.interval ∧ f.interval ≤ 64 ∧ 1 ≤ f.missLim ∧ f.missLim ≤ 16 ∧
          -500 ≤ f.floor ∧ f.floor < f.ceiling ∧ f.ceiling ≤ 100 ∧ 400 ≤ f.timeout ∧ f.timeout ≤ 40000 →
        exec (.setActivation tag payload) s = .next
          { s with
            params := { streak := f.streak, interval := f.interval, missLim := f.missLim, floor := f.floor,
                        ceiling := f.ceiling, timeout := f.timeout },
            iface := s.iface.answered tag 0x30#8 .done [] }))

/-- ACTIVATION-READ returns the six values in force and changes nothing (R121). -/
def Obligations.ActivationReadReturnsTheSix : Prop :=
  ∀ (tag : Byte) (s : State), s.takes →
    exec (.activationRead tag []) s = .next
      { s with
        iface := s.iface.answered tag 0x31#8 .done
          (u8 s.params.streak ++ u8 s.params.interval ++ u8 s.params.missLim ++ i16 s.params.floor
            ++ i16 s.params.ceiling ++ u16 s.params.timeout) }

/-- DROP-SILENCE freezes a live record with its state as resume-to and queues a Silence; DROP-RESUME returns a
record the host silenced to that state and queues a Resume; each is refused WRONG-STATE otherwise, and OUT-OF-RANGE
for a leg that is not 0..3 or a drop number that is not 0..63 (R114, R115). -/
def Obligations.SilenceAndResumeMoveARecord : Prop :=
  (∀ (tag : Byte) (payload : List Byte) (f : DropFields) (s : State), s.takes → parseDrop payload = some f →
    Quad.ofNat? f.leg = none ∨ 64 ≤ f.drop →
    exec (.dropSilence tag payload) s = .next { s with iface := s.iface.answered tag 0x32#8 .outOfRange [] } ∧
    exec (.dropResume tag payload) s = .next { s with iface := s.iface.answered tag 0x33#8 .outOfRange [] }) ∧
  ∀ (tag : Byte) (payload : List Byte) (f : DropFields) (l : LegId) (s : State), s.takes →
    parseDrop payload = some f → Quad.ofNat? f.leg = some l → f.drop < 64 →
    (s.record l f.drop = none ∨ (∃ r, s.record l f.drop = some r ∧ r.state = .silenced) →
      exec (.dropSilence tag payload) s = .next { s with iface := s.iface.answered tag 0x32#8 .wrongState [] }) ∧
    (∀ r, s.record l f.drop = some r → r.ident.drop = f.drop → r.state ≠ .silenced →
      exec (.dropSilence tag payload) s = .next
        { s with
          legs := s.legs.set l
            { s.leg l with
              drops := (s.leg l).drops.set f.drop (some { r with state := .silenced, resumeTo := some r.state }),
              queue := enqueue f.drop (.silence f.drop) (some r.ident) (s.leg l).queue },
          iface := s.iface.answered tag 0x32#8 .done [] }) ∧
    (s.record l f.drop = none ∨ (∃ r, s.record l f.drop = some r ∧ (r.state ≠ .silenced ∨ r.isolated = true)) →
      exec (.dropResume tag payload) s = .next { s with iface := s.iface.answered tag 0x33#8 .wrongState [] }) ∧
    (∀ r st, s.record l f.drop = some r → r.ident.drop = f.drop → r.state = .silenced → r.isolated = false →
      r.resumeTo = some st →
      exec (.dropResume tag payload) s = .next
        { s with
          legs := s.legs.set l
            { s.leg l with
              drops := (s.leg l).drops.set f.drop (some { r with state := st, resumeTo := none }),
              queue := enqueue f.drop (.resume f.drop) (some r.ident) (s.leg l).queue },
          iface := s.iface.answered tag 0x33#8 .done [] })

/-- A candidate of a turn list is passed over once drop `d` is FREE: its record is FREE or SILENCED, or holds another
identity (R163). -/
def PassedOver (x : Leg) (d : Nat) (t : Identity) : Prop :=
  t.drop = d ∨ ∀ r, x.record t.drop = some r → r.ident ≠ t ∨ r.state = .silenced

/-- DROP-RETIRE ends a live record RETIRED: the record is FREE, its roster entry EXPECTED, a Release is queued and
DROP-ENDED is placed. A record in an isolation turn ends likewise, with no Resume, and the turn is skipped: the next
candidate that is not passed over begins its turn with its flag set and a Silence queued, or the run ends NONE. A FREE
record is refused WRONG-STATE, and a leg or drop number out of its range OUT-OF-RANGE (R98, R117, R119, R161, R163). -/
def Obligations.DropRetireEndsARecord : Prop :=
  (∀ (tag : Byte) (payload : List Byte) (f : DropFields) (s : State), s.takes → parseDrop payload = some f →
    Quad.ofNat? f.leg = none ∨ 64 ≤ f.drop →
    exec (.dropRetire tag payload) s = .next { s with iface := s.iface.answered tag 0x34#8 .outOfRange [] }) ∧
  ∀ (tag : Byte) (payload : List Byte) (f : DropFields) (l : LegId) (s : State), s.takes →
    parseDrop payload = some f → Quad.ofNat? f.leg = some l → f.drop < 64 →
    (s.record l f.drop = none →
      exec (.dropRetire tag payload) s = .next { s with iface := s.iface.answered tag 0x34#8 .wrongState [] }) ∧
    (∀ r e, s.record l f.drop = some r → r.ident.drop = f.drop → s.rosterAt r.rosterIndex = some e →
      (r.isolated = false →
        exec (.dropRetire tag payload) s = .next
          { s with
            roster := s.roster.set r.rosterIndex (some { e with state := .expected, link := none }),
            legs := s.legs.set l
              { s.leg l with
                drops := (s.leg l).drops.set f.drop none,
                queue := enqueue f.drop (.release f.drop) (some r.ident) (s.leg l).queue },
            iface := Interface.answered
              (s.iface.place (.dropEnded l f.drop r.tag r.plot r.rosterIndex .retired r.state r.attempts r.misses
                (s.leg l).count)) tag 0x34#8 .done [] }) ∧
      (r.isolated = true →
        ∃ t, exec (.dropRetire tag payload) s = .next t ∧ t.record l f.drop = none ∧
          t.roster = s.roster.set r.rosterIndex (some { e with state := .expected, link := none }) ∧
          (∀ k, k ≠ l → t.leg k = s.leg k) ∧ t.meter = s.meter ∧ t.candidates = s.candidates ∧ t.bias = s.bias) ∧
      (∀ run skipped rest, r.isolated = true → (s.leg l).run = some run →
        run.list.drop (run.pos + 1) = skipped ++ rest → (∀ t ∈ skipped, PassedOver (s.leg l) f.drop t) →
        let roster := s.roster.set r.rosterIndex (some { e with state := .expected, link := none })
        let ended := s.iface.place (.dropEnded l f.drop r.tag r.plot r.rosterIndex .retired r.state r.attempts r.misses
          (s.leg l).count)
        let queue := enqueue f.drop (.release f.drop) (some r.ident) (s.leg l).queue
        (rest = [] →
          exec (.dropRetire tag payload) s = .next
            { s with
              roster := roster,
              legs := s.legs.set l
                { s.leg l with drops := (s.leg l).drops.set f.drop none, queue := queue, run := none },
              iface := Interface.answered
                (ended.place (.isolationDone l .none none none run.begun (s.leg l).count)) tag 0x34#8 .done [] }) ∧
        (∀ u n more, rest = u.ident :: more → u.ident.drop = n → n ≠ f.drop → s.record l n = some u →
          u.state ≠ .silenced →
          exec (.dropRetire tag payload) s = .next
            { s with
              roster := roster,
              legs := s.legs.set l
                { s.leg l with
                  drops := ((s.leg l).drops.set f.drop none).set n (some { u with isolated := true }),
                  queue := enqueue n (.silence n) (some u.ident) queue,
                  run := some
                    { run with pos := run.pos + 1 + skipped.length, begun := run.begun + 1, phase := .silenceQueued,
                               silence := none, clean := 0 } },
              iface := ended.answered tag 0x34#8 .done [] })))

/-- DROP-READ reports a record, FREE or not, and changes nothing (R122). -/
def Obligations.DropReadReportsARecord : Prop :=
  ∀ (tag : Byte) (payload : List Byte) (f : DropFields) (s : State), s.takes → parseDrop payload = some f →
    (Quad.ofNat? f.leg = none ∨ 64 ≤ f.drop →
      exec (.dropRead tag payload) s = .next { s with iface := s.iface.answered tag 0x35#8 .outOfRange [] }) ∧
    (∀ l, Quad.ofNat? f.leg = some l → f.drop < 64 →
      (s.record l f.drop = none →
        exec (.dropRead tag payload) s = .next
          { s with
            iface := s.iface.answered tag 0x35#8 .done
              (u32 (s.leg l).count.toNat ++ u8 f.drop ++ [0#8, 0#8]) }) ∧
      (∀ r, s.record l f.drop = some r →
        exec (.dropRead tag payload) s = .next
          { s with
            iface := s.iface.answered tag 0x35#8 .done
              (u32 (s.leg l).count.toNat ++ u8 f.drop ++ u8 (dropStateNo r.state) ++ [1#8]
                ++ u32 r.ident.cycle.toNat ++ u32 r.ident.count.toNat
                ++ tagBytes r.tag ++ u16 r.rosterIndex ++ u16 r.plot ++ u16 r.share
                ++ u32 r.r ++ u16 (r.r / 25) ++ u32 r.e ++ inFlightBytes r.offsetField ++ inFlightBytes r.launchField
                ++ u8 r.launch.val ++ optByte (r.reported.map fun p => p.1.val)
                ++ optPowerBytes (r.reported.map Prod.snd) ++ u8 r.hint.val ++ optPowerBytes r.lastPower
                ++ flagsByte r.flags ++ attrByte r.vector
                ++ u8 r.attempts ++ u8 r.echoes ++ u8 r.adjustments ++ u8 r.unmeasured ++ u8 r.streak ++ u8 r.misses
                ++ u8 r.silentRun ++ optCycleBytes r.echoDue ++ [r.echoSeq] ++ i16 r.lastDrift
                ++ optByte (r.resumeTo.map dropStateNo) ++ flagByte r.isolated ++ optCycleBytes r.lastSample
                ++ optCycleBytes r.enrolTx ++ optCycleBytes r.silenceTx ++ optCycleBytes r.resumeTx) }))

/-! ## The Level Meter's requests -/

/-- CAL-LOAD replaces the whole table of a range when its nine values lie in −500..+100 and none is lower than the
one before it, and is refused OUT-OF-RANGE otherwise (R137). -/
def Obligations.CalLoadReplacesTheTable : Prop :=
  ∀ (tag : Byte) (payload : List Byte) (f : CalLoadFields) (s : State), s.takes → parseCalLoad payload = some f →
    (Quad.ofNat? f.range = none ∨ (∃ v ∈ f.values, v < -500 ∨ 100 < v) ∨
        (∃ i a b, f.values[i]? = some a ∧ f.values[i + 1]? = some b ∧ b < a) →
      exec (.calLoad tag payload) s = .next { s with iface := s.iface.answered tag 0x38#8 .outOfRange [] }) ∧
    (∀ k, Quad.ofNat? f.range = some k → (∀ v ∈ f.values, -500 ≤ v ∧ v ≤ 100) →
      (∀ (i : Nat) (a b : Int), f.values[i]? = some a → f.values[i + 1]? = some b → a ≤ b) →
      exec (.calLoad tag payload) s = .next
        { s with meter := { s.meter with tables := s.meter.tables.set k f.values },
                 iface := s.iface.answered tag 0x38#8 .done [] })

/-- CAL-READ reports a range's table, the legs' offsets and wants for it, the converter and the sample queues, and
changes nothing (R138). -/
def Obligations.CalReadReportsARange : Prop :=
  ∀ (tag b : Byte) (s : State), s.takes →
    (Quad.ofNat? b.toNat = none →
      exec (.calRead tag [b]) s = .next { s with iface := s.iface.answered tag 0x39#8 .outOfRange [] }) ∧
    (∀ k, Quad.ofNat? b.toNat = some k →
      exec (.calRead tag [b]) s = .next
        { s with
          iface := s.iface.answered tag 0x39#8 .done
            ((s.meter.tables.get k).flatMap i16
              ++ Quad.all.flatMap (fun l =>
                  (match (s.offset l k).code with
                    | some c => u16 c
                    | none => [0xFF#8, 0xFF#8])
                  ++ flagByte (s.offset l k).valid ++ u16 (s.offset l k).age)
              ++ Quad.all.map (fun l =>
                  match (s.meter.wants.get l).find? (fun w => decide (w.range = k)) with
                  | none => 0xFF#8
                  | some w => if w.scheduled then 1#8 else 0#8)
              ++ (match s.meter.converter with
                  | .idle => [0#8, 0xFE#8, 0xFF#8, 0xFF#8]
                  | .sampling l (.drop q) _ _ _ => [1#8] ++ u8 l.val ++ u8 q.ident.drop ++ [0xFF#8]
                  | .sampling l (.announce _) _ _ _ => [1#8] ++ u8 l.val ++ [0xFF#8, 0xFF#8]
                  | .calibrating l j _ => [2#8] ++ u8 l.val ++ [0xFF#8] ++ u8 j.val)
              ++ Quad.all.map (fun l => BitVec.ofNat 8 (s.meter.queues.get l).length)) })

/-! ## The management line -/

/-- The request frames that are turned away: an unknown code is answered UNKNOWN-REQUEST; with all four places
occupied the tag and code join the busy list while it has room; and while a requested reset is pending a frame is
discarded (R167, R168, R173). -/
def Obligations.RequestFramesAreTurnedAway : Prop :=
  ∀ (tag code : Byte) (payload : List Byte) (s : State), s.inReset = none →
    (s.takes → code ∉ Config.requestCodes →
      exec (.unknownRequest tag code payload) s = .next
        { s with iface := s.iface.answered tag code .unknownRequest [] }) ∧
    (s.iface.resetPending = false → 4 ≤ s.iface.buffer.length → s.iface.busy.length < 40 →
      ∀ t, t = { s with
                  iface := Interface.arbitrate { s.iface with rx := none, busy := s.iface.busy ++ [⟨tag, code⟩] } } →
        exec (.lineBusy tag code payload) s = .next t ∧ exec (commandOf tag code payload) s = .next t) ∧
    (s.iface.resetPending = true →
      ∀ t, t = { s with iface := Interface.arbitrate { s.iface with rx := none } } →
        exec (.requestDiscardedResetPending tag code payload) s = .next t ∧
          exec (commandOf tag code payload) s = .next t)

/-- The receive side between frames and inside one: HUNTING drops every byte but a sync; a frame goes on while its
control byte is of a frame kind, its length byte is 240 or less and its CRC has not come; a timeout and a reply or
notice frame leave it HUNTING (R166). -/
def Obligations.TheReceiveSideHoldsAFrame : Prop :=
  ∀ s : State, s.inReset = none →
    (∀ b, s.iface.rx = none → b ≠ 0x5A#8 →
      exec (.characterReceived b) s = .next { s with iface := s.iface.arbitrate }) ∧
    (s.iface.rx = none →
      exec (.characterReceived 0x5A#8) s = .next
        { s with iface := Interface.arbitrate { s.iface with rx := some [] } }) ∧
    (∀ held b, s.iface.rx = some held →
      (held = [] ∧ b &&& 3#8 ≠ 0#8 ∨ held.length = 1 ∨ held.length = 2 ∨ held.length = 3 ∧ b.toNat ≤ 240 ∨
        (∃ c t k len rest, held = c :: t :: k :: len :: rest ∧ len.toNat ≤ 240 ∧ rest.length + 1 < len.toNat + 2)) →
      exec (.characterReceived b) s = .next
        { s with iface := Interface.arbitrate { s.iface with rx := some (held ++ [b]) } }) ∧
    (exec .frameTimeout s = .next { s with iface := Interface.arbitrate { s.iface with rx := none } }) ∧
    (∀ control tag code payload, control &&& 3#8 = 2#8 ∨ control &&& 3#8 = 3#8 →
      exec (.replyOrNoticeFrameDropped control tag code payload) s = .next
        { s with iface := Interface.arbitrate { s.iface with rx := none } })

/-- The characters of a well-formed request frame, from its sync to its CRC, do what its command does (R166, R167,
R176). -/
def Obligations.CharactersOfAFrameAreItsCommand : Prop :=
  ∀ (control tag code : Byte) (payload : List Byte) (s : State), s.inReset = none → s.iface.rx = none →
    s.iface.arbitrate = s.iface → control &&& 3#8 = 1#8 → payload.length ≤ 240 →
    exec (commandOf tag code payload) s = .next (receiveAll (frameBytes control tag code payload) s)

/-- The bytes after a sync up to the one at which the frame is discarded: no frame kind in the control byte, a length
above 240, or a CRC that does not match (R166). -/
def DiscardedFrame (bytes : List Byte) : Prop :=
  (∃ c, bytes = [c] ∧ c &&& 3#8 = 0#8) ∨
  (∃ c t k len, bytes = [c, t, k, len] ∧ c &&& 3#8 ≠ 0#8 ∧ 240 < len.toNat) ∨
  (∃ c t k len payload crc, bytes = [c, t, k, len] ++ payload ++ crc ∧ c &&& 3#8 ≠ 0#8 ∧ len.toNat ≤ 240 ∧
    payload.length = len.toNat ∧ crc.length = 2 ∧ crc ≠ crcBytes ([c, t, k, len] ++ payload))

/-- The bytes after a discarded frame's sync are received afresh by a receive side that is HUNTING, one after another,
and a request found among them is taken, with its reply begun on an idle line, before the next byte is read (R166,
R168, R170). -/
def Obligations.DiscardedBytesAreReadAfresh : Prop :=
  ∀ (bytes : List Byte) (s : State), s.inReset = none → DiscardedFrame bytes →
    exec (.frameDiscarded bytes) s = .next
      (bytes.foldl State.receive { s with iface := { s.iface with rx := none } }).arbitrate

/-- A frame sent leaves the line to the next: the oldest LINE-BUSY, else the oldest reply, else the oldest notice,
which takes the lost mark with it; a reply sent frees the first place of the buffer (R167, R170, R171). -/
def Obligations.AFrameSentGivesWayToTheNext : Prop :=
  ∀ (railMv : Nat) (s : State) (x : Sending) (free : Interface), s.inReset = none → s.iface.lineOut = some x →
    ¬ (s.iface.resetPending = true ∧ ∃ r, x.frame = .reply r ∧ r.request = 0x02#8 ∧ r.code = .done) →
    free = { s.iface with
              lineOut := none,
              buffer := match x.frame with
                | .reply _ => s.iface.buffer.tail
                | _ => s.iface.buffer } →
    (∀ b bs, s.iface.busy = b :: bs →
      exec (.frameTransmitted railMv) s = .next
        { s with iface := { free with busy := bs, lineOut := some ⟨.busyReply b, s.iface.lost⟩, lost := false } }) ∧
    (∀ r rs, s.iface.busy = [] → s.iface.replies = r :: rs →
      exec (.frameTransmitted railMv) s = .next
        { s with iface := { free with replies := rs, lineOut := some ⟨.reply r, s.iface.lost⟩, lost := false } }) ∧
    (∀ n ns, s.iface.busy = [] → s.iface.replies = [] → s.iface.notices = n :: ns →
      exec (.frameTransmitted railMv) s = .next
        { s with iface := { free with notices := ns, lineOut := some ⟨.notice n, s.iface.lost⟩, lost := false } }) ∧
    (s.iface.busy = [] → s.iface.replies = [] → s.iface.notices = [] →
      exec (.frameTransmitted railMv) s = .next { s with iface := free })

/-! ## Resets -/

/-- The end of the RESET reply resets the part: the setup of every leg, the roster, the calibration tables and the
activation parameters are kept, ACTIVE entries become EXPECTED without link or last heard, and READY names the
cause (R74, R149, R173, R174, R175). -/
def Obligations.ARequestedResetKeepsTheHostsTables : Prop :=
  ∀ (railMv : Nat) (s : State) (x : Sending) (r : Reply), s.inReset = none → s.iface.lineOut = some x →
    x.frame = .reply r → r.request = 0x02#8 → r.code = .done → s.iface.resetPending = true →
    exec (.frameTransmitted railMv) s = .next
      { State.blocks with
        roster := s.roster.map fun o => o.map fun e =>
          { e with state := if e.state = .active then .expected else e.state, link := none, lastHeard := none },
        legs := s.legs.map fun x => { Leg.reset with setup := x.setup, derived := x.derived },
        meter := { Meter.reset with tables := s.meter.tables },
        params := s.params,
        rail := if 3000 ≤ railMv then Rail.reset else { state := .sag, latch := false, sagSeen := true },
        iface := { Interface.reset with cause := .request, lineOut := some ⟨.notice (.ready .request), false⟩ },
        pending := s.pending }

/-- The causes that hold the part in reset: every block at its reset value, the new cause with its condition, and a
condition of an earlier cause still in force (R145, R174). -/
def Obligations.PinAndSupplyHoldThePartInReset : Prop :=
  ∀ s : State,
    (s.inReset = none →
      exec .resetPinAsserted s = .next
        { State.blocks with
          inReset := some { cause := .pin, pinHeld := true, railWait := false }, pending := s.pending } ∧
      exec .powerApplied s = .next
        { State.blocks with
          inReset := some { cause := .power, pinHeld := false, railWait := true }, pending := s.pending } ∧
      exec .brownout s = .next
        { State.blocks with
          inReset := some { cause := .brownout, pinHeld := false, railWait := true }, pending := s.pending }) ∧
    (∀ h, s.inReset = some h →
      exec .resetPinAsserted s = .next
        { State.blocks with inReset := some { h with cause := .pin, pinHeld := true }, pending := s.pending } ∧
      exec .powerApplied s = .next
        { State.blocks with inReset := some { h with cause := .power, railWait := true }, pending := s.pending } ∧
      exec .brownout s = .next
        { State.blocks with inReset := some { h with cause := .brownout, railWait := true }, pending := s.pending })

/-- LEAVE_RESET: once the pin is released and the rail is above 3.10 V, as the causes ask, the part leaves reset with
every block at its reset value, the cause recorded and READY in transmission; until then it stays (R144, R145, R174,
R175). -/
def Obligations.ThePartLeavesReset : Prop :=
  ∀ (pinReleased : Bool) (railMv : Nat) (s : State) (h : HeldReset), s.inReset = some h →
    ((h.pinHeld = true → pinReleased = true) → (h.railWait = true → 3100 < railMv) →
      exec (.leaveReset pinReleased railMv) s = .next
        { State.blocks with
          rail := if h.cause = .power ∨ h.cause = .brownout ∨ 3000 ≤ railMv then Rail.reset
            else { state := .sag, latch := false, sagSeen := true },
          iface := { Interface.reset with cause := h.cause, lineOut := some ⟨.notice (.ready h.cause), false⟩ },
          pending := s.pending }) ∧
    (h.pinHeld = true → pinReleased = false →
      exec (.leaveReset pinReleased railMv) s = .next
        { s with inReset := some { h with railWait := h.railWait && decide (railMv ≤ 3100) } }) ∧
    (h.railWait = true → railMv ≤ 3100 →
      exec (.leaveReset pinReleased railMv) s = .next
        { s with inReset := some { h with pinHeld := h.pinHeld && !pinReleased } })

/-! ## The cycle clock -/

/-- The entries that leave a leg's directive queue at the start of its next cycle: up to 8 from its head (R52). -/
def leaving (x : Leg) : List QueueEntry := x.queue.take 8

/-- The record an entry was queued for, while it holds the entry's identity (R53, R97). -/
def queuedFor (x : Leg) (q : QueueEntry) : Option DropRecord :=
  (q.ident.bind fun i => x.record i.drop).filter fun r => decide (q.ident = some r.ident)

/-- The directive an entry is sent as: its E and launch step are its record's at that moment (R8, R9, R10). -/
def sentAs (x : Leg) (q : QueueEntry) : Directive :=
  match queuedFor x q, q.dir with
  | some r, .enrol tag d _ _ => .enrol tag d r.e r.launch
  | some r, .offset d _ => .offset d r.e
  | some r, .launch d _ => .launch d r.launch
  | _, dir => dir

/-- The entry placed at the tail as an entry with a follow-on set leaves: an Offset, else a Launch, else a Silence, with
what remains of the set (R51). -/
def followedBy (x : Leg) (q : QueueEntry) : Option QueueEntry :=
  (queuedFor x q).bind fun r =>
    let entry (dir : Directive) (follow : FollowOn) : Option QueueEntry :=
      some { dir := dir, ident := some r.ident, follow := follow }
    match q.follow with
    | ⟨true, launch, silence⟩ => entry (.offset r.ident.drop r.e) ⟨false, launch, silence⟩
    | ⟨false, true, silence⟩ => entry (.launch r.ident.drop r.launch) ⟨false, false, silence⟩
    | ⟨false, false, true⟩ => entry (.silence r.ident.drop) ⟨false, false, false⟩
    | ⟨false, false, false⟩ => none

/-- The kinds of directive whose departure is recorded (R53). -/
def isEnrol : Directive → Bool
  | .enrol .. => true
  | _ => false
def isOffset : Directive → Bool
  | .offset .. => true
  | _ => false
def isLaunch : Directive → Bool
  | .launch .. => true
  | _ => false
def isSilence : Directive → Bool
  | .silence _ => true
  | _ => false
def isResume : Directive → Bool
  | .resume _ => true
  | _ => false

/-- A directive of a kind leaves for an identity. -/
def leavesFor (x : Leg) (i : Identity) (kind : Directive → Bool) : Bool :=
  (leaving x).any fun q => decide (q.ident = some i) && kind q.dir

/-- A cycle field of a record is held within 2^30 cycles of the count (R2). -/
def heldWithin (n : Cycle) (f : Option Cycle) : Option Cycle :=
  f.map fun c => if 2 ^ 30 < (n - c).toInt then n - 0x40000000#32 else c

/-- An offset or launch field at the start of cycle `n`: absent when it holds a cycle three or more back (R30, R103). -/
def startsAs (n : Cycle) : InFlight → InFlight
  | .cycle c => if 3 ≤ (n - c).toInt then .absent else .cycle c
  | f => f

/-- A record after the departures at the start of cycle `n` (R2, R30, R53, R103). -/
def departedRecord (x : Leg) (n : Cycle) (r : DropRecord) : DropRecord :=
  let leaves := leavesFor x r.ident
  { r with
    enrolTx := if leaves isEnrol then some n else heldWithin n r.enrolTx,
    echoDue := if leaves isEnrol then some (n + 1#32) else heldWithin n r.echoDue,
    offsetField :=
      if leaves isOffset ∨ leaves isEnrol ∧ r.offsetField = .pending then .cycle n else startsAs n r.offsetField,
    launchField :=
      if leaves isLaunch ∨ leaves isEnrol ∧ r.launchField = .pending then .cycle n else startsAs n r.launchField,
    silenceTx := if leaves isSilence then some n else heldWithin n r.silenceTx,
    resumeTx := if leaves isResume then some n else heldWithin n r.resumeTx,
    lastSample := heldWithin n r.lastSample }

/-- An isolation run after those departures: the Silence of the turn that waits for it begins the wait (R161). -/
def departedRun (x : Leg) (n : Cycle) (run : IsolationRun) : IsolationRun :=
  if run.phase = .silenceQueued ∧
      ((leaving x).any fun q => isSilence q.dir && (queuedFor x q).isSome && decide (q.ident = run.list[run.pos]?)) = true
  then { run with phase := .wait, silence := some n } else run

/-- A hold as calendar `n` is built: expired when all its hold cycles are built, and one more of them otherwise (R157,
R158). -/
def heldAt (n : Cycle) (hold : Option Hold) : Option Hold :=
  hold.bind fun h =>
    if h.length ≤ h.built then none else some { h with built := h.built + 1, first := some (h.first.getD n) }

/-- A leg as calendar `n` is built on it, after the departures. -/
def atBuild (x : Leg) (n : Cycle) : Leg :=
  { x with
    count := n, queue := x.queue.drop 8 ++ (leaving x).filterMap (followedBy x), hold := heldAt n x.hold,
    run := x.run.map (departedRun x n), drops := x.drops.map fun o => o.map (departedRecord x n) }

/-- Every record of a leg stands at its own drop number. -/
def InPlace (x : Leg) : Prop := ∀ d r, x.record d = some r → r.ident.drop = d

/-- A leg begins cycle `n`, from `x` to `y`: what leaves its directive queue is sent, with what it leaves behind in the
queue, the records and the isolation run; the build may move a record's echo sequence, due cycle, sample cycle and
measurements, and nothing else of it (R8, R51, R52, R53, R161). -/
def Departs (x y : Leg) (n : Cycle) : Prop :=
  (∃ down, y.downstream = some down ∧ down.directives = (leaving x).map (sentAs x)) ∧
  y.queue = x.queue.drop 8 ++ (leaving x).filterMap (followedBy x) ∧
  (InPlace x →
    y.run = x.run.map (departedRun x n) ∧
    (∀ d, x.record d = none → y.record d = none) ∧
    ∀ d r, x.record d = some r → ∃ r', y.record d = some r' ∧
      r' = { departedRecord x n r with
              echoSeq := r'.echoSeq, echoDue := r'.echoDue, lastSample := r'.lastSample, measures := r'.measures } ∧
      (leavesFor x r.ident isEnrol = true → r'.echoDue = some (n + 1#32)))

/-- A candidate entry expires as the cycles of `t` begin: its leg is started, and it has been silent for Q cycles
(R89). -/
def expiresIn (s t : State) (c : Candidate) : Bool :=
  decide ((t.leg c.leg).state ≠ .stopped) &&
    decide ((s.params.timeout : Int) ≤ ((t.leg c.leg).count - c.lastHeard).toInt)

/-- A leg whose start takes effect at the coming boundary (R151). -/
def starts (x : Leg) : Bool :=
  decide (x.ahead = false ∧ x.state = .stopped ∧ x.finalPending = false ∧ x.startPending = true)

/-- The notices of a hold as calendar `n` is built on leg `l`: HOLD-ENDED (EXPIRED) when all its hold cycles are built,
and HOLD-BEGUN for the first of them (R157, R158). -/
def holdNotices (l : LegId) (n : Cycle) : Option Hold → List Notice
  | none => []
  | some h =>
    if h.length ≤ h.built then [.holdEnded l .expired h.built n]
    else if h.first = none then [.holdBegun l n h.length] else []

/-- The notices of leg `l` as it begins its cycle at the boundary: those of its hold, and LEG-STATE when a start takes
effect (R151, R157, R158). -/
def legNotices (s : State) (l : LegId) : List Notice :=
  let x := s.leg l
  if x.ahead = true then []
  else if x.state ≠ .stopped then holdNotices l (x.count + 1#32) x.hold
  else if starts x then
    holdNotices l 0#32 x.hold ++ [.legState l (if s.bias.state = .ready then .running else .blind) 0#32]
  else []

/-- The bias enters READY at the coming boundary, which makes its settle count 120 (R141). -/
def entersReady (s : State) : Bool :=
  decide (s.bias.ahead = false ∧ s.bias.state = .settling ∧ 120 ≤ s.bias.settle + 1)

/-- The bias has recovered at the coming boundary, which makes its recovery count 40 (R143). -/
def recovers (s : State) : Bool :=
  decide (s.bias.ahead = false ∧ s.bias.state = .tripped ∧ s.rail.state = .normal ∧ s.rail.sagSeen = false ∧
    40 ≤ s.bias.recovery + 1)

/-- The notices of the bias at a boundary that leads from `s` to `t`: BIAS-STATE and, on entry to READY, LEG-STATE of
every leg that was BLIND or whose start has taken effect there, in leg order (R141, R143, R147). -/
def biasNotices (s t : State) : List Notice :=
  if entersReady s then
    .biasState .ready .settling .settled ::
      (Quad.all.filter fun l => decide ((s.leg l).state = .blind) || starts (s.leg l)).map fun l =>
        .legState l .running (t.leg l).count
  else if recovers s then [.biasState .settling .tripped .recovered]
  else []

/-- The notices of a boundary that leads from `s` to `t`, in the order of log 3 and log 12: the legs' in leg order, the
lapse of candidates in list order, and the bias's. -/
def boundaryNotices (s t : State) : List Notice :=
  Quad.all.flatMap (legNotices s)
    ++ (s.candidates.filter (expiresIn s t)).map (fun c => .candidateLapsed c.tag c.leg c.reason c.lastHeard)
    ++ biasNotices s t

/-- The boundary of the cycle clock, leg by leg: a started leg begins its next cycle, with the calendar built for it,
the content its transmitter sends, the departures of its directive queue and what they record and leave behind; a
stopping leg sends its final cycle and a leg with a start pending begins cycle 0; another sends nothing. Candidates
silent for Q cycles leave the list in its order, of whatever leg they are. The notices placed are, in this order:
leg by leg HOLD-ENDED or HOLD-BEGUN and the LEG-STATE of a start taking effect, CANDIDATE-LAPSED, and the BIAS-STATE and
LEG-STATE notices of the bias. The tables of the host and the input buffer stand (R1, R5, R8, R34, R51, R52, R53, R89,
R141, R143, R147, R151, R153, R157, R161). -/
def Obligations.EveryLegBeginsItsCycle : Prop :=
  ∀ s : State, s.inReset = none →
    ∃ t, exec .cycleBoundary s = .next t ∧
      t.boundaries = s.boundaries + 1 ∧ t.roster = s.roster ∧ t.params = s.params ∧ t.inReset = none ∧
      t.rail = { s.rail with sagSeen := decide (s.rail.state = .sag) } ∧ t.meter.tables = s.meter.tables ∧
      t.iface.buffer = s.iface.buffer ∧ t.iface.rx = s.iface.rx ∧
      t.candidates = s.candidates.filter (fun c => !expiresIn s t c) ∧
      t.iface = Interface.arbitrate ((boundaryNotices s t).foldl Interface.place s.iface) ∧
      ∀ l, (t.leg l).setup = (s.leg l).setup ∧ (t.leg l).derived = (s.leg l).derived ∧ (t.leg l).ahead = false ∧
        ((s.leg l).ahead = true → (t.leg l).count = (s.leg l).count ∧ (t.leg l).calendar = (s.leg l).calendar) ∧
        ((s.leg l).ahead = false →
          ((s.leg l).state ≠ .stopped ∨ (s.leg l).finalPending = false ∧ (s.leg l).startPending = true →
            (t.leg l).count = (if (s.leg l).state = .stopped then 0#32 else (s.leg l).count + 1#32) ∧
            (t.leg l).state =
              (if (s.leg l).state = .running ∨ s.bias.state = .ready ∧ (s.leg l).state = .stopped ∨
                  entersReady s = true then .running else .blind) ∧
            (∃ c d, (t.leg l).calendar = some c ∧ (t.leg l).downstream = some d ∧
              c.cycle = (t.leg l).count ∧ c.marker = 31250 * (s.boundaries + 1) ∧ c.closed = false ∧
              d.cycle = (t.leg l).count ∧ d.grants = c.grantList ∧
              d.muster = (if c.window.isSome then some (s.leg l).derived.am else none) ∧
              d.directives.length =
                (if (s.leg l).state = .stopped then 0 else min 8 (s.leg l).queue.length)) ∧
            ((s.leg l).state ≠ .stopped → Departs (s.leg l) (t.leg l) ((s.leg l).count + 1#32))) ∧
          ((s.leg l).state = .stopped → (s.leg l).finalPending = false → (s.leg l).startPending = true →
            (t.leg l).startPending = false ∧ (t.leg l).queue = [] ∧ (t.leg l).allocCount = 0#32) ∧
          ((s.leg l).state = .stopped → (s.leg l).finalPending = true →
            t.leg l =
              { s.leg l with
                count := (s.leg l).count + 1#32, finalPending := false,
                downstream := some
                  { cycle := (s.leg l).count + 1#32, grants := [], muster := none,
                    directives := ((s.leg l).queue.take 8).map fun q => q.dir },
                queue := (s.leg l).queue.drop 8 }) ∧
          ((s.leg l).state = .stopped → (s.leg l).finalPending = false → (s.leg l).startPending = false →
            t.leg l = { s.leg l with downstream := none }))

/-- What a leg's want list becomes as offsets of the ranges `lost` become invalid: those that a queued request names and
that are not on it join it at the tail, waiting (R127). -/
def wantedAs (lost : List RangeId) (queue : List SampleRequest) (wants : List Want) : List Want :=
  lost.foldl (fun ws k =>
    if (∃ q ∈ queue, q.range = k) ∧ ∀ w ∈ ws, w.range ≠ k then ws ++ [{ range := k, scheduled := false }] else ws) wants

/-- The want list of leg `l` once the sample requests of its calendar are placed: the ranges that they name, whose
offsets are invalid and that are not on it, join it at the tail, waiting (R127). -/
def wantedBy (s : State) (l : LegId) (placed : List SampleRequest) : List Want :=
  wantedAs ((placed.map SampleRequest.range).filter fun k => !(s.offset l k).valid) placed (s.meter.wants.get l)

/-- A hold makes hold cycles, with no window, no echo and no service grant, until all are built, and HOLD-BEGUN is
placed with the first of them; it expires with HOLD-ENDED as the calendar after the last is built, and the leg begins
that cycle with its departures, its sample requests placed and their wants marked (R46, R127, R156, R157, R158). -/
def Obligations.AHoldMakesHoldCyclesAndExpires : Prop :=
  ∀ (l : LegId) (h : Hold) (s : State), s.inReset = none → (s.leg l).ahead = false → (s.leg l).state ≠ .stopped →
    (s.leg l).hold = some h →
    (h.built < h.length →
      (∃ t c d, exec .cycleBoundary s = .next t ∧ (t.leg l).calendar = some c ∧ (t.leg l).downstream = some d ∧
        (t.leg l).hold = some { h with built := h.built + 1, first := some (h.first.getD ((s.leg l).count + 1#32)) } ∧
        c.hold = true ∧ c.window = none ∧ c.echoes = [] ∧ c.services = [] ∧ d.grants = [] ∧ d.muster = none ∧
        (h.first = none → legNotices s l = [.holdBegun l ((s.leg l).count + 1#32) h.length]) ∧
        (h.first ≠ none → legNotices s l = []) ∧
        t.iface = Interface.arbitrate ((boundaryNotices s t).foldl Interface.place s.iface)) ∧
      exec (.holdExpiry l) s = .next { s with iface := s.iface.arbitrate }) ∧
    (h.length ≤ h.built →
      ∃ t c, exec (.holdExpiry l) s = .next t ∧ (t.leg l).hold = none ∧ (t.leg l).ahead = true ∧
        (t.leg l).state = (s.leg l).state ∧
        (t.leg l).count = (s.leg l).count + 1#32 ∧ (t.leg l).calendar = some c ∧ c.hold = false ∧
        c.cycle = (s.leg l).count + 1#32 ∧ c.marker = 31250 * (s.boundaries + 1) ∧
        Departs (s.leg l) (t.leg l) ((s.leg l).count + 1#32) ∧
        t.iface = Interface.arbitrate
          (s.iface.place (.holdEnded l .expired h.built ((s.leg l).count + 1#32))) ∧
        (∃ placed, t.meter =
          { s.meter with
            queues := s.meter.queues.set l (s.meter.queues.get l ++ placed),
            wants := s.meter.wants.set l (wantedBy s l placed) }) ∧
        (∀ k, k ≠ l → t.leg k = s.leg k) ∧ t.boundaries = s.boundaries ∧ t.bias = s.bias ∧ t.rail = s.rail ∧
        t.roster = s.roster ∧ t.params = s.params ∧ t.candidates = s.candidates)

/-- A muster is opened at the build of calendar `n` of leg `x` (R36). -/
def musterOpens (x : Leg) (n : Cycle) (held : Bool) : Bool :=
  decide (n.toNat % x.setup.interval = 0 ∧ n.toNat ≤ 2 ^ 32 - x.setup.interval ∧ x.state = .running ∧
    x.setup.musterOn = true ∧ held = false ∧ x.run = none ∧ x.receiver.latch = false)

/-- The drop's Resume leaves at the start of the cycle, or stands in the queue still (R40, R43). -/
def ResumeOnItsWay (x : Leg) (d : Nat) : Prop := ∃ q ∈ x.queue, q.dir = .resume d

/-- The record `r` of drop `d`, as it stands at the build, is an echo candidate of calendar `n`; `x` is the leg before
the departures (R40). -/
def EchoCandidate (x : Leg) (n : Cycle) (held : Bool) (d : Nat) (r : DropRecord) : Prop :=
  x.state = .running ∧ held = false ∧ (r.state = .enrolling ∨ r.state = .levelling ∨ r.state = .soak) ∧
  r.isolated = false ∧ (∃ c, r.echoDue = some c ∧ 0 ≤ (n - c).toInt) ∧
  (∀ q ∈ x.queue.drop 8, ∀ tag e launch, q.dir ≠ .enrol tag d e launch) ∧ ¬ ResumeOnItsWay x d

/-- The class of a record under activation (R41). -/
def echoClass : DropState → Nat
  | .enrolling => 0
  | .levelling => 1
  | _ => 2

/-- One echo candidate ranks before another: by class, then by earlier due cycle, then by lower drop number (R41). -/
def Ranks (a b : Nat × DropRecord) : Prop :=
  echoClass a.2.state < echoClass b.2.state ∨
  echoClass a.2.state = echoClass b.2.state ∧ ∃ x y, a.2.echoDue = some x ∧ b.2.echoDue = some y ∧
    ((x - y).toInt < 0 ∨ x = y ∧ a.1 < b.1)

/-- The record `r` of drop `d` is a service candidate (R43). -/
def ServiceCandidate (x : Leg) (held : Bool) (d : Nat) (r : DropRecord) : Prop :=
  held = false ∧ r.state = .inService ∧ r.isolated = false ∧ 8 ≤ r.share ∧ ¬ ResumeOnItsWay x d

/-- Calendar `c` is the one built for cycle `n` of leg `x` at the boundary of instant `marker` (R21, R34 to R45): its
spill and window, `slots` echo grants to the candidates `echoes` in rank order, and the service grants to the
candidates `served` in ascending drop number, at their shares or at shares scaled to the time that is left, as far as
they fit. -/
def BuiltFor (x : Leg) (n : Cycle) (marker : Nat) (held : Bool) (c : Calendar) : Prop :=
  let y := atBuild x n
  let spills := 31186 < x.derived.w
  let open' := musterOpens y n held
  let start := c.spill.getD 0 + c.window.getD 0
  let limit := if c.darkTail then 31186 else 31250
  c.cycle = n ∧ c.marker = marker ∧ c.hold = held ∧ c.closed = false ∧
  c.spill = (match x.calendar with
    | some p => if p.window.isSome ∧ spills then some (x.derived.w - 31250) else none
    | none => none) ∧
  c.window = (if open' then some (if spills then 31250 else x.derived.w) else none) ∧
  (c.darkTail = false ↔ open' = true ∧ spills) ∧
  ∃ (echoes served : List (Nat × DropRecord)) (slots : Nat) (available : Int) (total : Nat) (share : Nat → Nat),
    echoes.Pairwise Ranks ∧ (∀ d r, (d, r) ∈ echoes ↔ y.record d = some r ∧ EchoCandidate x n held d r) ∧
    slots = min x.setup.maxEchoes (min echoes.length ((limit - start) / 112)) ∧
    c.echoes = (echoes.take slots).mapIdx (fun k p => ⟨p.1, start + 112 * k, p.2.echoSeq⟩) ∧
    served.Pairwise (fun a b => a.1 < b.1) ∧
    (∀ d r, (d, r) ∈ served ↔ y.record d = some r ∧ ServiceCandidate x held d r) ∧
    available = (limit : Int) - start - 112 * slots - 56 * served.length ∧
    total = (served.map fun p => p.2.share).sum ∧
    c.scaled = decide (served ≠ [] ∧ available < total) ∧
    (∀ r, share r = if (total : Int) ≤ available then r else max 8 (r * available.toNat / (total * 8) * 8)) ∧
    ∃ (placed : Nat) (at' : Nat → Nat),
      (∀ k, at' k = start + 112 * slots + ((served.take k).map fun p => share p.2.share + 56).sum) ∧
      c.services = (served.take placed).mapIdx (fun k p => ⟨p.1, at' k, share p.2.share⟩) ∧
      placed ≤ served.length ∧ (∀ k, k < placed → at' (k + 1) ≤ limit) ∧
      (placed < served.length → limit < at' (placed + 1))

/-- The sample requests of a calendar's bursts, in ascending position: of every echo granted to a record in ENROLLING or
LEVELLING, and of every service grant to a record with no service sample in the last 4,000 cycles (R46). -/
def requestsOf (y : Leg) (c : Calendar) : List SampleRequest :=
  let request (r : DropRecord) (kind : BurstKind) (position : Nat) : SampleRequest :=
    { ident := r.ident, cycle := c.cycle, kind := kind, range := r.hint,
      start := c.marker + y.derived.omega + position + 40 }
  (c.echoes.filterMap fun g =>
      (y.record g.drop).bind fun r => if r.state = .soak then none else some (request r .echo g.position))
  ++ c.services.filterMap fun g =>
      (y.record g.drop).bind fun r =>
        if ∃ last, r.lastSample = some last ∧ (c.cycle - last).toInt < 4000 then none
        else some (request r .service g.position)

/-- The measurement entry of a sample request: refused by a full queue it is "unmeasured" at once (R101, R130). -/
def measureOf (taken : List SampleRequest) (q : SampleRequest) : Measure :=
  { cycle := q.cycle, kind := q.kind, verdict := none, outcome := if q ∈ taken then none else some .unmeasured }

/-- What the build of calendar `c` hands on, to leg `z` and its sample queue, from leg `y` as it stood at the build
(R37, R42, R46, R47, R56, R101, R130). -/
def HandsOn (y z : Leg) (c : Calendar) (interval : Nat) (old queue : List SampleRequest) : Prop :=
  let taken := (requestsOf y c).take (16 - old.length)
  let measured (i : Identity) : List Measure :=
    ((requestsOf y c).filter fun q => decide (q.ident = i)).map (measureOf taken)
  queue = old ++ taken ∧
  z.musterCounter = (if c.window.isSome then y.musterCounter + 1#32 else y.musterCounter) ∧
  z.lastMuster = (if c.window.isSome then some c.cycle else y.lastMuster) ∧
  z.receiver.inHand = y.receiver.inHand ++ [c] ∧
  (c.window.isSome = true →
    z.receiver.scan = some { cycle := c.cycle, marker := c.marker, hunt := y.derived.omega, found := [] }) ∧
  (c.window = none → z.receiver.scan = y.receiver.scan) ∧
  z.receiver.expectations = y.receiver.expectations ++ c.grantList.filterMap (fun g =>
    (y.record g.drop).map fun r =>
      { ident := r.ident, kind := g.kind, cycle := c.cycle, position := g.position, length := g.length,
        sequence := g.sequence, arrives := c.marker + y.derived.omega + g.position }) ∧
  (∀ d r, y.record d = some r → (∀ g ∈ c.grantList, g.drop ≠ d) → z.record d = some r) ∧
  (∀ g ∈ c.echoes, ∃ r, y.record g.drop = some r ∧ z.record g.drop = some
    { r with echoSeq := r.echoSeq + 1#8,
             echoDue := some (c.cycle + if r.state = .soak then BitVec.ofNat 32 interval else 1#32),
             measures := r.measures ++ measured r.ident }) ∧
  (∀ g ∈ c.services, ∃ r, y.record g.drop = some r ∧ z.record g.drop = some
    { r with lastSample := if measured r.ident = [] then r.lastSample else some c.cycle,
             measures := r.measures ++ measured r.ident })

/-- A command that builds a calendar of leg `l`, with the leg it is built on and its cycle: a boundary for a started
leg and for one with a start pending, and the expiry of its hold (R34, R151, R158). -/
def Builds (s : State) (l : LegId) (command : Instr) (x : Leg) (n : Cycle) : Prop :=
  (s.leg l).ahead = false ∧
  (command = .cycleBoundary ∧ (s.leg l).state ≠ .stopped ∧ x = s.leg l ∧ n = (s.leg l).count + 1#32 ∨
   command = .holdExpiry l ∧ (s.leg l).state ≠ .stopped ∧ x = s.leg l ∧ n = (s.leg l).count + 1#32 ∧
     (∃ h, (s.leg l).hold = some h ∧ h.length ≤ h.built) ∨
   command = .cycleBoundary ∧ (s.leg l).state = .stopped ∧ (s.leg l).finalPending = false ∧
     (s.leg l).startPending = true ∧ n = 0#32 ∧
     x = { s.leg l with
            state := if s.bias.state = .ready then .running else .blind, startPending := false, count := 0#32,
            musterCounter := 0#32, lastMuster := none, allocCount := 0#32, queue := [] })

/-- Every calendar fits its cycle: its bursts stand in ascending order with their guards between the window and the
placement end, no drop has two grants, there are at most Emax echoes, each for a record that is not in service, and
every service grant is for a record in service with at most its share, in whole multiples of 8 when the shares are. It
is the calendar of the rules: a muster is opened exactly under the conditions of R36 and counted, the echo slots go to
the candidates in rank order with sequence and due cycle moved, the service candidates are placed with their shares or
scaled shares as far as they fit, and the sample requests are placed (R20, R21, R34 to R47). -/
def Obligations.TheCalendarFitsItsCycle : Prop :=
  ∀ (l : LegId) (command : Instr) (s : State) (x : Leg) (n : Cycle), s.inReset = none → Builds s l command x n →
    ∃ t c, exec command s = .next t ∧ (t.leg l).calendar = some c ∧ c.Fits ∧
      (c.grantList.map GrantEntry.drop).Nodup ∧ c.echoes.length ≤ (s.leg l).setup.maxEchoes ∧
      (∀ g ∈ c.echoes, ∃ r, t.record l g.drop = some r ∧ r.isolated = false ∧
        (r.state = .enrolling ∨ r.state = .levelling ∨ r.state = .soak)) ∧
      (∀ g ∈ c.services, ∃ r, t.record l g.drop = some r ∧ r.isolated = false ∧ r.state = .inService ∧
        8 ≤ g.share ∧ g.share ≤ r.share ∧ (8 ∣ r.share → 8 ∣ g.share)) ∧
      (c.window.isSome = true → x.state = .running ∧ x.setup.musterOn = true ∧ x.receiver.latch = false ∧
        x.run = none ∧ c.hold = false ∧ c.cycle.toNat % x.setup.interval = 0) ∧
      (InPlace x →
        BuiltFor x n (31250 * (s.boundaries + 1)) (heldAt n x.hold).isSome c ∧
        HandsOn (atBuild x n) (t.leg l) c s.params.interval (s.meter.queues.get l) (t.meter.queues.get l))

/-- What expires at the coming boundary: an offset field and a launch field that hold cycle c at the start of cycle
c + 3 and not before (R30, R103); a dark offset that would be 40,000 cycles old, whose range is then wanted when a
queued sample names it (R126, R127); and a candidate that has been silent for Q cycles when the coming cycle of its leg
begins, with CANDIDATE-LAPSED (R89). What is not due stays. -/
def Obligations.WhatIsDueExpires : Prop :=
  (∀ (l : LegId) (d : Nat) (r : DropRecord) (s : State), s.inReset = none → s.record l d = some r →
    (s.leg l).ahead = false →
    ((∃ c, r.offsetField = .cycle c ∧ 3 ≤ ((s.leg l).count + 1#32 - c).toInt) →
      exec (.offsetFieldExpiry l d) s = .next
        { s with
          legs := s.legs.set l
            { s.leg l with drops := (s.leg l).drops.set d (some { r with offsetField := .absent }) },
          iface := s.iface.arbitrate }) ∧
    ((∀ c, r.offsetField = .cycle c → ((s.leg l).count + 1#32 - c).toInt < 3) →
      exec (.offsetFieldExpiry l d) s = .next { s with iface := s.iface.arbitrate }) ∧
    ((∃ c, r.launchField = .cycle c ∧ 3 ≤ ((s.leg l).count + 1#32 - c).toInt) →
      exec (.launchFieldExpiry l d) s = .next
        { s with
          legs := s.legs.set l
            { s.leg l with drops := (s.leg l).drops.set d (some { r with launchField := .absent }) },
          iface := s.iface.arbitrate }) ∧
    ((∀ c, r.launchField = .cycle c → ((s.leg l).count + 1#32 - c).toInt < 3) →
      exec (.launchFieldExpiry l d) s = .next { s with iface := s.iface.arbitrate })) ∧
  (∀ (l : LegId) (k : RangeId) (s : State), s.inReset = none →
    ((s.offset l k).valid = false ∨ (s.offset l k).age + 1 < 40000 →
      exec (.darkOffsetExpiry l k) s = .next { s with iface := s.iface.arbitrate }) ∧
    ((s.offset l k).valid = true → 40000 ≤ (s.offset l k).age + 1 →
      exec (.darkOffsetExpiry l k) s = .next
        { s with
          meter :=
            { s.meter with
              offsets := s.meter.offsets.set l
                ((s.meter.offsets.get l).set k { code := none, valid := false, age := 0 }),
              wants := s.meter.wants.set l
                (if (∃ q ∈ s.meter.queues.get l, q.range = k) ∧ ∀ w ∈ s.meter.wants.get l, w.range ≠ k then
                  s.meter.wants.get l ++ [{ range := k, scheduled := false }]
                else s.meter.wants.get l) },
          iface := s.iface.arbitrate })) ∧
  (∀ (c : Candidate) (s : State), s.inReset = none → s.candidate c.tag = some c → (s.leg c.leg).ahead = false →
    ((s.leg c.leg).state = .stopped ∨ ((s.leg c.leg).count + 1#32 - c.lastHeard).toInt < s.params.timeout →
      exec (.candidateLapsed c.tag) s = .next { s with iface := s.iface.arbitrate }) ∧
    ((s.leg c.leg).state ≠ .stopped → s.params.timeout ≤ ((s.leg c.leg).count + 1#32 - c.lastHeard).toInt →
      exec (.candidateLapsed c.tag) s = .next
        { s with
          candidates := s.candidates.filter (fun e => decide (e.tag ≠ c.tag)),
          iface := Interface.arbitrate
            (s.iface.place (.candidateLapsed c.tag c.leg c.reason c.lastHeard)) }))

/-- The Bias Supply at a boundary: settling takes 120 of them and recovery 40 steady ones; READY wakes the BLIND legs
and makes every dark offset invalid. The boundary's last notices are the bias's: BIAS-STATE and LEG-STATE of each leg
that wakes on entry to READY, BIAS-STATE on entry to SETTLING, none otherwise (R126, R141, R143, R147). -/
def Obligations.TheBoundaryCountsTheBias : Prop :=
  ∀ s : State, s.inReset = none → s.bias.ahead = false →
    ∃ t, exec .cycleBoundary s = .next t ∧
      (s.bias.state = .off ∨ s.bias.state = .ready → t.bias = s.bias) ∧
      (s.bias.state = .settling → s.bias.settle + 1 < 120 →
        t.bias = { s.bias with settle := s.bias.settle + 1 }) ∧
      (s.bias.state = .settling → 120 ≤ s.bias.settle + 1 →
        t.bias = { s.bias with state := .ready, settle := 0, readySince := 31250 * (s.boundaries + 1) } ∧
        (∀ l, (t.leg l).state ≠ .blind) ∧ ∀ l k, (t.offset l k).valid = false) ∧
      (s.bias.state = .tripped → s.rail.state = .normal → s.rail.sagSeen = false → s.bias.recovery + 1 < 40 →
        t.bias = { s.bias with recovery := s.bias.recovery + 1 }) ∧
      (s.bias.state = .tripped → s.rail.state = .normal → s.rail.sagSeen = false → 40 ≤ s.bias.recovery + 1 →
        t.bias = { s.bias with state := .settling, settle := 0, recovery := 0 }) ∧
      (s.bias.state = .tripped → s.rail.state = .sag ∨ s.rail.sagSeen = true →
        t.bias = { s.bias with recovery := 0 }) ∧
      ∃ earlier, t.iface = Interface.arbitrate ((earlier ++ biasNotices s t).foldl Interface.place s.iface) ∧
        ∀ m ∈ earlier, ∀ state previous cause, m ≠ Notice.biasState state previous cause

/-- SETTLE_COMPLETE and RECOVERY_COMPLETE take the count of the coming boundary when it is the last, with their notices,
and change nothing before. The ranges that become invalid are wanted in ascending order (DESIGN CHOICE, log 30)
(R126, R127, R141, R143, R147). -/
def Obligations.SettleAndRecoveryComplete : Prop :=
  ∀ s : State, s.inReset = none → s.bias.ahead = false →
    (s.bias.state = .settling → 120 ≤ s.bias.settle + 1 →
      ∃ t, exec .settleComplete s = .next t ∧
        t.bias = { s.bias with state := .ready, settle := 0, readySince := 31250 * (s.boundaries + 1), ahead := true } ∧
        (∀ l, t.leg l = { s.leg l with state := if (s.leg l).state = .blind then .running else (s.leg l).state }) ∧
        (∀ l k, t.offset l k =
          if (s.offset l k).valid then { code := none, valid := false, age := 0 } else s.offset l k) ∧
        (∀ l, t.meter.wants.get l =
          wantedAs (Quad.all.filter fun k => (s.offset l k).valid) (s.meter.queues.get l) (s.meter.wants.get l)) ∧
        t.iface = Interface.arbitrate
          ((.biasState .ready .settling .settled ::
            (Quad.all.filter fun l => decide ((s.leg l).state = .blind)).map fun l =>
              .legState l .running (s.leg l).count).foldl Interface.place s.iface) ∧
        t.meter.scheduled = s.meter.scheduled ∧ t.meter.calPtr = s.meter.calPtr ∧ t.meter.tiePtr = s.meter.tiePtr ∧
        t.meter.decided = s.meter.decided ∧ t.meter.converter = s.meter.converter ∧ t.meter.queues = s.meter.queues ∧
        t.meter.tables = s.meter.tables ∧ t.rail = s.rail ∧ t.roster = s.roster ∧
        t.candidates = s.candidates ∧ t.params = s.params ∧ t.boundaries = s.boundaries) ∧
    (s.bias.state ≠ .settling ∨ s.bias.settle + 1 < 120 →
      exec .settleComplete s = .next { s with iface := s.iface.arbitrate }) ∧
    (s.bias.state = .tripped → s.rail.state = .normal → s.rail.sagSeen = false → 40 ≤ s.bias.recovery + 1 →
      exec .recoveryComplete s = .next
        { s with
          bias := { s.bias with state := .settling, settle := 0, recovery := 0, ahead := true },
          iface := Interface.arbitrate (s.iface.place (.biasState .settling .tripped .recovered)) }) ∧
    (s.bias.state ≠ .tripped ∨ s.rail.state = .sag ∨ s.rail.sagSeen = true ∨ s.bias.recovery + 1 < 40 →
      exec .recoveryComplete s = .next { s with iface := s.iface.arbitrate })

/-! ## The verdicts of granted bursts -/

/-- A leg whose oldest expectation is settled, with the expectations that are left (R56). -/
def settledLeg (x : Leg) (rest : List Expectation) : Leg :=
  { x with receiver := Receiver.prune { x.receiver with expectations := rest } }

/-- The bytes of an echo burst's content (R179). -/
def echoContent (drop : Nat) (sequence step hi lo : Byte) : List Byte :=
  let body := [BitVec.ofNat 8 drop, sequence, step, hi, lo]
  body ++ crcBytes body

/-- The content of the burst of expectation `x` is good, and what it reports: an echo of the drop number and echo
sequence expected reports its launch step and downstream power, and a service burst whose payload's CRC matches reports
nothing (R59, R60). -/
def GoodBurst (x : Expectation) (content : List Byte) (report : Option (LaunchStep × Int)) : Prop :=
  x.kind = .echo ∧
    (∃ step hi lo tail, content = echoContent x.ident.drop x.sequence step hi lo ++ tail ∧
      report = some (launchOf step, signed16 hi lo)) ∨
  x.kind = .service ∧ report = none ∧
    ∃ payload tail, payload.length = 2 * (x.length - 40) ∧ content = payload ++ crcBytes payload ++ tail

/-- The verdict of a burst that is not good: MISSING without a delimiter, and CORRUPT with bad content after one
(R58 to R61). -/
def BadBurst (x : Expectation) (look : BurstLook) (v : BurstVerdict) : Prop :=
  look = .nothing ∧ v = .missing ∨
  ∃ k p content, look = .delimiter k p content ∧ (∀ report, ¬ GoodBurst x content report) ∧ v = .corrupt

/-- A record once the verdict `v` of grant cycle `n` has come: the slot of its measurement entry is filled, or the
entry, complete with the power outcome that came before, is taken out (R101). -/
def filled (r : DropRecord) (n : Cycle) (v : BurstVerdict) : DropRecord :=
  { r with
    measures :=
      if ((r.measures.find? fun m => decide (m.cycle = n)).bind Measure.outcome).isSome then
        r.measures.filter fun m => decide (m.cycle ≠ n)
      else r.measures.map fun m => if m.cycle = n then { m with verdict := some v } else m }

/-- A verdict of an allocation that has ended is discarded. One to a record that is SILENCED or isolation-silenced, for
presence and content only, and UNJUDGED, when the bias was not READY throughout, fill the slot of the measurement entry
and move nothing else; the expectation is settled (R33, R57, R61, R97, R100, R101). -/
def Obligations.AVerdictOutOfPlaceMovesNothing : Prop :=
  ∀ (l : LegId) (look : BurstLook) (s : State) (x : Expectation) (rest : List Expectation), s.inReset = none →
    (s.leg l).receiver.expectations = x :: rest →
    (s.record l x.ident.drop = none ∨ (∃ r, s.record l x.ident.drop = some r ∧ r.ident ≠ x.ident) →
      exec (.grantedBurstVerdict l look) s = .next
        { s with legs := s.legs.set l (settledLeg (s.leg l) rest), iface := s.iface.arbitrate }) ∧
    (∀ r v, s.record l x.ident.drop = some r → r.ident = x.ident →
      (s.bias.state ≠ .ready ∨ x.arrives + 29 < s.bias.readySince) ∧ v = .unjudged ∨
        s.bias.state = .ready ∧ s.bias.readySince ≤ x.arrives + 29 ∧ (r.isolated = true ∨ r.state = .silenced) ∧
          (BadBurst x look v ∨
            (∃ k p content report, look = .delimiter k p content ∧ GoodBurst x content report) ∧ v = .good) →
      exec (.grantedBurstVerdict l look) s = .next
        { s with
          legs := s.legs.set l
            { settledLeg (s.leg l) rest with drops := (s.leg l).drops.set x.ident.drop (some (filled r x.cycle v)) },
          iface := s.iface.arbitrate })

/-- A power outcome moves the range hint of a record: OVER-RANGE below range 3, or UNDER-RANGE above range 0 (R102). -/
def reRanges (r : DropRecord) (a : LevelAttrs) : Prop :=
  a.overRange = true ∧ r.hint ≠ .q3 ∨ a.underRange = true ∧ r.hint ≠ .q0

/-- The range hint after a power result: one up with OVER-RANGE, one down with UNDER-RANGE, within 0..3 (R102). -/
def hintWith (r : DropRecord) (high low : Bool) : RangeId :=
  if high then r.hint.up else if low then r.hint.down else r.hint

/-- A power result of grant cycle `n` is stale: the launch field is PENDING, or holds that cycle or a later one (R103). -/
def IsStale (r : DropRecord) (n : Cycle) : Prop :=
  r.launchField = .pending ∨ ∃ c, r.launchField = .cycle c ∧ (n - c).toInt ≤ 0

/-- A burst of grant cycle `n` is judged in full: the offset field is absent, or holds an earlier cycle (R27, R31). -/
def JudgedInFull (r : DropRecord) (n : Cycle) : Prop :=
  r.offsetField = .absent ∨ ∃ c, r.offsetField = .cycle c ∧ 0 < (n - c).toInt

/-- E after a correction by `drift`: E less the drift clamped to −8..+8, clamped to [0, Z] (R28). -/
def CorrectsTo (z e : Nat) (drift : Int) (e' : Nat) : Prop :=
  (e' : Int) = max 0 (min (z : Int) ((e : Int) - max (-8) (min 8 drift)))

/-- What the drift of a good burst of grant cycle `n` makes of record `r` and of its leg's directive queue: nothing when
the burst is not judged in full; else last drift is set, and a drift of 3 to 40 bits corrects E, with R = Z − E, the
offset field PENDING and an Offset queued, unless E stays (R27, R28, R31). -/
def Drifted (z : Nat) (queue : List QueueEntry) (n : Cycle) (drift : Int) (r r' : DropRecord)
    (queue' : List QueueEntry) : Prop :=
  ¬ JudgedInFull r n ∧ r' = r ∧ queue' = queue ∨
  JudgedInFull r n ∧ drift.natAbs ≤ 2 ∧ r' = { r with lastDrift := drift } ∧ queue' = queue ∨
  JudgedInFull r n ∧ 2 < drift.natAbs ∧ drift.natAbs ≤ 40 ∧
    ∃ e, CorrectsTo z r.e drift e ∧
      (e = r.e ∧ r' = { r with lastDrift := drift } ∧ queue' = queue ∨
       e ≠ r.e ∧ r' = { r with lastDrift := drift, e := e, r := z - e, offsetField := .pending } ∧
         queue' = enqueue r.ident.drop (.offset r.ident.drop e) (some r.ident) queue)

/-- A good echo makes the soak streak of a record reach S (R110). -/
def goesLive (streakLim : Nat) (kind : BurstKind) (r : DropRecord) : Bool :=
  decide (r.state = .soak ∧ kind = .echo ∧ streakLim ≤ r.streak + 1)

/-- A record once a GOOD verdict is counted: an echo takes ENROLLING to LEVELLING and makes the streak of SOAK longer,
the S-th into service, and a service burst ends the silent run of a record in service; of another pairing nothing is
counted (R100, R105, R106, R109, R110, R111). -/
def afterGood (streakLim : Nat) (kind : BurstKind) (r : DropRecord) : DropRecord :=
  match r.state, kind with
  | .enrolling, .echo => { r with state := .levelling, adjustments := 0, unmeasured := 0, streak := 0, misses := 0 }
  | .soak, .echo =>
    if streakLim ≤ r.streak + 1 then
      { r with state := .inService, streak := r.streak + 1, echoDue := none, silentRun := 0, lastSample := none }
    else { r with streak := r.streak + 1 }
  | .inService, .service => { r with silentRun := 0 }
  | _, _ => r

/-- How verdicts count for a record judged with the bias READY throughout. A bad burst, MISSING or CORRUPT, fills its
slot. In ENROLLING it counts once the Enrol has left; the third queues another Enrol, or ends the record NO-ANSWER after
three attempts. In LEVELLING or SOAK it counts, in SOAK starts the streak again, and the F-th ends the record
SOAK-FAILED. A bad service burst in service makes the silent run longer, and the 64th ends the record LAPSED. A bad
burst of the other kind counts nothing. A good burst within 40 bits, or not judged in full, reports, does its drift work
and then counts by kind and state, in SOAK the S-th with DROP-LIVE; one whose power outcome has come is levelled at
once, or taken in service, and a stale result moves the range hint alone (R27, R28, R31, R59 to R61, R100 to R112). -/
def Obligations.VerdictsCountByTheRecordsState : Prop :=
  ∀ (l : LegId) (look : BurstLook) (s : State) (x : Expectation) (rest : List Expectation) (r : DropRecord)
    (d : Nat) (n : Cycle), s.inReset = none → (s.leg l).receiver.expectations = x :: rest →
    s.record l d = some r → r.ident = x.ident → x.ident.drop = d → x.cycle = n →
    r.isolated = false → r.state ≠ .silenced → s.bias.state = .ready → s.bias.readySince ≤ x.arrives + 29 →
    let outcome := (r.measures.find? fun m => decide (m.cycle = n)).bind Measure.outcome
    let leaves (r' : DropRecord) (queue : List QueueEntry) (i : Interface) : Prop :=
      exec (.grantedBurstVerdict l look) s = .next
        { s with
          legs := s.legs.set l
            { settledLeg (s.leg l) rest with drops := (s.leg l).drops.set d (some r'), queue := queue },
          iface := i.arbitrate }
    let ends (reason : EndReason) (misses : Nat) : Prop :=
      ∀ e, s.rosterAt r.rosterIndex = some e →
        exec (.grantedBurstVerdict l look) s = .next
          { s with
            roster := s.roster.set r.rosterIndex (some { e with state := .expected, link := none }),
            legs := s.legs.set l
              { settledLeg (s.leg l) rest with
                drops := (s.leg l).drops.set d none,
                queue := enqueue d (.release d) (some r.ident) (s.leg l).queue },
            iface := Interface.arbitrate
              (s.iface.place (.dropEnded l d r.tag r.plot r.rosterIndex reason r.state r.attempts misses
                (s.leg l).count)) }
    (∀ v, BadBurst x look v →
      let missed (r' : DropRecord) : Prop := leaves (filled r' n v) (s.leg l).queue s.iface
      (r.state = .inService → x.kind = .service →
        (r.silentRun + 1 < 64 → missed { r with silentRun := r.silentRun + 1 }) ∧
        (64 ≤ r.silentRun + 1 → ends .lapsed r.misses)) ∧
      (r.state = .levelling ∨ r.state = .soak → x.kind = .echo →
        (r.misses + 1 < s.params.missLim →
          missed { r with streak := if r.state = .soak then 0 else r.streak, misses := r.misses + 1 }) ∧
        (s.params.missLim ≤ r.misses + 1 → ends .soakFailed (r.misses + 1))) ∧
      (r.state = .enrolling → x.kind = .echo →
        let counted : Prop := (∀ q ∈ (s.leg l).queue, ∀ tag e launch, q.dir ≠ .enrol tag d e launch) ∧
          ∃ sent, r.enrolTx = some sent ∧ 0 < (n - sent).toInt
        (¬ counted → missed r) ∧
        (counted → r.echoes + 1 < 3 → missed { r with echoes := r.echoes + 1 }) ∧
        (counted → 3 ≤ r.echoes + 1 → 3 ≤ r.attempts → ends .noAnswer r.misses) ∧
        (counted → 3 ≤ r.echoes + 1 → r.attempts < 3 →
          leaves (filled { r with attempts := r.attempts + 1, echoes := 0, echoDue := none } n v)
            (enqueue d (.enrol r.tag d r.e r.launch) (some r.ident) (s.leg l).queue) s.iface)) ∧
      (r.state = .inService ∧ x.kind = .echo ∨ r.state ≠ .inService ∧ x.kind = .service → missed r)) ∧
    (∀ k p content report r0 queue, look = .delimiter k p content → GoodBurst x content report →
      Drifted (s.leg l).derived.z (s.leg l).queue n (driftOf k p) { r with reported := report.or r.reported } r0 queue →
      let r1 := filled (afterGood s.params.streak x.kind r0) n .good
      let i := if goesLive s.params.streak x.kind r then
          s.iface.place (.dropLive l d r.tag r.plot r.rosterIndex r0.r r.lastPower r.launch r.flags (s.leg l).count)
        else s.iface
      let becomes (r' : DropRecord) : Prop := leaves r' queue i
      (outcome = none ∨ r1.state ≠ .levelling ∧ r1.state ≠ .inService → becomes r1) ∧
      (r1.state = .levelling →
        let unmeasured (r2 : DropRecord) : Prop :=
          (r1.unmeasured + 1 < 8 → becomes { r2 with unmeasured := r1.unmeasured + 1 }) ∧
          (8 ≤ r1.unmeasured + 1 →
            becomes
              { r2 with unmeasured := r1.unmeasured + 1, state := .soak, streak := 0,
                        flags := { r1.flags with unknown := true } })
        (outcome = some .unmeasured → unmeasured r1) ∧
        (∀ v a, outcome = some (.result v a) → a.overRange = false ∨ a.underRange = false →
          (IsStale r n → becomes { r1 with hint := hintWith r a.overRange a.underRange }) ∧
          (¬ IsStale r n → reRanges r a → unmeasured { r1 with hint := hintWith r a.overRange a.underRange }) ∧
          (¬ IsStale r n → ¬ reRanges r a →
            let soak (flags : LevelFlags) : DropRecord :=
              { r1 with lastPower := some v, state := .soak, streak := 0, flags := flags }
            let moved (launch : LaunchStep) : Prop :=
              leaves
                { r1 with lastPower := some v, launch := launch, adjustments := r1.adjustments + 1,
                          launchField := .pending }
                (enqueue d (.launch d launch) (some r.ident) queue) i
            (a.strong = false → a.weak = false → becomes (soak r.flags)) ∧
            (a.strong = true →
              (r.launch = .q3 ∨ 3 ≤ r1.adjustments → becomes (soak { r.flags with fault := true })) ∧
              (r1.adjustments < 3 →
                (r.launch = .q0 → moved .q1) ∧ (r.launch = .q1 → moved .q2) ∧ (r.launch = .q2 → moved .q3))) ∧
            (a.strong = false → a.weak = true →
              (r.launch = .q0 ∨ 3 ≤ r1.adjustments → becomes (soak { r.flags with fault := true })) ∧
              (r1.adjustments < 3 →
                (r.launch = .q3 → moved .q2) ∧ (r.launch = .q2 → moved .q1) ∧ (r.launch = .q1 → moved .q0)))))) ∧
      (r1.state = .inService →
        (outcome = some .unmeasured → becomes r1) ∧
        (∀ v a, outcome = some (.result v a) → a.overRange = false ∨ a.underRange = false →
          (reRanges r a → becomes { r1 with hint := hintWith r a.overRange a.underRange }) ∧
          (¬ reRanges r a →
            becomes { r1 with lastPower := some v, flags := { r.flags with drift := a.weak || a.strong } }))))

/-- The drift of a good burst judged in full, an echo or a service burst, whose power outcome has not come, in every
state that takes it: up to 2 bits it is settled; up to 40 it corrects E by at most 8 bits within [0, Z], with R = Z − E,
the offset field PENDING and an Offset queued, unless E stays, and the verdict then counts; beyond, the record ends
DRIFT-FAULT with a Release queued, in ENROLLING, LEVELLING, SOAK and IN-SERVICE alike. A verdict fills its slot of the
measurement entry (R26, R27, R28, R31, R100, R101, R113). -/
def Obligations.DriftIsCorrectedOrEndsTheRecord : Prop :=
  ∀ (l : LegId) (k : Fin 6) (p : Fin 20) (content : List Byte) (report : Option (LaunchStep × Int)) (s : State)
    (x : Expectation) (rest : List Expectation) (r : DropRecord) (d : Nat) (drift : Int) (e : Nat), s.inReset = none →
    (s.leg l).receiver.expectations = x :: rest → GoodBurst x content report →
    s.record l d = some r → r.ident = x.ident → x.ident.drop = d →
    r.state ≠ .silenced → r.isolated = false → JudgedInFull r x.cycle →
    s.bias.state = .ready → s.bias.readySince ≤ x.arrives + 29 →
    drift = 20 * ((k.val : Int) - 3) + p.val → CorrectsTo (s.leg l).derived.z r.e drift e →
    let command := Instr.grantedBurstVerdict l (.delimiter k p content)
    let leg (r' : Option DropRecord) (queue : List QueueEntry) : Leg :=
      { settledLeg (s.leg l) rest with drops := (s.leg l).drops.set d r', queue := queue }
    let leaves (r' : DropRecord) (queue : List QueueEntry) : Prop :=
      let counted : DropRecord :=
        match r.state, x.kind with
        | .enrolling, .echo =>
          { r' with state := .levelling, adjustments := 0, unmeasured := 0, streak := 0, misses := 0 }
        | .soak, .echo => { r' with streak := r.streak + 1 }
        | .inService, .service => { r' with silentRun := 0 }
        | _, _ => r'
      let live : DropRecord := { counted with state := .inService, echoDue := none, silentRun := 0, lastSample := none }
      (r.state ≠ .soak ∨ x.kind = .service ∨ r.streak + 1 < s.params.streak →
        exec command s = .next
          { s with legs := s.legs.set l (leg (some counted) queue), iface := s.iface.arbitrate }) ∧
      (r.state = .soak → x.kind = .echo → s.params.streak ≤ r.streak + 1 →
        exec command s = .next
          { s with
            legs := s.legs.set l (leg (some live) queue),
            iface := Interface.arbitrate
              (s.iface.place (.dropLive l d r.tag r.plot r.rosterIndex r'.r r.lastPower r.launch r.flags
                (s.leg l).count)) })
    (¬ (-40 ≤ drift ∧ drift ≤ 40) →
      ∀ f, s.rosterAt r.rosterIndex = some f →
        exec command s = .next
          { s with
            roster := s.roster.set r.rosterIndex (some { f with state := .expected, link := none }),
            legs := s.legs.set l (leg none (enqueue d (.release d) (some r.ident) (s.leg l).queue)),
            iface := Interface.arbitrate
              (s.iface.place (.dropEnded l d r.tag r.plot r.rosterIndex .driftFault r.state r.attempts r.misses
                (s.leg l).count)) }) ∧
    ((∀ m, r.measures.find? (fun m => decide (m.cycle = x.cycle)) = some m → m.outcome = none) →
      let kept :=
        { r with reported := report.or r.reported, lastDrift := drift,
                 measures := r.measures.map fun m => if m.cycle = x.cycle then { m with verdict := some .good } else m }
      (-2 ≤ drift → drift ≤ 2 → leaves kept (s.leg l).queue) ∧
      (2 < drift ∧ drift ≤ 40 ∨ -40 ≤ drift ∧ drift < -2 →
        (e = r.e → leaves kept (s.leg l).queue) ∧
        (e ≠ r.e →
          leaves { kept with e := e, r := (s.leg l).derived.z - e, offsetField := .pending }
            (enqueue d (.offset d e) (some r.ident) (s.leg l).queue))))

/-! ## Announces -/

/-- Light stands in a position, by lit intervals. -/
def Lit (lit : List (Nat × Nat)) (x : Nat) : Prop := ∃ i ∈ lit, i.1 ≤ x ∧ x < i.1 + i.2

/-- The light history at the end of an arrival interval: bit i is the light of position 31,249 − i (R56, R65). -/
def HistoryIs (lit : List (Nat × Nat)) (history : BitVec 48) : Prop :=
  ∀ i, i < 48 → (history.getLsbD i = true ↔ Lit lit (31249 - i))

/-- ANNOUNCE_DELIMITER_FOUND: a delimiter inside the window that the hunt has not passed is found once, CROWDED by
the light of the 16 ticks before its burst, and asks the converter for a sample; an idle converter with no rival and
a valid offset takes it, an invalid offset is wanted, a busy converter does not take it and then no want is marked,
even with the offset invalid (DEDUCED, log 22); elsewhere nothing is found (R63, R65, R66, R127, R132). GARBLED: the
hunt goes on past a preamble without a delimiter, and an announce with bad content is dropped (R63). The light history
records on every leg, scanning or not, started or STOPPED (R56). -/
def Obligations.AnnouncesAreFoundInTheirWindow : Prop :=
  (∀ (l : LegId) (a : Nat) (p : Fin 20) (light history : BitVec 48) (rivals : List LegId) (lit : List (Nat × Nat))
      (s : State), s.inReset = none →
    let recorded (light : BitVec 48) : State :=
      { s with
        legs := s.legs.set l { s.leg l with receiver := { (s.leg l).receiver with lightHistory := light } },
        iface := s.iface.arbitrate }
    ((s.leg l).receiver.scan = none → exec (.announceDelimiterFound l a p light rivals) s = .next (recorded light)) ∧
    ((∀ c ∈ (s.leg l).receiver.inHand, c.closed = true) → HistoryIs lit history →
      exec (.calendarClose l lit) s = .next (recorded history))) ∧
  ∀ (l : LegId) (a : Nat) (p : Fin 20) (light : BitVec 48) (rivals : List LegId) (s : State) (w : WindowScan)
    (crowded : Bool), s.inReset = none → (s.leg l).receiver.scan = some w →
    (crowded = true ↔ ∃ i, 32 ≤ i ∧ i < 48 ∧ light.getLsbD i = true) →
    let inside : Prop := (s.leg l).derived.omega ≤ a ∧ a < (s.leg l).derived.omega + (s.leg l).derived.w ∧
      w.hunt ≤ a ∧ s.bias.state = .ready
    let scanned (scan : WindowScan) : Receiver := { (s.leg l).receiver with scan := some scan }
    let found (sample : AnnounceSample) : Leg :=
      { s.leg l with
        receiver :=
          { scanned { w with hunt := a + 128, found := w.found ++ [⟨a, p, crowded, sample, false⟩] } with
            lightHistory := light } }
    let range := (s.leg l).setup.announceRange
    let alone : Prop := s.meter.converter = .idle ∧ (∀ e, s.meter.decided = some e → e.instant ≠ w.marker + a) ∧
      rivals = [] ∧ (∀ k q rest, s.meter.queues.get k = q :: rest → q.start ≠ w.marker + a) ∧
      ∀ c ∈ s.meter.scheduled, c.instant ≠ w.marker + a
    (∀ o, inside → alone → s.offset l range = { s.offset l range with code := some o, valid := true } →
      exec (.announceDelimiterFound l a p light rivals) s = .next
        { s with
          meter :=
            { s.meter with
              decided := some { instant := w.marker + a, form := .announce, leg := l },
              converter := .sampling l (.announce a) range (w.marker + a + 8) o },
          legs := s.legs.set l (found .awaited),
          iface := s.iface.arbitrate }) ∧
    (inside → alone → (s.offset l range).valid = false →
      exec (.announceDelimiterFound l a p light rivals) s = .next
        { s with
          meter :=
            { s.meter with
              decided := some { instant := w.marker + a, form := .announce, leg := l },
              wants := s.meter.wants.set l
                (if ∃ v ∈ s.meter.wants.get l, v.range = range then s.meter.wants.get l
                else s.meter.wants.get l ++ [{ range := range, scheduled := false }]) },
          legs := s.legs.set l (found .lost),
          iface := s.iface.arbitrate }) ∧
    (inside → s.meter.converter ≠ .idle →
      exec (.announceDelimiterFound l a p light rivals) s = .next
        { s with legs := s.legs.set l (found .lost), iface := s.iface.arbitrate }) ∧
    (¬ inside →
      exec (.announceDelimiterFound l a p light rivals) s = .next
        { s with
          legs := s.legs.set l { s.leg l with receiver := { (s.leg l).receiver with lightHistory := light } },
          iface := s.iface.arbitrate }) ∧
    (inside →
      exec (.garbled l (.noDelimiter a)) s = .next
        { s with
          legs := s.legs.set l { s.leg l with receiver := scanned { w with hunt := a + 1 } },
          iface := s.iface.arbitrate }) ∧
    (exec (.garbled l (.badContent a)) s = .next
      { s with
        legs := s.legs.set l
          { s.leg l with
            receiver := scanned { w with found := w.found.filter fun f => decide (f.a ≠ a) } },
        iface := s.iface.arbitrate })

/-- The bytes of an announce's content before its CRC (R179). -/
def announceBody (tag : FactoryTag) (holdoff step : Byte) : List Byte := tagBytes tag ++ [holdoff, step]

/-- An attribute set is wanted by a screen: every attribute of the mask is recorded exactly when it is in the match
set (R68). -/
def Screened (mask wanted v : AttrSet) : Prop :=
  (mask.outOfBand = true → v.outOfBand = wanted.outOfBand) ∧ (mask.unsampled = true → v.unsampled = wanted.unsampled) ∧
  (mask.overRange = true → v.overRange = wanted.overRange) ∧
  (mask.underRange = true → v.underRange = wanted.underRange) ∧ (mask.weak = true → v.weak = wanted.weak) ∧
  (mask.strong = true → v.strong = wanted.strong) ∧ (mask.crowded = true → v.crowded = wanted.crowded)

/-- ANNOUNCE_JUDGEMENT_COMPLETE: bad content and a round trip outside [0, Z] discard the announce; while its sample is
in flight the end of its content is recorded and it waits; without the bias READY throughout, or when the bias
abandoned its sample before its content had ended, it is dropped; else, and when the bias abandoned its sample after
that, it goes to the announce queue, in order of position and up to 8, when the screen passes its vector, and is only
noted as heard when it does not. Without a sample it is UNSAMPLED (R22, R23, R57, R63, R64, R66, R67, R68, R69, R133). -/
def Obligations.AnnouncesAreJudged : Prop :=
  ∀ (l : LegId) (tag : FactoryTag) (h step c1 c0 : Byte) (s : State) (w : WindowScan) (f : AnnounceInHand) (r : Int),
    s.inReset = none → (s.leg l).receiver.scan = some w → w.found.find? (fun g => decide (g.a = f.a)) = some f →
    r = 20 * ((f.a : Int) - (s.leg l).derived.am - 4000 - 64 * h.toNat - 32 - (s.leg l).setup.trim) + f.p.val →
    let x := s.leg l
    let command := Instr.announceJudgementComplete l f.a (announceBody tag h step ++ [c1, c0])
    let becomes (roster : List (Option RosterEntry)) (announces : List Announce) : Prop :=
      exec command s = .next
        { s with
          roster := roster,
          legs := s.legs.set l
            { x with
              receiver :=
                { x.receiver with
                  scan := some { w with found := w.found.filter fun g => decide (g.a ≠ f.a) },
                  announces := announces } },
          iface := s.iface.arbitrate }
    ([c1, c0] ≠ crcBytes (announceBody tag h step) → becomes s.roster x.receiver.announces) ∧
    ([c1, c0] = crcBytes (announceBody tag h step) →
      (r < 0 ∨ x.derived.z < r → becomes s.roster x.receiver.announces) ∧
      (0 ≤ r → r ≤ x.derived.z →
        (f.sample = .awaited →
          exec command s = .next
            { s with
              legs := s.legs.set l
                { x with
                  receiver :=
                    { x.receiver with
                      scan := some
                        { w with found := w.found.map fun g => if g.a = f.a then { g with ended := true } else g } } },
              iface := s.iface.arbitrate }) ∧
        (f.sample = .abandoned → f.ended = false → becomes s.roster x.receiver.announces) ∧
        (f.sample ≠ .awaited → f.sample ≠ .abandoned →
          s.bias.state ≠ .ready ∨ w.marker + f.a < s.bias.readySince + 48 → 48 ≤ w.marker + f.a →
          becomes s.roster x.receiver.announces) ∧
        (f.sample = .abandoned ∧ f.ended = true ∨
            f.sample ≠ .awaited ∧ f.sample ≠ .abandoned ∧ s.bias.state = .ready ∧
              s.bias.readySince + 48 ≤ w.marker + f.a →
          ∀ v power levels,
            ((f.sample = .lost ∨ f.sample = .abandoned) ∧ power = none ∧
                levels = LevelAttrs.mk false false false false ∨
              ∃ n, f.sample = .returned n levels ∧ power = some n) →
            v = { outOfBand := decide (r < 2500 * x.setup.near ∨ 2500 * x.setup.far < r), unsampled := power.isNone,
                  overRange := levels.overRange, underRange := levels.underRange, weak := levels.weak,
                  strong := levels.strong, crowded := f.crowded } →
            (Screened x.setup.mask x.setup.matchSet v → x.receiver.announces.length < 8 →
              ∀ before after, x.receiver.announces = before ++ after → (∀ b ∈ before, b.a ≤ f.a) →
                (∀ b ∈ after, f.a < b.a) →
                becomes s.roster
                  (before ++ { cycle := w.cycle, tag := tag, holdoff := h.toNat, launch := launchOf step, a := f.a,
                               p := f.p, r := r.toNat, power := power, vector := v } :: after)) ∧
            (Screened x.setup.mask x.setup.matchSet v → 8 ≤ x.receiver.announces.length →
              becomes s.roster x.receiver.announces) ∧
            (¬ Screened x.setup.mask x.setup.matchSet v →
              (s.rosterEntry tag = none → becomes s.roster x.receiver.announces) ∧
              (∀ i e, s.rosterEntry tag = some (i, e) →
                becomes (s.roster.set i (some { e with lastHeard := some (l, w.cycle) })) x.receiver.announces)))))

/-- The candidate that an announce held on leg `l` becomes (R88). -/
def heldAs (l : LegId) (a : Announce) (reason : HeldReason) (i : Option Nat) : Candidate :=
  { tag := a.tag, leg := l, reason := reason, r := a.r, power := a.power, vector := a.vector, launch := a.launch,
    rosterIndex := i, firstHeard := a.cycle, lastHeard := a.cycle }

/-- An announce is held (R86, R88): it becomes a candidate with CANDIDATE-HELD, or is discarded when the list holds 16. -/
def Held (l : LegId) (a : Announce) (reason : HeldReason) (i : Option Nat) (s t : State) : Prop :=
  s.candidates.length < 16 ∧
    t = { s with
          candidates := s.candidates ++ [heldAs l a reason i],
          iface := s.iface.place (.candidateHeld a.tag l reason a.r a.power a.vector a.launch i a.cycle) } ∨
  16 ≤ s.candidates.length ∧ t = s

/-- The decision for entry `e` of index `i` as an EXPECTED one (steps 5 to 7 of R81): held as CROSSED on a leg that is
not its own, held as FULL-LEG with no FREE record, or admitted to the lowest FREE drop with an Enrol (R85, R86, R99). -/
def DecidesExpected (l : LegId) (a : Announce) (i : Nat) (e : RosterEntry) (s t : State) : Prop :=
  let here : Prop := e.expected = .any ∨ e.expected = .leg l
  ¬ here ∧ Held l a .crossed (some i) s t ∨
  here ∧ firstFree (s.leg l).drops = none ∧ Held l a .fullLeg (some i) s t ∨
  here ∧ ∃ d, firstFree (s.leg l).drops = some d ∧
    t = { s with
          roster := s.roster.set i (some
            { e with lastHeard := some (l, a.cycle), state := .active, link := some (l, d) }),
          legs := s.legs.set l (admitted (s.leg l) d i e.plot e.share (heldAs l a .unknown none)) }

/-- Record `r` of drop `d` ends SUPERSEDED with no Release, and its entry `e` of index `i` is EXPECTED (R84, R98). A turn
it was in is skipped: the next candidate that is not passed over begins its turn with its flag set and a Silence queued,
or the run ends NONE, before the fresh decision (R163; DESIGN CHOICE, log 29). -/
def EndsSuperseded (l : LegId) (d : Nat) (r : DropRecord) (i : Nat) (e : RosterEntry) (s t : State) : Prop :=
  let x := s.leg l
  let ended (x' : Leg) (iface : Interface) : State :=
    { s with roster := s.roster.set i (some { e with state := .expected, link := none }),
             legs := s.legs.set l x', iface := iface }
  let placed := s.iface.place
    (.dropEnded l d r.tag r.plot i .superseded r.state r.attempts r.misses x.count)
  let freed : Leg :=
    { x with drops := x.drops.set d none,
             queue := x.queue.map fun q => if q.dir.drop? = some d then { q with follow := FollowOn.empty } else q }
  r.isolated = false ∧ t = ended freed placed ∨
  r.isolated = true ∧ ∃ run skipped rest, x.run = some run ∧ run.list.drop (run.pos + 1) = skipped ++ rest ∧
    (∀ t ∈ skipped, PassedOver x d t) ∧
    (rest = [] ∧
        t = ended { freed with run := none } (placed.place (.isolationDone l .none none none run.begun x.count)) ∨
      ∃ u n more, rest = u.ident :: more ∧ u.ident.drop = n ∧ n ≠ d ∧ x.record n = some u ∧ u.state ≠ .silenced ∧
        t = ended
          { freed with
            drops := freed.drops.set n (some { u with isolated := true }),
            queue := enqueue n (.silence n) (some u.ident) freed.queue,
            run := some
              { run with pos := run.pos + 1 + skipped.length, begun := run.begun + 1, phase := .silenceQueued,
                         silence := none, clean := 0 } }
          placed)

/-- The state once the roster entry of an announce's tag has its last heard set (R81). -/
def heardOn (l : LegId) (a : Announce) (s : State) : State :=
  { s with
    roster := match s.rosterEntry a.tag with
      | some (i, e) => s.roster.set i (some { e with lastHeard := some (l, a.cycle) })
      | none => s.roster }

/-- Admission decides on an announce heard on leg `l`, from `s` to `t` (R81 to R88). Its tag's entry has its last heard
set, and the first case that applies is taken. A candidate with the tag is refreshed on its own leg and stands on
another; an unknown tag is held or discarded by the leg's policy; a BARRED one is parked; an EXPECTED one is decided as
such; one ACTIVE on another leg is held as DUPLICATE; one ACTIVE on this leg is ignored while ENROLLING, and else its
record ends SUPERSEDED and the entry is decided as EXPECTED. -/
def Decides (l : LegId) (a : Announce) (s t : State) : Prop :=
  let h := heardOn l a s
  (∃ c, s.candidate a.tag = some c ∧
    (c.leg = l ∧
        t = { h with
              candidates := s.candidates.map fun c =>
                if c.tag = a.tag then
                  { c with r := a.r, power := a.power, vector := a.vector, launch := a.launch, lastHeard := a.cycle }
                else c } ∨
      c.leg ≠ l ∧ t = h)) ∨
  s.candidate a.tag = none ∧
    (s.rosterEntry a.tag = none ∧
        ((s.leg l).setup.policy = .hold ∧ Held l a .unknown none h t ∨ (s.leg l).setup.policy = .discard ∧ t = h) ∨
      ∃ i e, s.rosterEntry a.tag = some (i, e) ∧
        (e.state = .barred ∧ t = { h with legs := s.legs.set l ((s.leg l).park a.tag) } ∨
          e.state = .expected ∧ DecidesExpected l a i e h t ∨
          ∃ k d, e.state = .active ∧ e.link = some (k, d) ∧
            (k ≠ l ∧ Held l a .duplicate (some i) h t ∨
              k = l ∧ ∃ r, s.record l d = some r ∧
                (r.state = .enrolling ∧ t = h ∨
                  r.state ≠ .enrolling ∧ r.rosterIndex = i ∧
                    ∃ u, EndsSuperseded l d r i { e with lastHeard := some (l, a.cycle) } h u ∧
                      DecidesExpected l a i e u t))))

/-- Admission decides on announces one after another (R70, R81). -/
def DecidedInTurn (l : LegId) : List Announce → State → State → Prop
  | [], s, t => t = s
  | a :: rest, s, t => ∃ u, Decides l a s u ∧ DecidedInTurn l rest u t

/-- WINDOW_SCAN_END hands the announce queue to admission and leaves it empty: its announces, however many, are decided
one after another from the head. With an announce still in judgement the scan does not end. Where the roster, the
records and the Candidate List agree, and a record in an isolation turn stands on a leg with a run, every announce is
decided (R70, R81 to R88, R98, R99, R163). -/
def Obligations.TheWindowsEndAdmitsItsAnnounces : Prop :=
  (∀ (l : LegId) (s : State) (w : WindowScan), s.inReset = none → (s.leg l).receiver.scan = some w →
    (w.found ≠ [] → exec (.windowScanEnd l) s = .next { s with iface := s.iface.arbitrate }) ∧
    (w.found = [] →
      let base := { s.leg l with receiver := Receiver.prune { (s.leg l).receiver with scan := none, announces := [] } }
      ∀ t, DecidedInTurn l (s.leg l).receiver.announces { s with legs := s.legs.set l base } t →
        exec (.windowScanEnd l) s = .next { t with iface := t.iface.arbitrate })) ∧
  (∀ (l : LegId) (a : Announce) (s : State), s.Linked →
    (∀ d r, s.record l d = some r → r.isolated = true → (s.leg l).run ≠ none) → ∃ t, Decides l a s t)

/-! ## The close of a calendar -/

/-- A position of a calendar is watched: it is dark, or among the last 32 ticks of a window that ends in this
calendar, and not within 4 ticks of a granted burst of this calendar or of the next (R35, R71). -/
def Watched (c : Calendar) (next : Option Calendar) (x : Nat) : Prop :=
  x < 31250 ∧ (∀ n, c.spill = some n → n ≤ x + 32) ∧
  (∀ n, c.window = some n → n ≤ x ∨ c.darkTail = true ∧ n ≤ x + 32) ∧
  (∀ b ∈ c.bursts, x + 4 < b.1 ∨ b.1 + b.2 + 4 ≤ x) ∧
  (∀ d, next = some d → ∀ b ∈ d.bursts, x + 4 < 31250 + b.1)

/-- The class of a calendar at its close (R71). -/
def ClassIs (s : State) (l : LegId) (c : Calendar) (next : Option Calendar) (lit : List (Nat × Nat)) :
    CycleClass → Prop
  | .neutral =>
      c.hold = true ∨ s.bias.state ≠ .ready ∨ c.marker + (s.leg l).derived.omega < s.bias.readySince ∨
        ∀ x, ¬ Watched c next x
  | .stray =>
      c.hold = false ∧ s.bias.state = .ready ∧ s.bias.readySince ≤ c.marker + (s.leg l).derived.omega ∧
        ∃ x, Watched c next x ∧ Lit lit x
  | .clean =>
      c.hold = false ∧ s.bias.state = .ready ∧ s.bias.readySince ≤ c.marker + (s.leg l).derived.omega ∧
        (∃ x, Watched c next x) ∧ ∀ x, Watched c next x → ¬ Lit lit x

/-- The oldest calendar in hand that has not closed, and the next one, stand so in a receiver. -/
def Closing (x : Receiver) (c : Calendar) (next : Option Calendar) : Prop :=
  x.inHand.find? (fun d => !d.closed) = some c ∧ x.inHand.find? (fun d => decide (d.cycle = c.cycle + 1#32)) = next ∧
  c.Fits ∧ (∀ d, next = some d → d.Fits) ∧ (c.spill = none ∨ c.window = none) ∧
  (c.darkTail = false → c.window = some 31250)

/-- The receiver whose calendar of cycle `n` has closed, with the light history, the latch and the count given
(R56). -/
def closedReceiver (x : Receiver) (n : Cycle) (history : BitVec 48) (latch : Bool) (count : Nat) : Receiver :=
  { Receiver.prune
      { x with inHand := x.inHand.map fun c => if c.cycle = n then { c with closed := true } else c,
               lightHistory := history } with
    latch := latch, cleanCount := count }

/-- CALENDAR_CLOSE on a leg without an isolation run: the class of the cycle moves the stray-light latch and its
clean-cycle count by the table of R72 (R56, R65, R71, R72). -/
def Obligations.TheStrayLatchFollowsItsTable : Prop :=
  ∀ (l : LegId) (lit : List (Nat × Nat)) (s : State) (c : Calendar) (next : Option Calendar) (k : CycleClass)
    (history : BitVec 48), s.inReset = none → Closing (s.leg l).receiver c next → (s.leg l).run = none →
    ClassIs s l c next lit k → HistoryIs lit history →
    let becomes (latch : Bool) (count : Nat) (i : Interface) : Prop :=
      exec (.calendarClose l lit) s = .next
        { s with
          legs := s.legs.set l
            { s.leg l with receiver := closedReceiver (s.leg l).receiver c.cycle history latch count },
          iface := i.arbitrate }
    ((s.leg l).receiver.latch = false → k = .stray → becomes true 0 (s.iface.place (.strayOnset l c.cycle))) ∧
    ((s.leg l).receiver.latch = false → k ≠ .stray → becomes false (s.leg l).receiver.cleanCount s.iface) ∧
    ((s.leg l).receiver.latch = true → k = .stray → becomes true 0 s.iface) ∧
    ((s.leg l).receiver.latch = true → k = .neutral → becomes true (s.leg l).receiver.cleanCount s.iface) ∧
    ((s.leg l).receiver.latch = true → k = .clean → (s.leg l).receiver.cleanCount + 1 < 16 →
      becomes true ((s.leg l).receiver.cleanCount + 1) s.iface) ∧
    ((s.leg l).receiver.latch = true → k = .clean → 16 ≤ (s.leg l).receiver.cleanCount + 1 →
      becomes false 0 (s.iface.place (.strayCleared l c.cycle)))

/-- CALENDAR_CLOSE in an isolation turn, with the latch set: the two cycles after the Silence's are not used, four
clean watched cycles name the culprit, a stray one ends the turn and begins the next, or the run, and a neutral one
does nothing (R116, R161, R162, R163). -/
def Obligations.AnIsolationTurnIsWatched : Prop :=
  ∀ (l : LegId) (lit : List (Nat × Nat)) (s : State) (c : Calendar) (next : Option Calendar) (k : CycleClass)
    (history : BitVec 48) (run : IsolationRun) (silence : Cycle) (r : DropRecord) (d latched : Nat),
    s.inReset = none → Closing (s.leg l).receiver c next → (s.leg l).run = some run →
    ClassIs s l c next lit k → HistoryIs lit history → (s.leg l).receiver.latch = true →
    latched = (match k with
      | .stray => 0
      | .clean => (s.leg l).receiver.cleanCount + 1
      | .neutral => (s.leg l).receiver.cleanCount) → latched < 16 →
    run.silence = some silence → run.list[run.pos]? = some r.ident → r.ident.drop = d → s.record l d = some r →
    r.isolated = true →
    let after := (c.cycle - silence).toInt
    let becomes (drops : List (Option DropRecord)) (queue : List QueueEntry) (run : Option IsolationRun)
        (i : Interface) : Prop :=
      exec (.calendarClose l lit) s = .next
        { s with
          legs := s.legs.set l
            { s.leg l with
              drops := drops, queue := queue, run := run,
              receiver := closedReceiver (s.leg l).receiver c.cycle history true latched },
          iface := i.arbitrate }
    let freed := (s.leg l).drops.set d (some { r with isolated := false })
    let resumed := if r.state = .silenced then (s.leg l).queue
      else enqueue d (.resume d) (some r.ident) (s.leg l).queue
    (run.phase = .wait → after = 1 → becomes (s.leg l).drops (s.leg l).queue (some run) s.iface) ∧
    (run.phase = .wait → after = 2 →
      becomes (s.leg l).drops (s.leg l).queue (some { run with phase := .watch }) s.iface) ∧
    (run.phase = .watch → 3 ≤ after → k = .neutral →
      becomes (s.leg l).drops (s.leg l).queue (some run) s.iface) ∧
    (run.phase = .watch → 3 ≤ after → k = .clean → run.clean + 1 < 4 →
      becomes (s.leg l).drops (s.leg l).queue (some { run with clean := run.clean + 1 }) s.iface) ∧
    (run.phase = .watch → 3 ≤ after → k = .clean → 4 ≤ run.clean + 1 →
      becomes
        ((s.leg l).drops.set d (some
          { r with isolated := false, state := .silenced,
                   resumeTo := if r.state = .silenced then r.resumeTo else some r.state }))
        (s.leg l).queue none
        (s.iface.place (.isolationDone l .culprit (some d) (some r.tag) run.begun (s.leg l).count))) ∧
    (run.phase = .watch → 3 ≤ after → k = .stray → run.list.drop (run.pos + 1) = [] →
      becomes freed resumed none (s.iface.place (.isolationDone l .none none none run.begun (s.leg l).count))) ∧
    (∀ u n us, run.phase = .watch → 3 ≤ after → k = .stray → run.list.drop (run.pos + 1) = u.ident :: us →
      u.ident.drop = n → n ≠ d → s.record l n = some u → u.state ≠ .silenced →
      becomes (freed.set n (some { u with isolated := true })) (enqueue n (.silence n) (some u.ident) resumed)
        (some { run with pos := run.pos + 1, begun := run.begun + 1, phase := .silenceQueued, silence := none,
                         clean := 0 })
        s.iface)

/-! ## The converter -/

/-- The power value of a code through an offset and a table, and its range attributes (R134, R135). -/
def PowerIs (code o : Nat) (table : List Int) (v : Int) (high low : Bool) : Prop :=
  (4000 ≤ code ∧ table[8]? = some v ∧ high = true ∧ low = false) ∨
  (code < 4000 ∧ code < o + 40 ∧ table[0]? = some v ∧ high = false ∧ low = true) ∨
  (code < 4000 ∧ o + 40 ≤ code ∧ high = false ∧ low = false ∧
    ∃ a b : Int, table[(code - o) / 500]? = some a ∧ table[(code - o) / 500 + 1]? = some b ∧
      v = a + ((b - a) * (((code - o) % 500 : Nat) : Int) + 250) / 500)

/-- SAMPLE_RESULT: the code becomes a power value with its attributes, which fills the slot of the measurement entry
or the sample of the announce that it serves, and the converter is IDLE (R66, R101, R124, R134, R135). -/
def Obligations.AResultReachesWhatItServes : Prop :=
  ∀ (l : LegId) (range : RangeId) (start o : Nat) (code : BitVec 12) (v : Int) (high low : Bool) (s : State),
    s.inReset = none → PowerIs code.toNat o (s.meter.tables.get range) v high low →
    let levels : LevelAttrs :=
      { overRange := high, underRange := low, weak := decide (v < s.params.floor),
        strong := decide (s.params.ceiling < v) }
    (∀ q r m, s.meter.converter = .sampling l (.drop q) range start o → s.record l q.ident.drop = some r →
      r.ident = q.ident → r.measures.find? (fun m => decide (m.cycle = q.cycle)) = some m → m.verdict = none →
      exec (.sampleResult code) s = .next
        { s with
          meter := { s.meter with converter := .idle },
          legs := s.legs.set l
            { s.leg l with
              drops := (s.leg l).drops.set q.ident.drop (some
                { r with measures := r.measures.map fun m =>
                    if m.cycle = q.cycle then { m with outcome := some (.result v levels) } else m }) },
          iface := s.iface.arbitrate }) ∧
    (∀ a w, s.meter.converter = .sampling l (.announce a) range start o → (s.leg l).receiver.scan = some w →
      exec (.sampleResult code) s = .next
        { s with
          meter := { s.meter with converter := .idle },
          legs := s.legs.set l
            { s.leg l with
              receiver :=
                { (s.leg l).receiver with
                  scan := some
                    { w with found := w.found.map fun f =>
                        if f.a = a ∧ f.sample = .awaited then { f with sample := .returned v levels } else f } } },
          iface := s.iface.arbitrate })

/-- SAMPLE_RESULT for a measurement entry whose verdict has come: the entry is taken out. With a GOOD verdict and the
record's flag clear it is taken. In LEVELLING a stale result moves the range hint and nothing else; of one that is not
stale, a value in its window takes the record to SOAK, a strong or weak one moves the launch step and queues a Launch,
or takes the record to SOAK with LEVEL-FAULT at the end of the steps or after three; a result that moves the range hint
counts as unmeasured, and the eighth takes the record to SOAK with LEVEL-UNKNOWN. In service the value is the last
power, stale or not (log 11), a weak or strong one sets LEVEL-DRIFT, and one that moves the hint is not used. With
another verdict, the flag set, or in another state it is used for nothing (R101, R102, R103, R107, R108, R112). -/
def Obligations.AGoodResultLevelsItsRecord : Prop :=
  ∀ (l : LegId) (q : SampleRequest) (r : DropRecord) (m : Measure) (d start o : Nat) (code : BitVec 12) (v : Int)
    (high low : Bool) (s : State) (verdict : BurstVerdict), s.inReset = none →
    s.meter.converter = .sampling l (.drop q) q.range start o →
    PowerIs code.toNat o (s.meter.tables.get q.range) v high low → q.ident.drop = d → s.record l d = some r →
    r.ident = q.ident → r.measures.find? (fun m => decide (m.cycle = q.cycle)) = some m → m.verdict = some verdict →
    let becomes (r' : DropRecord) (queue : List QueueEntry) : Prop :=
      exec (.sampleResult code) s = .next
        { s with
          meter := { s.meter with converter := .idle },
          legs := s.legs.set l { s.leg l with drops := (s.leg l).drops.set d (some r'), queue := queue },
          iface := s.iface.arbitrate }
    let taken := { r with measures := r.measures.filter fun m => decide (m.cycle ≠ q.cycle) }
    let used := { taken with lastPower := some v }
    let soak (flags : LevelFlags) : DropRecord := { used with state := .soak, streak := 0, flags := flags }
    let moved (launch : LaunchStep) : Prop :=
      becomes { used with launch := launch, adjustments := r.adjustments + 1, launchField := .pending }
        (enqueue d (.launch d launch) (some r.ident) (s.leg l).queue)
    let reRanged : Prop := high = true ∧ r.hint ≠ .q3 ∨ low = true ∧ r.hint ≠ .q0
    (verdict ≠ .good ∨ r.isolated = true ∨ (r.state ≠ .levelling ∧ r.state ≠ .inService) →
      becomes taken (s.leg l).queue) ∧
    (verdict = .good → r.isolated = false → r.state = .levelling → IsStale r q.cycle →
      becomes { taken with hint := hintWith r high low } (s.leg l).queue) ∧
    (verdict = .good → r.isolated = false → r.state = .levelling → ¬ IsStale r q.cycle → ¬ reRanged →
      (s.params.floor ≤ v → v ≤ s.params.ceiling → becomes (soak r.flags) (s.leg l).queue) ∧
      (s.params.ceiling < v →
        (r.launch = .q3 ∨ 3 ≤ r.adjustments → becomes (soak { r.flags with fault := true }) (s.leg l).queue) ∧
        (r.adjustments < 3 → (r.launch = .q0 → moved .q1) ∧ (r.launch = .q1 → moved .q2) ∧ (r.launch = .q2 → moved .q3))) ∧
      (v < s.params.floor → v ≤ s.params.ceiling →
        (r.launch = .q0 ∨ 3 ≤ r.adjustments → becomes (soak { r.flags with fault := true }) (s.leg l).queue) ∧
        (r.adjustments < 3 →
          (r.launch = .q3 → moved .q2) ∧ (r.launch = .q2 → moved .q1) ∧ (r.launch = .q1 → moved .q0)))) ∧
    (verdict = .good → r.isolated = false → r.state = .levelling → ¬ IsStale r q.cycle → reRanged →
      (r.unmeasured + 1 < 8 →
        becomes { taken with hint := hintWith r high low, unmeasured := r.unmeasured + 1 } (s.leg l).queue) ∧
      (8 ≤ r.unmeasured + 1 →
        becomes
          { taken with hint := hintWith r high low, unmeasured := r.unmeasured + 1, state := .soak, streak := 0,
                       flags := { r.flags with unknown := true } }
          (s.leg l).queue)) ∧
    (verdict = .good → r.isolated = false → r.state = .inService →
      (reRanged → becomes { taken with hint := hintWith r high low } (s.leg l).queue) ∧
      (¬ reRanged →
        becomes { used with flags := { r.flags with drift := decide (v < s.params.floor ∨ s.params.ceiling < v) } }
          (s.leg l).queue))

/-- Counting on from leg `p` in the order 0, 1, 2, 3, 0, leg `l` comes before leg `k` (R125, R128). -/
def ComesFirst (p l k : LegId) : Prop := l = p ∨ k ≠ p ∧ (l = p.next ∨ k ≠ p.next ∧ l = p.next.next)

/-- The head request of leg `k` starts its integration at an instant (R131). -/
def QueuedAt (m : Meter) (instant : Nat) (k : LegId) : Prop :=
  ∃ q rest, m.queues.get k = q :: rest ∧ q.start = instant

/-- The converter's arbiter favours leg `w` of the queued requests that start at an instant, and the sample tie pointer
moves past it when there are two or more (R125). -/
def FavoursAt (m : Meter) (instant : Nat) (w pointer : LegId) : Prop :=
  QueuedAt m instant w ∧ (∀ k, QueuedAt m instant k → k ≠ w → ComesFirst m.tiePtr w k) ∧
  ((∃ k, k ≠ w ∧ QueuedAt m instant k) ∧ pointer = w.next ∨
   (∀ k, QueuedAt m instant k → k = w) ∧ pointer = m.tiePtr)

/-- A leg is offered a calibration at the boundary of an instant: it is started, the calendar built there has a dark
tail, and its want list holds a range waiting (R128). -/
def OfferedAt (t : State) (instant : Nat) (l : LegId) (wants : List Want) : Prop :=
  (t.leg l).state ≠ .stopped ∧ (∃ c, (t.leg l).calendar = some c ∧ c.marker = instant ∧ c.darkTail = true) ∧
  ∃ w ∈ wants, w.scheduled = false

/-- The ranges of leg `l` whose offsets become invalid at a boundary: by age, and then by the entry to READY
(R126). -/
def lostAt (s : State) (l : LegId) : List RangeId :=
  (Quad.all.filter fun k => (s.offset l k).valid && decide (40000 ≤ (s.offset l k).age + 1))
    ++ Quad.all.filter fun k => entersReady s && (s.offset l k).valid && decide ((s.offset l k).age + 1 < 40000)

/-- The Level Meter at a boundary that leads from `s` to `t`: the placed sample requests mark their wants; the
calibration arbiter schedules the first waiting range of the offered leg that its pointer favours; and then every valid
offset is a cycle older, or invalid, and wanted while a queued request names it (R126, R127, R128, R130). -/
def MetersBoundary (s t : State) : Prop :=
  let instant := 31250 * (s.boundaries + 1)
  ∃ (placed : LegId → List SampleRequest) (built chosen : LegId → List Want),
    (∀ l, t.meter.queues.get l = s.meter.queues.get l ++ placed l ∧ built l = wantedBy s l (placed l)) ∧
    ((∀ l, ¬ OfferedAt t instant l (built l)) ∧ chosen = built ∧ t.meter.calPtr = s.meter.calPtr ∧
        t.meter.scheduled = s.meter.scheduled ∨
      ∃ l k, OfferedAt t instant l (built l) ∧
        (∀ j, j ≠ l → OfferedAt t instant j (built j) → ComesFirst s.meter.calPtr l j) ∧
        ((built l).find? fun w => !w.scheduled) = some { range := k, scheduled := false } ∧
        chosen l = ((built l).map fun w => if w.range = k then { w with scheduled := true } else w) ∧
        (∀ j, j ≠ l → chosen j = built j) ∧ t.meter.calPtr = l.next ∧
        t.meter.scheduled = s.meter.scheduled ++
          [{ leg := l, range := k, instant := instant + (s.leg l).derived.omega + 31200 }]) ∧
    (∀ l k,
      (k ∈ lostAt s l → t.offset l k = { code := none, valid := false, age := 0 }) ∧
      (k ∉ lostAt s l → (s.offset l k).valid = true →
        t.offset l k = { s.offset l k with age := (s.offset l k).age + 1 }) ∧
      ((s.offset l k).valid = false → t.offset l k = s.offset l k)) ∧
    (∀ l, t.meter.wants.get l = wantedAs (lostAt s l) (t.meter.queues.get l) (chosen l)) ∧
    t.meter.converter = s.meter.converter ∧ t.meter.tiePtr = s.meter.tiePtr ∧ t.meter.tables = s.meter.tables ∧
    t.meter.decided = s.meter.decided

/-- SAMPLE_INTEGRATION_START: the head request of a leg leaves its queue. Of the requests that start at its instant the
arbiter favours the leg that comes first from the tie pointer on, which then moves past it. The favoured one is taken
by the idle converter when the bias is READY and its offset valid; one passed over in a tie, unfit, or found by a busy
converter is missed, and delivered "unmeasured" to its measurement entry at once. CALIBRATION_INSTANT: the idle
converter takes the calibration whose instant arrives, when no queued sample starts there, the bias is READY and the leg
started; otherwise its range waits again. CALIBRATION_RESULT: with no light the code is the offset, valid and of age 0,
and the want is served; with light the code is discarded and the range waits again. A boundary marks the wants of the
samples placed, schedules a calibration for the offered leg that the pointer favours, and ages the offsets, in this
order (DEDUCED, log 3); ranges that become invalid together are wanted in ascending order (DESIGN CHOICE, log 30)
(R101, R125 to R131). -/
def Obligations.TheConverterServesSamplesAndCalibrations : Prop :=
  (∀ s : State, s.inReset = none → ∃ t, exec .cycleBoundary s = .next t ∧ MetersBoundary s t) ∧
  (∀ (l : LegId) (q : SampleRequest) (rest : List SampleRequest) (s : State), s.inReset = none →
    s.meter.queues.get l = q :: rest →
    let mine : Decision := { instant := q.start, form := .queued, leg := l }
    let fits (o : Nat) : Prop :=
      s.bias.state = .ready ∧ (s.offset l q.range).valid = true ∧ (s.offset l q.range).code = some o
    let unfit : Prop := s.bias.state ≠ .ready ∨ (s.offset l q.range).valid = false
    let taken (o : Nat) (decided : Decision) (pointer : LegId) : Prop :=
      exec (.sampleIntegrationStart l) s = .next
        { s with
          meter :=
            { s.meter with
              queues := s.meter.queues.set l rest, decided := some decided, tiePtr := pointer,
              converter := .sampling l (.drop q) q.range q.start o },
          iface := s.iface.arbitrate }
    let missed (decided : Option Decision) (pointer : LegId) : Prop :=
      ∀ r m, s.record l q.ident.drop = some r → r.ident = q.ident →
        r.measures.find? (fun m => decide (m.cycle = q.cycle)) = some m → m.verdict = none →
        exec (.sampleIntegrationStart l) s = .next
          { s with
            meter := { s.meter with queues := s.meter.queues.set l rest, decided := decided, tiePtr := pointer },
            legs := s.legs.set l
              { s.leg l with
                drops := (s.leg l).drops.set q.ident.drop (some
                  { r with measures := r.measures.map fun m =>
                      if m.cycle = q.cycle then { m with outcome := some .unmeasured } else m }) },
            iface := s.iface.arbitrate }
    (s.meter.converter ≠ .idle → missed s.meter.decided s.meter.tiePtr) ∧
    (s.meter.converter = .idle → (∀ e, s.meter.decided = some e → e.instant ≠ q.start) →
      ∀ w pointer, FavoursAt s.meter q.start w pointer →
        (w = l → ∀ o, fits o → taken o mine pointer) ∧
        (w ≠ l ∨ unfit → missed (some { instant := q.start, form := .queued, leg := w }) pointer)) ∧
    (∀ e, s.meter.converter = .idle → s.meter.decided = some e → e.instant = q.start →
      (e = mine → ∀ o, fits o → taken o e s.meter.tiePtr) ∧
      (e ≠ mine ∨ unfit → missed (some e) s.meter.tiePtr))) ∧
  (∀ (c : Scheduled) (rest : List Scheduled) (s : State), s.inReset = none → s.meter.scheduled = c :: rest →
    let waiting := s.meter.wants.set c.leg
      ((s.meter.wants.get c.leg).map fun w => if w.range = c.range then { w with scheduled := false } else w)
    let alone : Prop := s.meter.converter = .idle ∧ (∀ e, s.meter.decided = some e → e.instant ≠ c.instant) ∧
      (∀ j b bs, s.meter.queues.get j = b :: bs → b.start ≠ c.instant) ∧ ∀ d ∈ rest, d.instant ≠ c.instant
    let won : Decision := { instant := c.instant, form := .calibration, leg := c.leg }
    (alone → s.bias.state = .ready → (s.leg c.leg).state ≠ .stopped →
      exec .calibrationInstant s = .next
        { s with
          meter :=
            { s.meter with
              scheduled := rest, decided := some won, converter := .calibrating c.leg c.range c.instant },
          iface := s.iface.arbitrate }) ∧
    (alone → s.bias.state ≠ .ready ∨ (s.leg c.leg).state = .stopped →
      exec .calibrationInstant s = .next
        { s with
          meter := { s.meter with scheduled := rest, decided := some won, wants := waiting },
          iface := s.iface.arbitrate }) ∧
    (∀ w pointer, s.meter.converter = .idle → (∀ e, s.meter.decided = some e → e.instant ≠ c.instant) →
      FavoursAt s.meter c.instant w pointer →
      exec .calibrationInstant s = .next
        { s with
          meter :=
            { s.meter with
              scheduled := rest, decided := some { instant := c.instant, form := .queued, leg := w },
              tiePtr := pointer, wants := waiting },
          iface := s.iface.arbitrate }) ∧
    (s.meter.converter ≠ .idle ∨ (∃ e, s.meter.decided = some e ∧ e.instant = c.instant ∧ e ≠ won) →
      exec .calibrationInstant s = .next
        { s with
          meter := { s.meter with scheduled := rest, wants := waiting },
          iface := s.iface.arbitrate })) ∧
  (∀ (l : LegId) (k : RangeId) (start : Nat) (code : BitVec 12) (light : BitVec 32) (s : State), s.inReset = none →
    s.meter.converter = .calibrating l k start →
    (light = 0#32 →
      exec (.calibrationResult code light) s = .next
        { s with
          meter :=
            { s.meter with
              converter := .idle,
              offsets := s.meter.offsets.set l
                ((s.meter.offsets.get l).set k { code := some code.toNat, valid := true, age := 0 }),
              wants := s.meter.wants.set l ((s.meter.wants.get l).filter fun w => decide (w.range ≠ k)) },
          iface := s.iface.arbitrate }) ∧
    (light ≠ 0#32 →
      exec (.calibrationResult code light) s = .next
        { s with
          meter :=
            { s.meter with
              converter := .idle,
              wants := s.meter.wants.set l
                ((s.meter.wants.get l).map fun w => if w.range = k then { w with scheduled := false } else w) },
          iface := s.iface.arbitrate }))

/-! ## The directive queue -/

/-- What becomes of a directive queue when a directive is queued: for a drop with no entry, an entry at the tail with
an empty follow-on set; for a drop with an entry, what the table of R50 says of the two kinds, in the entry's own
position; a Park once for a tag, and only while fewer than 16 are held (R48, R49, R50). -/
def Obligations.DirectivesMeetByTheirTable : Prop :=
  (∀ (d : Nat) (new : Directive) (ident : Option Identity) (q : List QueueEntry),
    (∀ e ∈ q, e.dir.drop? ≠ some d) → enqueue d new ident q = q ++ [⟨new, ident, ⟨false, false, false⟩⟩]) ∧
  (∀ (d : Nat) (new : Directive) (ident : Option Identity) (before after : List QueueEntry) (e : QueueEntry),
    (∀ b ∈ before, b.dir.drop? ≠ some d) → e.dir.drop? = some d → new.drop? = some d →
    let becomes (e' : QueueEntry) : Prop := enqueue d new ident (before ++ e :: after) = before ++ e' :: after
    let set := e.follow
    (isEnrol new = true ∨ new = .release d → becomes ⟨new, ident, ⟨false, false, false⟩⟩) ∧
    (∀ tag E launch, e.dir = .enrol tag d E launch →
      (∀ E', new = .offset d E' → becomes { e with dir := .enrol tag d E' launch }) ∧
      (∀ launch', new = .launch d launch' → becomes { e with dir := .enrol tag d E launch' }) ∧
      (new = .silence d → becomes { e with follow := { set with silence := true } }) ∧
      (new = .resume d → becomes { e with follow := { set with silence := false } })) ∧
    (isOffset e.dir = true →
      (isOffset new = true → becomes ⟨new, ident, { set with offset := false }⟩) ∧
      (isLaunch new = true → becomes ⟨new, ident, { set with offset := true, launch := false }⟩) ∧
      (new = .silence d → becomes ⟨new, ident, { set with offset := true, silence := false }⟩) ∧
      (new = .resume d → becomes ⟨new, ident, { set with offset := true }⟩)) ∧
    (isLaunch e.dir = true →
      (isOffset new = true → becomes ⟨new, ident, { set with offset := false, launch := true }⟩) ∧
      (isLaunch new = true → becomes ⟨new, ident, { set with launch := false }⟩) ∧
      (new = .silence d → becomes ⟨new, ident, { set with launch := true, silence := false }⟩) ∧
      (new = .resume d → becomes ⟨new, ident, { set with launch := true }⟩)) ∧
    (e.dir = .silence d ∨ e.dir = .resume d →
      (isOffset new = true → becomes { e with follow := { set with offset := true } }) ∧
      (isLaunch new = true → becomes { e with follow := { set with launch := true } }) ∧
      (new = .silence d → becomes ⟨new, ident, { set with silence := false }⟩) ∧
      (new = .resume d → becomes ⟨new, ident, set⟩)) ∧
    (e.dir = .release d →
      isOffset new = true ∨ isLaunch new = true ∨ new = .silence d ∨ new = .resume d → becomes e)) ∧
  (∀ (x : Leg) (tag : FactoryTag),
    ((∃ q ∈ x.queue, q.dir = .park tag) → x.park tag = x) ∧
    ((∀ q ∈ x.queue, q.dir ≠ .park tag) → parkCount x.queue < 16 →
      x.park tag = { x with queue := x.queue ++ [⟨.park tag, none, ⟨false, false, false⟩⟩] }) ∧
    ((∀ q ∈ x.queue, q.dir ≠ .park tag) → 16 ≤ parkCount x.queue → x.park tag = x))

/-! ## Formats -/

/-- What a request's fields are written as is read back as those fields, at every value their bytes admit (R177). -/
def Obligations.RequestPayloadsRoundTrip : Prop :=
  (∀ f : LegMusterFields, f.leg < 256 → parseLegMuster (legMusterBytes f) = some f) ∧
  (∀ f : HoldFields, f.leg < 256 → f.length < 65536 → parseHold (holdBytes f) = some f) ∧
  (∀ f : SetupFields, f.leg < 256 → f.near < 256 → f.far < 256 → f.zEntered < 4294967296 → f.trim < 65536 →
    f.interval < 65536 → f.maxEchoes < 256 → f.announceRange < 256 → parseSetup (setupBytes f) = some f) ∧
  (∀ f : RosterPutFields, f.plot < 65536 → f.leg < 256 → f.share < 65536 →
    parseRosterPut (rosterPutBytes f) = some f) ∧
  (∀ f : FactoryTag, parseTag (tagBytes f) = some f ∧ parseRosterKey (rosterKeyBytes (.tag f)) = some (.tag f) ∧
    parseCandidateKey (candidateKeyBytes (.tag f)) = some (.tag f)) ∧
  (∀ n, n < 65536 → parseRosterKey (rosterKeyBytes (.number n)) = some (.number n)) ∧
  (∀ n, n < 256 → parseCandidateKey (candidateKeyBytes (.number n)) = some (.number n)) ∧
  (∀ f : VerdictFields, f.plot < 65536 → f.share < 65536 → f.leg < 256 → parseVerdict (verdictBytes f) = some f) ∧
  (∀ f : ActivationFields, f.streak < 256 → f.interval < 256 → f.missLim < 256 → -32768 ≤ f.floor → f.floor < 32768 →
    -32768 ≤ f.ceiling → f.ceiling < 32768 → f.timeout < 65536 → parseActivation (activationBytes f) = some f) ∧
  (∀ f : DropFields, f.leg < 256 → f.drop < 256 → parseDrop (dropBytes f) = some f) ∧
  (∀ f : CalLoadFields, f.range < 256 → f.values.length = 9 → (∀ v ∈ f.values, -32768 ≤ v ∧ v < 32768) →
    parseCalLoad (calLoadBytes f) = some f)

/-! ## Invariants -/

/-- Every step keeps the interface sound (R166, R167, R170, R171). -/
def Obligations.EveryStepKeepsTheInterface : Prop :=
  ∀ s t : State, s.iface.Sound → step s = .next t → t.iface.Sound

/-- Every step keeps the bias, the legs and the converter in agreement (R131 to R133, R139, R147, R148, R152, R156,
R160, R164). -/
def Obligations.EveryStepKeepsTheSupervision : Prop :=
  ∀ s t : State, s.Supervised → step s = .next t → t.Supervised

/-- Every step keeps the roster, the drop records and the Candidate List in agreement, and the bounds of the directive
queues: an entry for a drop number, a Park for a tag, 16 Parks and 80 directives at the most (R48, R74, R75, R80, R87,
R98, R99). -/
def Obligations.EveryStepKeepsTheLinks : Prop :=
  ∀ s t : State, s.Linked → step s = .next t → t.Linked

/-- Every step from a state whose roster, records and Candidate List agree (EveryStepKeepsTheLinks: among them that no
two candidates hold one tag) keeps R + E = Z in every live record, and every round trip held within [0, Z] (R18, R23,
R25, R28). -/
def Obligations.EveryStepKeepsTheEqualization : Prop :=
  ∀ s t : State, s.Linked → s.Equalized → step s = .next t → t.Equalized

/-- The part right after a power reset meets every invariant and stands at the values the rules state: the bias OFF,
every leg STOPPED, the roster free, the default setup, tables and activation parameters, and READY with its cause in
transmission (R74, R87, R96, R120, R123, R126, R136, R139, R144, R148, R149, R175). -/
def Obligations.ResetLeavesTheStatedValues : Prop :=
  State.reset.iface.Sound ∧ State.reset.Supervised ∧ State.reset.Linked ∧ State.reset.Equalized ∧
  State.reset.bias.state = .off ∧ State.reset.rail.state = .normal ∧ State.reset.rail.latch = false ∧
  State.reset.roster = List.replicate 256 none ∧ State.reset.candidates = [] ∧
  State.reset.params =
    { streak := 16, interval := 4, missLim := 4, floor := -280, ceiling := -100, timeout := 8000 } ∧
  State.reset.iface.lineOut = some ⟨.notice (.ready .power), false⟩ ∧ State.reset.meter.converter = .idle ∧
  State.reset.meter.tables.get .q2 = [-290, -250, -220, -203, -190, -180, -173, -166, -160] ∧
  ∀ l, (State.reset.leg l).state = .stopped ∧ (State.reset.leg l).startPending = false ∧
    (State.reset.leg l).finalPending = false ∧ (State.reset.leg l).count = 0#32 ∧
    (State.reset.leg l).drops = List.replicate 64 none ∧ (∀ k, (State.reset.offset l k).valid = false) ∧
    (State.reset.leg l).setup =
      { near := 0, far := 40, zEntered := 0, trim := 0, interval := 400, maxEchoes := 8, mask := AttrSet.empty,
        matchSet := AttrSet.empty, announceRange := .q2, policy := .hold, musterOn := true } ∧
    (State.reset.leg l).derived = { z := 100000, omega := 9000, span := 5000, w := 7176, am := 5000 } ∧
    (State.reset.leg l).receiver.lightHistory = 0#48
end

