-- ==== Sys2Proof/Laws/State.lean ====
section
/-! SUPPORT. One lemma per field and per named update of the state: what it sets, and that it leaves the rest. -/

namespace Sys2Proof

/-! ## The four-valued container -/

@[simp] theorem Four.get_set_same {α : Type} (f : Four α) (i : Quad) (a : α) : (f.set i a).get i = a := by
  cases i <;> rfl

theorem Four.get_set_other {α : Type} (f : Four α) {i j : Quad} (a : α) (h : j ≠ i) : (f.set i a).get j = f.get j := by
  cases i <;> cases j <;> first | rfl | exact absurd rfl h

theorem Four.get_set {α : Type} (f : Four α) (i j : Quad) (a : α) :
    (f.set i a).get j = if j = i then a else f.get j := by
  cases i <;> cases j <;> rfl

@[simp] theorem Four.set_get {α : Type} (f : Four α) (i : Quad) : f.set i (f.get i) = f := by
  cases i <;> rfl

@[simp] theorem Four.set_set {α : Type} (f : Four α) (i : Quad) (a b : α) : (f.set i a).set i b = f.set i b := by
  cases i <;> rfl

@[simp] theorem Four.get_const {α : Type} (a : α) (i : Quad) : (Four.const a).get i = a := by
  cases i <;> rfl

@[simp] theorem Four.get_map {α β : Type} (g : α → β) (f : Four α) (i : Quad) : (f.map g).get i = g (f.get i) := by
  cases i <;> rfl

theorem Four.ext_get {α : Type} {f g : Four α} (h : ∀ i, f.get i = g.get i) : f = g := by
  cases f; cases g
  have h0 := h .q0; have h1 := h .q1; have h2 := h .q2; have h3 := h .q3
  simp only [Four.get] at h0 h1 h2 h3
  subst h0 h1 h2 h3
  rfl

@[simp] theorem Quad.ofNat?_val (q : Quad) : Quad.ofNat? q.val = some q := by
  cases q <;> rfl

end Sys2Proof

namespace Sys2Proof.Machine

/-! ## The block setters -/

@[simp] theorem State.setIface_iface (s : State) (x : Interface) : (s.setIface x).iface = x := rfl
@[simp] theorem State.setIface_roster (s : State) (x : Interface) : (s.setIface x).roster = s.roster := rfl
@[simp] theorem State.setIface_candidates (s : State) (x : Interface) : (s.setIface x).candidates = s.candidates := rfl
@[simp] theorem State.setIface_legs (s : State) (x : Interface) : (s.setIface x).legs = s.legs := rfl
@[simp] theorem State.setIface_meter (s : State) (x : Interface) : (s.setIface x).meter = s.meter := rfl
@[simp] theorem State.setIface_bias (s : State) (x : Interface) : (s.setIface x).bias = s.bias := rfl
@[simp] theorem State.setIface_rail (s : State) (x : Interface) : (s.setIface x).rail = s.rail := rfl
@[simp] theorem State.setIface_params (s : State) (x : Interface) : (s.setIface x).params = s.params := rfl
@[simp] theorem State.setIface_boundaries (s : State) (x : Interface) : (s.setIface x).boundaries = s.boundaries := rfl
@[simp] theorem State.setIface_inReset (s : State) (x : Interface) : (s.setIface x).inReset = s.inReset := rfl
@[simp] theorem State.setIface_pending (s : State) (x : Interface) : (s.setIface x).pending = s.pending := rfl
@[simp] theorem State.setIface_leg (s : State) (x : Interface) (l : LegId) : (s.setIface x).leg l = s.leg l := rfl
@[simp] theorem State.setIface_record (s : State) (x : Interface) (l : LegId) (d : Nat) :
    (s.setIface x).record l d = s.record l d := rfl

@[simp] theorem State.setRoster_iface (s : State) (x : List (Option RosterEntry)) : (s.setRoster x).iface = s.iface := rfl
@[simp] theorem State.setRoster_roster (s : State) (x : List (Option RosterEntry)) : (s.setRoster x).roster = x := rfl
@[simp] theorem State.setRoster_candidates (s : State) (x : List (Option RosterEntry)) : (s.setRoster x).candidates = s.candidates := rfl
@[simp] theorem State.setRoster_legs (s : State) (x : List (Option RosterEntry)) : (s.setRoster x).legs = s.legs := rfl
@[simp] theorem State.setRoster_meter (s : State) (x : List (Option RosterEntry)) : (s.setRoster x).meter = s.meter := rfl
@[simp] theorem State.setRoster_bias (s : State) (x : List (Option RosterEntry)) : (s.setRoster x).bias = s.bias := rfl
@[simp] theorem State.setRoster_rail (s : State) (x : List (Option RosterEntry)) : (s.setRoster x).rail = s.rail := rfl
@[simp] theorem State.setRoster_params (s : State) (x : List (Option RosterEntry)) : (s.setRoster x).params = s.params := rfl
@[simp] theorem State.setRoster_boundaries (s : State) (x : List (Option RosterEntry)) : (s.setRoster x).boundaries = s.boundaries := rfl
@[simp] theorem State.setRoster_inReset (s : State) (x : List (Option RosterEntry)) : (s.setRoster x).inReset = s.inReset := rfl
@[simp] theorem State.setRoster_pending (s : State) (x : List (Option RosterEntry)) : (s.setRoster x).pending = s.pending := rfl
@[simp] theorem State.setRoster_leg (s : State) (x : List (Option RosterEntry)) (l : LegId) : (s.setRoster x).leg l = s.leg l := rfl
@[simp] theorem State.setRoster_record (s : State) (x : List (Option RosterEntry)) (l : LegId) (d : Nat) :
    (s.setRoster x).record l d = s.record l d := rfl

@[simp] theorem State.setCandidates_iface (s : State) (x : List Candidate) : (s.setCandidates x).iface = s.iface := rfl
@[simp] theorem State.setCandidates_roster (s : State) (x : List Candidate) : (s.setCandidates x).roster = s.roster := rfl
@[simp] theorem State.setCandidates_candidates (s : State) (x : List Candidate) : (s.setCandidates x).candidates = x := rfl
@[simp] theorem State.setCandidates_legs (s : State) (x : List Candidate) : (s.setCandidates x).legs = s.legs := rfl
@[simp] theorem State.setCandidates_meter (s : State) (x : List Candidate) : (s.setCandidates x).meter = s.meter := rfl
@[simp] theorem State.setCandidates_bias (s : State) (x : List Candidate) : (s.setCandidates x).bias = s.bias := rfl
@[simp] theorem State.setCandidates_rail (s : State) (x : List Candidate) : (s.setCandidates x).rail = s.rail := rfl
@[simp] theorem State.setCandidates_params (s : State) (x : List Candidate) : (s.setCandidates x).params = s.params := rfl
@[simp] theorem State.setCandidates_boundaries (s : State) (x : List Candidate) : (s.setCandidates x).boundaries = s.boundaries := rfl
@[simp] theorem State.setCandidates_inReset (s : State) (x : List Candidate) : (s.setCandidates x).inReset = s.inReset := rfl
@[simp] theorem State.setCandidates_pending (s : State) (x : List Candidate) : (s.setCandidates x).pending = s.pending := rfl
@[simp] theorem State.setCandidates_leg (s : State) (x : List Candidate) (l : LegId) : (s.setCandidates x).leg l = s.leg l := rfl
@[simp] theorem State.setCandidates_record (s : State) (x : List Candidate) (l : LegId) (d : Nat) :
    (s.setCandidates x).record l d = s.record l d := rfl

@[simp] theorem State.setMeter_iface (s : State) (x : Meter) : (s.setMeter x).iface = s.iface := rfl
@[simp] theorem State.setMeter_roster (s : State) (x : Meter) : (s.setMeter x).roster = s.roster := rfl
@[simp] theorem State.setMeter_candidates (s : State) (x : Meter) : (s.setMeter x).candidates = s.candidates := rfl
@[simp] theorem State.setMeter_legs (s : State) (x : Meter) : (s.setMeter x).legs = s.legs := rfl
@[simp] theorem State.setMeter_meter (s : State) (x : Meter) : (s.setMeter x).meter = x := rfl
@[simp] theorem State.setMeter_bias (s : State) (x : Meter) : (s.setMeter x).bias = s.bias := rfl
@[simp] theorem State.setMeter_rail (s : State) (x : Meter) : (s.setMeter x).rail = s.rail := rfl
@[simp] theorem State.setMeter_params (s : State) (x : Meter) : (s.setMeter x).params = s.params := rfl
@[simp] theorem State.setMeter_boundaries (s : State) (x : Meter) : (s.setMeter x).boundaries = s.boundaries := rfl
@[simp] theorem State.setMeter_inReset (s : State) (x : Meter) : (s.setMeter x).inReset = s.inReset := rfl
@[simp] theorem State.setMeter_pending (s : State) (x : Meter) : (s.setMeter x).pending = s.pending := rfl
@[simp] theorem State.setMeter_leg (s : State) (x : Meter) (l : LegId) : (s.setMeter x).leg l = s.leg l := rfl
@[simp] theorem State.setMeter_record (s : State) (x : Meter) (l : LegId) (d : Nat) :
    (s.setMeter x).record l d = s.record l d := rfl

@[simp] theorem State.setBias_iface (s : State) (x : Bias) : (s.setBias x).iface = s.iface := rfl
@[simp] theorem State.setBias_roster (s : State) (x : Bias) : (s.setBias x).roster = s.roster := rfl
@[simp] theorem State.setBias_candidates (s : State) (x : Bias) : (s.setBias x).candidates = s.candidates := rfl
@[simp] theorem State.setBias_legs (s : State) (x : Bias) : (s.setBias x).legs = s.legs := rfl
@[simp] theorem State.setBias_meter (s : State) (x : Bias) : (s.setBias x).meter = s.meter := rfl
@[simp] theorem State.setBias_bias (s : State) (x : Bias) : (s.setBias x).bias = x := rfl
@[simp] theorem State.setBias_rail (s : State) (x : Bias) : (s.setBias x).rail = s.rail := rfl
@[simp] theorem State.setBias_params (s : State) (x : Bias) : (s.setBias x).params = s.params := rfl
@[simp] theorem State.setBias_boundaries (s : State) (x : Bias) : (s.setBias x).boundaries = s.boundaries := rfl
@[simp] theorem State.setBias_inReset (s : State) (x : Bias) : (s.setBias x).inReset = s.inReset := rfl
@[simp] theorem State.setBias_pending (s : State) (x : Bias) : (s.setBias x).pending = s.pending := rfl
@[simp] theorem State.setBias_leg (s : State) (x : Bias) (l : LegId) : (s.setBias x).leg l = s.leg l := rfl
@[simp] theorem State.setBias_record (s : State) (x : Bias) (l : LegId) (d : Nat) :
    (s.setBias x).record l d = s.record l d := rfl

@[simp] theorem State.setRail_iface (s : State) (x : Rail) : (s.setRail x).iface = s.iface := rfl
@[simp] theorem State.setRail_roster (s : State) (x : Rail) : (s.setRail x).roster = s.roster := rfl
@[simp] theorem State.setRail_candidates (s : State) (x : Rail) : (s.setRail x).candidates = s.candidates := rfl
@[simp] theorem State.setRail_legs (s : State) (x : Rail) : (s.setRail x).legs = s.legs := rfl
@[simp] theorem State.setRail_meter (s : State) (x : Rail) : (s.setRail x).meter = s.meter := rfl
@[simp] theorem State.setRail_bias (s : State) (x : Rail) : (s.setRail x).bias = s.bias := rfl
@[simp] theorem State.setRail_rail (s : State) (x : Rail) : (s.setRail x).rail = x := rfl
@[simp] theorem State.setRail_params (s : State) (x : Rail) : (s.setRail x).params = s.params := rfl
@[simp] theorem State.setRail_boundaries (s : State) (x : Rail) : (s.setRail x).boundaries = s.boundaries := rfl
@[simp] theorem State.setRail_inReset (s : State) (x : Rail) : (s.setRail x).inReset = s.inReset := rfl
@[simp] theorem State.setRail_pending (s : State) (x : Rail) : (s.setRail x).pending = s.pending := rfl
@[simp] theorem State.setRail_leg (s : State) (x : Rail) (l : LegId) : (s.setRail x).leg l = s.leg l := rfl
@[simp] theorem State.setRail_record (s : State) (x : Rail) (l : LegId) (d : Nat) :
    (s.setRail x).record l d = s.record l d := rfl

@[simp] theorem State.setParams_iface (s : State) (x : Activation) : (s.setParams x).iface = s.iface := rfl
@[simp] theorem State.setParams_roster (s : State) (x : Activation) : (s.setParams x).roster = s.roster := rfl
@[simp] theorem State.setParams_candidates (s : State) (x : Activation) : (s.setParams x).candidates = s.candidates := rfl
@[simp] theorem State.setParams_legs (s : State) (x : Activation) : (s.setParams x).legs = s.legs := rfl
@[simp] theorem State.setParams_meter (s : State) (x : Activation) : (s.setParams x).meter = s.meter := rfl
@[simp] theorem State.setParams_bias (s : State) (x : Activation) : (s.setParams x).bias = s.bias := rfl
@[simp] theorem State.setParams_rail (s : State) (x : Activation) : (s.setParams x).rail = s.rail := rfl
@[simp] theorem State.setParams_params (s : State) (x : Activation) : (s.setParams x).params = x := rfl
@[simp] theorem State.setParams_boundaries (s : State) (x : Activation) : (s.setParams x).boundaries = s.boundaries := rfl
@[simp] theorem State.setParams_inReset (s : State) (x : Activation) : (s.setParams x).inReset = s.inReset := rfl
@[simp] theorem State.setParams_pending (s : State) (x : Activation) : (s.setParams x).pending = s.pending := rfl
@[simp] theorem State.setParams_leg (s : State) (x : Activation) (l : LegId) : (s.setParams x).leg l = s.leg l := rfl
@[simp] theorem State.setParams_record (s : State) (x : Activation) (l : LegId) (d : Nat) :
    (s.setParams x).record l d = s.record l d := rfl

/-! ## One leg -/

@[simp] theorem State.setLeg_iface (s : State) (l : LegId) (x : Leg) : (s.setLeg l x).iface = s.iface := rfl
@[simp] theorem State.setLeg_roster (s : State) (l : LegId) (x : Leg) : (s.setLeg l x).roster = s.roster := rfl
@[simp] theorem State.setLeg_candidates (s : State) (l : LegId) (x : Leg) : (s.setLeg l x).candidates = s.candidates := rfl
@[simp] theorem State.setLeg_meter (s : State) (l : LegId) (x : Leg) : (s.setLeg l x).meter = s.meter := rfl
@[simp] theorem State.setLeg_bias (s : State) (l : LegId) (x : Leg) : (s.setLeg l x).bias = s.bias := rfl
@[simp] theorem State.setLeg_rail (s : State) (l : LegId) (x : Leg) : (s.setLeg l x).rail = s.rail := rfl
@[simp] theorem State.setLeg_params (s : State) (l : LegId) (x : Leg) : (s.setLeg l x).params = s.params := rfl
@[simp] theorem State.setLeg_boundaries (s : State) (l : LegId) (x : Leg) : (s.setLeg l x).boundaries = s.boundaries := rfl
@[simp] theorem State.setLeg_inReset (s : State) (l : LegId) (x : Leg) : (s.setLeg l x).inReset = s.inReset := rfl
@[simp] theorem State.setLeg_pending (s : State) (l : LegId) (x : Leg) : (s.setLeg l x).pending = s.pending := rfl
@[simp] theorem State.mapLeg_iface (s : State) (l : LegId) (g : Leg → Leg) : (s.mapLeg l g).iface = s.iface := rfl
@[simp] theorem State.mapLeg_roster (s : State) (l : LegId) (g : Leg → Leg) : (s.mapLeg l g).roster = s.roster := rfl
@[simp] theorem State.mapLeg_candidates (s : State) (l : LegId) (g : Leg → Leg) : (s.mapLeg l g).candidates = s.candidates := rfl
@[simp] theorem State.mapLeg_meter (s : State) (l : LegId) (g : Leg → Leg) : (s.mapLeg l g).meter = s.meter := rfl
@[simp] theorem State.mapLeg_bias (s : State) (l : LegId) (g : Leg → Leg) : (s.mapLeg l g).bias = s.bias := rfl
@[simp] theorem State.mapLeg_rail (s : State) (l : LegId) (g : Leg → Leg) : (s.mapLeg l g).rail = s.rail := rfl
@[simp] theorem State.mapLeg_params (s : State) (l : LegId) (g : Leg → Leg) : (s.mapLeg l g).params = s.params := rfl
@[simp] theorem State.mapLeg_boundaries (s : State) (l : LegId) (g : Leg → Leg) : (s.mapLeg l g).boundaries = s.boundaries := rfl
@[simp] theorem State.mapLeg_inReset (s : State) (l : LegId) (g : Leg → Leg) : (s.mapLeg l g).inReset = s.inReset := rfl
@[simp] theorem State.mapLeg_pending (s : State) (l : LegId) (g : Leg → Leg) : (s.mapLeg l g).pending = s.pending := rfl
@[simp] theorem State.setRecord_iface (s : State) (l : LegId) (d : Nat) (r : Option DropRecord) :
    (s.setRecord l d r).iface = s.iface := rfl
@[simp] theorem State.setRecord_roster (s : State) (l : LegId) (d : Nat) (r : Option DropRecord) :
    (s.setRecord l d r).roster = s.roster := rfl
@[simp] theorem State.setRecord_candidates (s : State) (l : LegId) (d : Nat) (r : Option DropRecord) :
    (s.setRecord l d r).candidates = s.candidates := rfl
@[simp] theorem State.setRecord_meter (s : State) (l : LegId) (d : Nat) (r : Option DropRecord) :
    (s.setRecord l d r).meter = s.meter := rfl
@[simp] theorem State.setRecord_bias (s : State) (l : LegId) (d : Nat) (r : Option DropRecord) :
    (s.setRecord l d r).bias = s.bias := rfl
@[simp] theorem State.setRecord_rail (s : State) (l : LegId) (d : Nat) (r : Option DropRecord) :
    (s.setRecord l d r).rail = s.rail := rfl
@[simp] theorem State.setRecord_params (s : State) (l : LegId) (d : Nat) (r : Option DropRecord) :
    (s.setRecord l d r).params = s.params := rfl
@[simp] theorem State.setRecord_boundaries (s : State) (l : LegId) (d : Nat) (r : Option DropRecord) :
    (s.setRecord l d r).boundaries = s.boundaries := rfl
@[simp] theorem State.setRecord_inReset (s : State) (l : LegId) (d : Nat) (r : Option DropRecord) :
    (s.setRecord l d r).inReset = s.inReset := rfl
@[simp] theorem State.setRecord_pending (s : State) (l : LegId) (d : Nat) (r : Option DropRecord) :
    (s.setRecord l d r).pending = s.pending := rfl

@[simp] theorem State.setLeg_leg_same (s : State) (l : LegId) (x : Leg) : (s.setLeg l x).leg l = x := by
  simp [State.setLeg, State.leg]

theorem State.setLeg_leg_other (s : State) {l k : LegId} (x : Leg) (h : k ≠ l) : (s.setLeg l x).leg k = s.leg k := by
  simp [State.setLeg, State.leg, Four.get_set_other, h]

theorem State.setLeg_leg (s : State) (l k : LegId) (x : Leg) : (s.setLeg l x).leg k = if k = l then x else s.leg k := by
  simp [State.setLeg, State.leg, Four.get_set]

@[simp] theorem State.mapLeg_leg_same (s : State) (l : LegId) (g : Leg → Leg) : (s.mapLeg l g).leg l = g (s.leg l) := by
  simp [State.mapLeg]

theorem State.mapLeg_leg_other (s : State) {l k : LegId} (g : Leg → Leg) (h : k ≠ l) :
    (s.mapLeg l g).leg k = s.leg k := by
  simp [State.mapLeg, State.setLeg_leg_other, h]

theorem State.mapLeg_leg (s : State) (l k : LegId) (g : Leg → Leg) :
    (s.mapLeg l g).leg k = if k = l then g (s.leg l) else s.leg k := by
  simp [State.mapLeg, State.setLeg_leg]

@[simp] theorem State.setLeg_self (s : State) (l : LegId) : s.setLeg l (s.leg l) = s := by
  simp [State.setLeg, State.leg]

/-! ## One record -/

@[simp] theorem Leg.setRecord_record_same (x : Leg) {d : Nat} (r : Option DropRecord) (h : d < x.drops.length) :
    (x.setRecord d r).record d = r := by
  simp [Leg.setRecord, Leg.record, h]

theorem Leg.setRecord_record_other (x : Leg) {d e : Nat} (r : Option DropRecord) (h : e ≠ d) :
    (x.setRecord d r).record e = x.record e := by
  simp [Leg.setRecord, Leg.record, Ne.symm h]

@[simp] theorem Leg.setRecord_drops_length (x : Leg) (d : Nat) (r : Option DropRecord) :
    (x.setRecord d r).drops.length = x.drops.length := by
  simp [Leg.setRecord]

/-- A record that is live stands in its leg's drop table. -/
theorem Leg.record_lt {x : Leg} {d : Nat} {r : DropRecord} (h : x.record d = some r) : d < x.drops.length := by
  unfold Leg.record at h
  by_contra hn
  simp [List.getElem?_eq_none (Nat.le_of_not_lt hn)] at h

theorem State.setRecord_record_same (s : State) (l : LegId) {d : Nat} (r : Option DropRecord)
    (h : d < (s.leg l).drops.length) : (s.setRecord l d r).record l d = r := by
  simp [State.setRecord, State.record, h]

theorem State.setRecord_record_other (s : State) {l k : LegId} {d e : Nat} (r : Option DropRecord)
    (h : k ≠ l ∨ e ≠ d) : (s.setRecord l d r).record k e = s.record k e := by
  by_cases hk : k = l
  · subst hk
    have he : e ≠ d := h.resolve_left (fun hn => hn rfl)
    simp [State.setRecord, State.record, Leg.setRecord_record_other, he]
  · simp [State.setRecord, State.record, State.setLeg_leg_other, hk]

theorem State.setRecord_leg_other (s : State) {l k : LegId} (d : Nat) (r : Option DropRecord) (h : k ≠ l) :
    (s.setRecord l d r).leg k = s.leg k := by
  simp [State.setRecord, State.setLeg_leg_other, h]

/-! ## Notices -/

@[simp] theorem State.notify_roster (s : State) (n : Notice) : (s.notify n).roster = s.roster := rfl
@[simp] theorem State.notify_candidates (s : State) (n : Notice) : (s.notify n).candidates = s.candidates := rfl
@[simp] theorem State.notify_legs (s : State) (n : Notice) : (s.notify n).legs = s.legs := rfl
@[simp] theorem State.notify_meter (s : State) (n : Notice) : (s.notify n).meter = s.meter := rfl
@[simp] theorem State.notify_bias (s : State) (n : Notice) : (s.notify n).bias = s.bias := rfl
@[simp] theorem State.notify_rail (s : State) (n : Notice) : (s.notify n).rail = s.rail := rfl
@[simp] theorem State.notify_params (s : State) (n : Notice) : (s.notify n).params = s.params := rfl
@[simp] theorem State.notify_boundaries (s : State) (n : Notice) : (s.notify n).boundaries = s.boundaries := rfl
@[simp] theorem State.notify_inReset (s : State) (n : Notice) : (s.notify n).inReset = s.inReset := rfl
@[simp] theorem State.notify_pending (s : State) (n : Notice) : (s.notify n).pending = s.pending := rfl
@[simp] theorem State.notify_iface (s : State) (n : Notice) : (s.notify n).iface = s.iface.place n := rfl
@[simp] theorem State.notify_leg (s : State) (n : Notice) (l : LegId) : (s.notify n).leg l = s.leg l := rfl
@[simp] theorem State.notify_record (s : State) (n : Notice) (l : LegId) (d : Nat) :
    (s.notify n).record l d = s.record l d := rfl

@[simp] theorem State.arbitrate_roster (s : State) : s.arbitrate.roster = s.roster := rfl
@[simp] theorem State.arbitrate_candidates (s : State) : s.arbitrate.candidates = s.candidates := rfl
@[simp] theorem State.arbitrate_legs (s : State) : s.arbitrate.legs = s.legs := rfl
@[simp] theorem State.arbitrate_meter (s : State) : s.arbitrate.meter = s.meter := rfl
@[simp] theorem State.arbitrate_bias (s : State) : s.arbitrate.bias = s.bias := rfl
@[simp] theorem State.arbitrate_rail (s : State) : s.arbitrate.rail = s.rail := rfl
@[simp] theorem State.arbitrate_params (s : State) : s.arbitrate.params = s.params := rfl
@[simp] theorem State.arbitrate_boundaries (s : State) : s.arbitrate.boundaries = s.boundaries := rfl
@[simp] theorem State.arbitrate_inReset (s : State) : s.arbitrate.inReset = s.inReset := rfl
@[simp] theorem State.arbitrate_pending (s : State) : s.arbitrate.pending = s.pending := rfl
@[simp] theorem State.arbitrate_iface (s : State) : s.arbitrate.iface = s.iface.arbitrate := rfl
@[simp] theorem State.arbitrate_leg (s : State) (l : LegId) : s.arbitrate.leg l = s.leg l := rfl
@[simp] theorem State.arbitrate_record (s : State) (l : LegId) (d : Nat) : s.arbitrate.record l d = s.record l d := rfl

@[simp] theorem State.hunt_roster (s : State) : s.hunt.roster = s.roster := rfl
@[simp] theorem State.hunt_candidates (s : State) : s.hunt.candidates = s.candidates := rfl
@[simp] theorem State.hunt_legs (s : State) : s.hunt.legs = s.legs := rfl
@[simp] theorem State.hunt_meter (s : State) : s.hunt.meter = s.meter := rfl
@[simp] theorem State.hunt_bias (s : State) : s.hunt.bias = s.bias := rfl
@[simp] theorem State.hunt_rail (s : State) : s.hunt.rail = s.rail := rfl
@[simp] theorem State.hunt_params (s : State) : s.hunt.params = s.params := rfl
@[simp] theorem State.hunt_boundaries (s : State) : s.hunt.boundaries = s.boundaries := rfl
@[simp] theorem State.hunt_inReset (s : State) : s.hunt.inReset = s.inReset := rfl
@[simp] theorem State.hunt_pending (s : State) : s.hunt.pending = s.pending := rfl

end Sys2Proof.Machine
end

