-- ==== Sys2Proof/Laws/Ops.lean ====
section
/-! SUPPORT. One lemma for each shared operation, saying once what it can do. -/

namespace Sys2Proof.Machine

/-! ## Events -/

/-- Outside a reset an event has its effect, and then the arbiter looks at the line. -/
theorem event_alive (act : State → State) {s : State} (h : s.inReset = none) :
    event act s = .next (act s).arbitrate := by
  simp [event, h]

/-- In reset an event does nothing. -/
theorem event_inReset (act : State → State) {s : State} (h : s.inReset ≠ none) : event act s = .next s := by
  have : s.inReset.isSome = true := Option.isSome_iff_ne_none.mpr h
  simp [event, this]

/-- An event always answers a next state. -/
theorem event_next (act : State → State) (s : State) : ∃ t, event act s = .next t := ⟨_, rfl⟩

/-! ## The line out -/

theorem Interface.arbitrate_sending (i : Interface) {x : Sending} (h : i.lineOut = some x) : i.arbitrate = i := by
  simp [Interface.arbitrate, h]

/-- The arbiter never changes the buffer, the receive side, the pending reset or the cause. -/
theorem Interface.arbitrate_frame (i : Interface) :
    i.arbitrate.buffer = i.buffer ∧ i.arbitrate.rx = i.rx ∧ i.arbitrate.resetPending = i.resetPending
      ∧ i.arbitrate.cause = i.cause := by
  unfold Interface.arbitrate Interface.send
  split
  · simp
  · split
    · simp
    · split
      · simp
      · split <;> simp

/-- After the arbiter the line is idle only when nothing waits (R170). -/
theorem Interface.arbitrate_idle (i : Interface) (h : i.arbitrate.lineOut = none) :
    i.busy = [] ∧ i.replies = [] ∧ i.notices = [] ∧ i.arbitrate = i := by
  unfold Interface.arbitrate Interface.send at h ⊢
  cases hl : i.lineOut with
  | some x => simp [hl] at h
  | none =>
    cases hb : i.busy with
    | cons b bs => simp [hl, hb] at h
    | nil =>
      cases hr : i.replies with
      | cons r rs => simp [hl, hb, hr] at h
      | nil =>
        cases hn : i.notices with
        | cons n ns => simp [hl, hb, hr, hn] at h
        | nil => simp

/-- The arbiter is idempotent. -/
theorem Interface.arbitrate_arbitrate (i : Interface) : i.arbitrate.arbitrate = i.arbitrate := by
  cases h : i.arbitrate.lineOut with
  | some x => exact Interface.arbitrate_sending _ h
  | none => rw [(Interface.arbitrate_idle i h).2.2.2, (Interface.arbitrate_idle i h).2.2.2]

/-- A notice placed leaves all of the interface but the queue and the lost mark. -/
theorem Interface.place_frame (i : Interface) (n : Notice) :
    (i.place n).rx = i.rx ∧ (i.place n).buffer = i.buffer ∧ (i.place n).busy = i.busy
      ∧ (i.place n).replies = i.replies ∧ (i.place n).lineOut = i.lineOut
      ∧ (i.place n).resetPending = i.resetPending ∧ (i.place n).cause = i.cause := by
  unfold Interface.place
  split <;> simp

theorem Interface.place_length (i : Interface) (n : Notice) (h : i.notices.length ≤ Config.maxNotices) :
    (i.place n).notices.length ≤ Config.maxNotices := by
  unfold Interface.place
  split
  · simp; omega
  · exact h

/-! ## Requests -/

/-- The state in which a request acts: its place is occupied and the receive side is HUNTING. -/
def State.took (s : State) (tag code : Byte) : State :=
  s.setIface { s.iface with rx := none, buffer := s.iface.buffer ++ [⟨tag, code⟩] }

/-- A request that is taken acts in one event, and its reply waits at the tail (R168, R170). -/
theorem event_request (tag code : Byte) (act : State → Answer) {s : State} (h : s.takes) :
    event (frameRequest tag code act) s =
      .next ((act (s.took tag code)).state.reply
        { tag := tag, request := code, code := (act (s.took tag code)).code,
          values := (act (s.took tag code)).values }).arbitrate := by
  obtain ⟨h1, h2, h3⟩ := h
  rw [event_alive _ h1]
  have hp : s.hunt.iface.resetPending ≠ true := by simp [State.hunt, h2]
  have hb : ¬ Config.bufferPlaces ≤ s.hunt.iface.buffer.length := by
    simp only [State.hunt, State.setIface_iface]; omega
  unfold frameRequest takeRequest
  rw [if_neg hp, if_neg hb]
  rfl

/-- A request that does not touch the interface leaves it answered. -/
theorem event_request_answered (tag code : Byte) (act : State → Answer) {s : State} (h : s.takes)
    (hi : (act (s.took tag code)).state.iface = (s.took tag code).iface) :
    event (frameRequest tag code act) s =
      .next { (act (s.took tag code)).state with
              iface := s.iface.answered tag code (act (s.took tag code)).code (act (s.took tag code)).values } := by
  rw [event_request tag code act h]
  show Host.Outcome.next (State.setIface _ (Interface.arbitrate _)) = _
  simp only [State.reply, State.setIface_iface, hi]
  rfl

/-- While a requested reset is pending, a request frame only leaves the receive side HUNTING (R173). -/
theorem event_request_pending (tag code : Byte) (act : State → Answer) {s : State} (h : s.inReset = none)
    (hp : s.iface.resetPending = true) : event (frameRequest tag code act) s = .next s.hunt.arbitrate := by
  rw [event_alive _ h]
  simp [frameRequest, takeRequest, State.hunt, hp]

/-- With all places occupied the frame's tag joins the busy list, when it has room (R167). -/
theorem event_request_busy (tag code : Byte) (act : State → Answer) {s : State} (h : s.inReset = none)
    (hp : s.iface.resetPending = false) (hf : Config.bufferPlaces ≤ s.iface.buffer.length)
    (hb : s.iface.busy.length < Config.busyPlaces) :
    event (frameRequest tag code act) s =
      .next (s.setIface { s.iface with rx := none, busy := s.iface.busy ++ [⟨tag, code⟩] }).arbitrate := by
  rw [event_alive _ h]
  simp [frameRequest, takeRequest, State.hunt, hp, hf, hb, State.setIface]

@[simp] theorem parsed_some {α : Type} (parse : List Byte → Option α) (act : α → State → Answer) {p : List Byte}
    {f : α} (h : parse p = some f) (s : State) : parsed parse act p s = act f s := by
  simp [parsed, h]

/-- A payload that cannot be read is answered MALFORMED and changes nothing (R168). -/
theorem parsed_none {α : Type} (parse : List Byte → Option α) (act : α → State → Answer) {p : List Byte}
    (h : parse p = none) (s : State) : parsed parse act p s = refuse .malformed s := by
  simp [parsed, h]

/-- A request about one leg acts on it, or is refused OUT-OF-RANGE. -/
theorem withLeg_some {n : Nat} {l : LegId} (h : Quad.ofNat? n = some l) (act : LegId → State → Answer) (s : State) :
    withLeg n act s = act l s := by
  simp [withLeg, h]

theorem withLeg_none {n : Nat} (h : Quad.ofNat? n = none) (act : LegId → State → Answer) (s : State) :
    withLeg n act s = refuse .outOfRange s := by
  simp [withLeg, h]

/-- The blocks other than the interface, as a request finds them. -/
theorem State.took_frame (s : State) (tag code : Byte) :
    (s.took tag code).roster = s.roster ∧ (s.took tag code).candidates = s.candidates
      ∧ (s.took tag code).legs = s.legs ∧ (s.took tag code).meter = s.meter ∧ (s.took tag code).bias = s.bias
      ∧ (s.took tag code).rail = s.rail ∧ (s.took tag code).params = s.params
      ∧ (s.took tag code).boundaries = s.boundaries ∧ (s.took tag code).inReset = s.inReset
      ∧ (s.took tag code).pending = s.pending := ⟨rfl, rfl, rfl, rfl, rfl, rfl, rfl, rfl, rfl, rfl⟩

@[simp] theorem State.took_leg (s : State) (tag code : Byte) (l : LegId) : (s.took tag code).leg l = s.leg l := rfl
@[simp] theorem State.took_record (s : State) (tag code : Byte) (l : LegId) (d : Nat) :
    (s.took tag code).record l d = s.record l d := rfl
@[simp] theorem State.took_rosterEntry (s : State) (tag code : Byte) (t : FactoryTag) :
    (s.took tag code).rosterEntry t = s.rosterEntry t := rfl
@[simp] theorem State.took_candidate (s : State) (tag code : Byte) (t : FactoryTag) :
    (s.took tag code).candidate t = s.candidate t := rfl

/-! ## Tables -/

/-- The lowest free place of a table is free, and every place before it is in use. -/
theorem firstFree_spec {α : Type} {t : List (Option α)} {i : Nat} (h : firstFree t = some i) :
    t[i]? = some none ∧ ∀ j, j < i → ∃ a, t[j]? = some (some a) := by
  induction t generalizing i with
  | nil => simp [firstFree] at h
  | cons x xs ih =>
    cases x with
    | none =>
      simp [firstFree] at h
      subst h
      simp
    | some a =>
      simp only [firstFree, Option.map_eq_some_iff] at h
      obtain ⟨k, hk, rfl⟩ := h
      obtain ⟨h1, h2⟩ := ih hk
      refine ⟨by simpa using h1, ?_⟩
      intro j hj
      cases j with
      | zero => exact ⟨a, rfl⟩
      | succ j => simpa using h2 j (by omega)

/-- A table has no free place exactly when every place is in use. -/
theorem firstFree_none {α : Type} {t : List (Option α)} : firstFree t = none ↔ ∀ x ∈ t, x.isSome = true := by
  induction t with
  | nil => simp [firstFree]
  | cons x xs ih =>
    cases x with
    | none => simp [firstFree]
    | some a => simp [firstFree, ih]

theorem findTag_spec {tag : FactoryTag} {t : List (Option RosterEntry)} {k i : Nat} {e : RosterEntry}
    (h : findTag tag k t = some (i, e)) : k ≤ i ∧ t[i - k]? = some (some e) ∧ e.tag = tag := by
  induction t generalizing k with
  | nil => simp [findTag] at h
  | cons x xs ih =>
    cases x with
    | none =>
      obtain ⟨h1, h2, h3⟩ := ih (k := k + 1) h
      refine ⟨by omega, ?_, h3⟩
      have : i - k = (i - (k + 1)) + 1 := by omega
      rw [this]; simpa using h2
    | some f =>
      simp only [findTag] at h
      split at h
      · rename_i hf
        cases h
        simp [hf]
      · obtain ⟨h1, h2, h3⟩ := ih (k := k + 1) h
        refine ⟨by omega, ?_, h3⟩
        have : i - k = (i - (k + 1)) + 1 := by omega
        rw [this]; simpa using h2

/-- The entry found by its tag is in use at its index and holds the tag. -/
theorem State.rosterEntry_spec {s : State} {tag : FactoryTag} {i : Nat} {e : RosterEntry}
    (h : s.rosterEntry tag = some (i, e)) : s.rosterAt i = some e ∧ e.tag = tag := by
  obtain ⟨-, h2, h3⟩ := findTag_spec h
  refine ⟨?_, h3⟩
  simp only [Nat.sub_zero] at h2
  simp [State.rosterAt, h2]

/-- No entry in use holds a tag that is not found. -/
theorem findTag_none {tag : FactoryTag} {t : List (Option RosterEntry)} {k : Nat} (h : findTag tag k t = none) :
    ∀ e, some e ∈ t → e.tag ≠ tag := by
  induction t generalizing k with
  | nil => simp
  | cons x xs ih =>
    cases x with
    | none =>
      intro e he
      simp at he
      exact ih (k := k + 1) h e he
    | some f =>
      simp only [findTag] at h
      split at h
      · simp at h
      · rename_i hf
        intro e he
        simp at he
        rcases he with rfl | he
        · exact hf
        · exact ih h e he

/-! ## The roster and the candidates -/

@[simp] theorem State.setRosterAt_roster (s : State) (i : Nat) (e : Option RosterEntry) :
    (s.setRosterAt i e).roster = s.roster.set i e := rfl

/-- An unlink touches the roster only. -/
theorem State.unlink_frame (s : State) (i : Nat) :
    (s.unlink i).iface = s.iface ∧ (s.unlink i).candidates = s.candidates ∧ (s.unlink i).legs = s.legs
      ∧ (s.unlink i).meter = s.meter ∧ (s.unlink i).bias = s.bias ∧ (s.unlink i).rail = s.rail
      ∧ (s.unlink i).params = s.params ∧ (s.unlink i).boundaries = s.boundaries
      ∧ (s.unlink i).inReset = s.inReset ∧ (s.unlink i).pending = s.pending := by
  unfold State.unlink
  split <;> simp [State.setRosterAt]

/-- Noting a tag as heard touches the roster only. -/
theorem State.heard_frame (s : State) (tag : FactoryTag) (l : LegId) (n : Cycle) :
    (s.heard tag l n).iface = s.iface ∧ (s.heard tag l n).candidates = s.candidates
      ∧ (s.heard tag l n).legs = s.legs ∧ (s.heard tag l n).meter = s.meter ∧ (s.heard tag l n).bias = s.bias
      ∧ (s.heard tag l n).rail = s.rail ∧ (s.heard tag l n).params = s.params
      ∧ (s.heard tag l n).boundaries = s.boundaries ∧ (s.heard tag l n).inReset = s.inReset
      ∧ (s.heard tag l n).pending = s.pending := by
  unfold State.heard
  split <;> simp [State.setRosterAt]

/-- A candidate found by a tag is on the list and holds it. -/
theorem State.candidate_spec {s : State} {tag : FactoryTag} {c : Candidate} (h : s.candidate tag = some c) :
    c ∈ s.candidates ∧ c.tag = tag := by
  refine ⟨List.mem_of_find?_eq_some h, ?_⟩
  have := List.find?_some h
  simpa using this

/-! ## The directive queue -/

/-- Queueing a directive for a drop leaves the entries of every other drop, and their order, as they stand. -/
theorem enqueue_others (d : Nat) (new : Directive) (ident : Option Identity) (q : List QueueEntry)
    (hn : new.drop? = some d) :
    (enqueue d new ident q).filter (fun e => decide (e.dir.drop? ≠ some d)) =
      q.filter (fun e => decide (e.dir.drop? ≠ some d)) := by
  have meet_drop : ∀ e : QueueEntry, e.dir.drop? = some d → (e.meet new ident).dir.drop? = some d := by
    intro e he
    cases hd : e.dir <;> cases new <;>
      simp_all [QueueEntry.meet, QueueEntry.replace, Directive.drop?]
  induction q with
  | nil => simp [enqueue, hn]
  | cons e es ih =>
    unfold enqueue
    by_cases h : e.dir.drop? = some d
    · simp [h, meet_drop e h]
    · simpa [h] using ih

/-- Queueing a directive makes the queue at most one entry longer. -/
theorem enqueue_length (d : Nat) (new : Directive) (ident : Option Identity) (q : List QueueEntry) :
    (enqueue d new ident q).length ≤ q.length + 1 := by
  induction q with
  | nil => simp [enqueue]
  | cons e es ih =>
    unfold enqueue
    split
    · simp
    · simp; omega

/-- A leg holds at most 16 Parks after a Park is queued, when it did before (R48, R49). -/
theorem Leg.park_count (x : Leg) (tag : FactoryTag) (h : parkCount x.queue ≤ Config.maxParks) :
    parkCount (x.park tag).queue ≤ Config.maxParks := by
  unfold Leg.park
  split
  · exact h
  · split
    · rename_i hp
      have : parkCount (x.queue ++ [{ dir := .park tag, ident := none, follow := FollowOn.empty }])
          = parkCount x.queue + 1 := by
        simp only [parkCount, List.filter_append, List.length_append]
        rfl
      simp only [this]
      omega
    · exact h

/-! ## The light history and the window scan -/

/-- The light recorded is a leg's whole history from then on, and nothing else of any leg. -/
@[simp] theorem State.recordLight_same (s : State) (l : LegId) (light : BitVec 48) :
    (s.recordLight l light).leg l =
      { s.leg l with receiver := { (s.leg l).receiver with lightHistory := light } } := by
  cases l <;> rfl

theorem State.recordLight_other (s : State) {l k : LegId} (light : BitVec 48) (h : k ≠ l) :
    (s.recordLight l light).leg k = s.leg k := by
  cases l <;> cases k <;> first | rfl | exact absurd rfl h

/-- Light recorded touches the legs only. -/
theorem State.recordLight_frame (s : State) (l : LegId) (light : BitVec 48) :
    (s.recordLight l light).iface = s.iface ∧ (s.recordLight l light).roster = s.roster
      ∧ (s.recordLight l light).candidates = s.candidates ∧ (s.recordLight l light).meter = s.meter
      ∧ (s.recordLight l light).bias = s.bias ∧ (s.recordLight l light).rail = s.rail
      ∧ (s.recordLight l light).params = s.params ∧ (s.recordLight l light).boundaries = s.boundaries
      ∧ (s.recordLight l light).inReset = s.inReset ∧ (s.recordLight l light).pending = s.pending :=
  ⟨rfl, rfl, rfl, rfl, rfl, rfl, rfl, rfl, rfl, rfl⟩

/-- A change of the window scan is a change of nothing else. -/
theorem Leg.mapScan_eq (x : Leg) (f : WindowScan → WindowScan) :
    x.mapScan f = { x with receiver := { x.receiver with scan := x.receiver.scan.map f } } := rfl

/-- The result of a sample finds as many announces at the same positions, and leaves the scan otherwise as it was. -/
theorem WindowScan.result_frame (w : WindowScan) (a : Nat) (x : AnnounceSample) :
    (w.result a x).cycle = w.cycle ∧ (w.result a x).marker = w.marker ∧ (w.result a x).hunt = w.hunt
      ∧ (w.result a x).found.map AnnounceInHand.a = w.found.map AnnounceInHand.a := by
  refine ⟨rfl, rfl, rfl, ?_⟩
  simp only [WindowScan.result, List.map_map]
  refine List.map_congr_left fun f _ => ?_
  simp only [Function.comp]
  split <;> rfl

/-- The end of a content is recorded on the announces at its position, and the scan is otherwise as it was. -/
theorem WindowScan.contentEnded_frame (w : WindowScan) (a : Nat) :
    (w.contentEnded a).cycle = w.cycle ∧ (w.contentEnded a).marker = w.marker ∧ (w.contentEnded a).hunt = w.hunt
      ∧ (w.contentEnded a).found.map AnnounceInHand.sample = w.found.map AnnounceInHand.sample := by
  refine ⟨rfl, rfl, rfl, ?_⟩
  simp only [WindowScan.contentEnded, List.map_map]
  refine List.map_congr_left fun f _ => ?_
  simp only [Function.comp]
  split <;> rfl

/-- What is asked of the bias for an announce that lost its sample, and for any other (R57). -/
theorem State.judgedReady_abandoned (s : State) (w : WindowScan) {f : AnnounceInHand} (h : f.sample = .abandoned) :
    s.judgedReady w f = f.ended := by
  simp [State.judgedReady, h]

theorem State.judgedReady_other (s : State) (w : WindowScan) {f : AnnounceInHand} (h : f.sample ≠ .abandoned) :
    s.judgedReady w f = s.readyThrough (w.marker + f.a - 48) := by
  simp [State.judgedReady, h]

/-! ## The lapse of candidates -/

/-- Notices placed one after another touch the interface only. -/
theorem State.notify_foldl (cs : List Candidate) (s : State) :
    cs.foldl (fun s c => s.notify c.lapseNotice) s =
      { s with iface := (cs.map Candidate.lapseNotice).foldl Interface.place s.iface } := by
  induction cs generalizing s with
  | nil => rfl
  | cons c cs ih => simp only [List.foldl_cons, List.map_cons, ih]; rfl

/-- All that the lapse of candidates does: the entries that expire leave the list, and each places its notice, in list
order (R89). -/
theorem State.lapseCandidates_eq (s : State) :
    s.lapseCandidates =
      { s with
        candidates := s.candidates.filter fun c => !s.expires c,
        iface := ((s.candidates.filter s.expires).map Candidate.lapseNotice).foldl Interface.place s.iface } := by
  simp only [State.lapseCandidates, State.notify_foldl]
  rfl

/-! ## Resets -/

/-- While the part is held in reset every block stands at its reset value. -/
theorem State.holdInReset_blocks (s : State) (cause : ResetCause) (pin rail : Bool) :
    (s.holdInReset cause pin rail).roster = State.blocks.roster
      ∧ (s.holdInReset cause pin rail).candidates = [] ∧ (s.holdInReset cause pin rail).legs = State.blocks.legs
      ∧ (s.holdInReset cause pin rail).meter = Meter.reset ∧ (s.holdInReset cause pin rail).bias = Bias.reset
      ∧ (s.holdInReset cause pin rail).pending = s.pending := ⟨rfl, rfl, rfl, rfl, rfl, rfl⟩

end Sys2Proof.Machine
end

