-- ==== Sys2Proof/WellFormed.lean ====
section
/-! DEFINITION. What a well-formed command is: its operands lie in the ranges the spec gives what they name.
The meanings are total and do not depend on these checks. -/

namespace Sys2Proof

/-- A payload is at most 240 bytes (R176). -/
def payloadOk (p : List Byte) : Bool := decide (p.length ≤ Config.maxPayload)

/-- A frame kind of REPLY or NOTICE in bits 1..0 of the control byte (R176). -/
def replyOrNoticeKind (control : Byte) : Bool :=
  decide (control &&& 3#8 = 2#8) || decide (control &&& 3#8 = 3#8)

/-- A lit interval is not empty and lies in positions 0..31,249 (R3). -/
def litOk (i : Nat × Nat) : Bool := decide (0 < i.2) && decide (i.1 + i.2 ≤ Config.cycleTicks)

/-- A delimiter position of a muster window, Ω..Ω + W − 1 over every setup (R19, R20, R63). -/
def windowPositionOk (a : Nat) : Bool := decide (4125 ≤ a) && decide (a < 34255 + 32176)

/-- The bytes a receiver reads after a granted burst's delimiter: at least an echo's seven, at most the two bytes
a tick of the longest service burst's 8,006 ticks (R179). -/
def lookOk : BurstLook → Bool
  | .nothing => true
  | .delimiter _ _ content => decide (7 ≤ content.length) && decide (content.length ≤ 16012)

/-- The check of a command's operands. -/
def WellFormed : Instr → Bool
  | .status _ p => payloadOk p
  | .reset _ p => payloadOk p
  | .bias _ p => payloadOk p
  | .setupLeg _ p => payloadOk p
  | .startLeg _ p => payloadOk p
  | .stopLeg _ p => payloadOk p
  | .legMuster _ p => payloadOk p
  | .legRead _ p => payloadOk p
  | .holdLeg _ p => payloadOk p
  | .unholdLeg _ p => payloadOk p
  | .isolateLeg _ p => payloadOk p
  | .rosterPut _ p => payloadOk p
  | .rosterRemove _ p => payloadOk p
  | .rosterRead _ p => payloadOk p
  | .verdict _ p => payloadOk p
  | .candidateRead _ p => payloadOk p
  | .setActivation _ p => payloadOk p
  | .activationRead _ p => payloadOk p
  | .dropSilence _ p => payloadOk p
  | .dropResume _ p => payloadOk p
  | .dropRetire _ p => payloadOk p
  | .dropRead _ p => payloadOk p
  | .calLoad _ p => payloadOk p
  | .calRead _ p => payloadOk p
  | .unknownRequest _ code p => payloadOk p && !Config.requestCodes.contains code
  | .lineBusy _ _ p => payloadOk p
  | .requestDiscardedResetPending _ _ p => payloadOk p
  | .frameDiscarded bytes => decide (bytes.length ≤ 246)
  | .replyOrNoticeFrameDropped control _ _ p => payloadOk p && replyOrNoticeKind control
  | .frameTimeout => true
  | .frameTransmitted _ => true
  | .characterReceived _ => true
  | .resetPinAsserted => true
  | .powerApplied => true
  | .leaveReset _ _ => true
  | .railSag => true
  | .railRecovery => true
  | .brownout => true
  | .cycleBoundary => true
  | .offsetFieldExpiry _ drop => decide (drop < Config.dropsPerLeg)
  | .launchFieldExpiry _ drop => decide (drop < Config.dropsPerLeg)
  | .darkOffsetExpiry _ _ => true
  | .candidateLapsed _ => true
  | .holdExpiry _ => true
  | .settleComplete => true
  | .recoveryComplete => true
  | .grantedBurstVerdict _ look => lookOk look
  | .announceDelimiterFound leg a _ _ rivals => windowPositionOk a && !rivals.contains leg && decide rivals.Nodup
  | .garbled _ (.noDelimiter tick) => windowPositionOk tick
  | .garbled _ (.badContent a) => windowPositionOk a
  | .announceJudgementComplete _ a content => windowPositionOk a && decide (12 ≤ content.length)
  | .windowScanEnd _ => true
  | .calendarClose _ lit => lit.all litOk
  | .sampleIntegrationStart _ => true
  | .sampleResult _ => true
  | .calibrationInstant => true
  | .calibrationResult _ _ => true

end Sys2Proof
end

