-- ==== Sys2Proof/Tests/Slice0.lean ====
section
/-! SUPPORT. Tests: the smoke tests of WellFormed, the spec's worked examples, and for each statement with hypotheses
a state and operands that meet them. -/

set_option maxRecDepth 8000

namespace Sys2Proof.Machine

/-! ## WellFormed refuses (R3, R20, R74, R166, R176, R179) -/

/-- A payload one byte too long. -/
def longPayload : List Byte := List.replicate 241 0#8

theorem test_wf_payload : WellFormed (.status 0#8 longPayload) = false := by decide
theorem test_wf_payload_longest : WellFormed (.status 0#8 (List.replicate 240 0#8)) = true := by decide
theorem test_wf_payload_calRead : WellFormed (.calRead 0#8 longPayload) = false := by decide
theorem test_wf_unknown_code : WellFormed (.unknownRequest 0#8 0x01#8 []) = false := by decide
theorem test_wf_discarded : WellFormed (.frameDiscarded (List.replicate 247 0#8)) = false := by decide
theorem test_wf_dropped_kind : WellFormed (.replyOrNoticeFrameDropped 1#8 0#8 0#8 []) = false := by decide
theorem test_wf_offset_drop : WellFormed (.offsetFieldExpiry .q0 64) = false := by decide
theorem test_wf_launch_drop : WellFormed (.launchFieldExpiry .q3 64) = false := by decide
theorem test_wf_look : WellFormed (.grantedBurstVerdict .q0 (.delimiter 3 0 [0#8])) = false := by decide
theorem test_wf_announce_early : WellFormed (.announceDelimiterFound .q0 4124 0 0#48 []) = false := by decide
theorem test_wf_announce_rival : WellFormed (.announceDelimiterFound .q0 9000 0 0#48 [.q0]) = false := by decide
theorem test_wf_garbled_tick : WellFormed (.garbled .q0 (.noDelimiter 66431)) = false := by decide
theorem test_wf_garbled_content : WellFormed (.garbled .q0 (.badContent 0)) = false := by decide
theorem test_wf_judged_content : WellFormed (.announceJudgementComplete .q0 9000 [0#8]) = false := by decide
theorem test_wf_lit : WellFormed (.calendarClose .q0 [(31250, 1)]) = false := by decide
theorem test_wf_lit_last : WellFormed (.calendarClose .q0 [(31249, 1)]) = true := by decide

/-! ## The spec's worked examples and formats -/

/-- The check value of the CRC of Chapter 11 over the characters 1 to 9. -/
theorem test_crc :
    crc16 [0x31#8, 0x32#8, 0x33#8, 0x34#8, 0x35#8, 0x36#8, 0x37#8, 0x38#8, 0x39#8] = 0x29B1#16 := by decide

/-- Section 2.6: the derived values of the worked setup. -/
theorem test_derived :
    derive 90 130 325000 36 = { z := 325000, omega := 20286, span := 5000, w := 7176, am := 5000 } := by decide

/-- The default setup's derived values (R18). -/
theorem test_derived_default : derive 0 40 0 0 = Derived.reset := by decide

/-- Section 2.6: the round trip of the worked announce, A = 22,884 with h = 5 and p = 13. -/
theorem test_round_trip : roundTrip 22884 5000 5 36 13 = 269933 := by decide

/-- Section 4.6: the first announce is out of the band of 225,000 to 325,000 bits. -/
theorem test_out_of_band : reachClass (roundTrip 20360 5000 3 36 10) 325000 90 130 = .outOfBand := by decide

/-- Section 7.5, the rows of its table: range 2, offset 63, floor −280, ceiling −100. -/
theorem test_power_4010 :
    powerResult 4010 63 (defaultTables.get .q2) (-280) (-100) = (-160, ⟨true, false, false, false⟩) := by decide
theorem test_power_90 :
    powerResult 90 63 (defaultTables.get .q2) (-280) (-100) = (-290, ⟨false, true, true, false⟩) := by decide
theorem test_power_40 :
    powerResult 40 63 (defaultTables.get .q2) (-280) (-100) = (-290, ⟨false, true, true, false⟩) := by decide
theorem test_power_563 :
    powerResult 563 63 (defaultTables.get .q2) (-280) (-100) = (-250, ⟨false, false, false, false⟩) := by decide
theorem test_power_1871 :
    powerResult 1871 63 (defaultTables.get .q2) (-280) (-100) = (-195, ⟨false, false, false, false⟩) := by decide
theorem test_power_3000 :
    powerResult 3000 63 (defaultTables.get .q2) (-280) (-100) = (-174, ⟨false, false, false, false⟩) := by decide

/-- R28: the step of a correction is at most 8 bits, and E stays in [0, Z]. -/
theorem test_correction_clamped : correctedE 325000 100 (-30) = 108 := by decide
theorem test_correction_floor : correctedE 325000 3 30 = 0 := by decide

/-- R2: cycle numbers compare across the return to 0. -/
theorem test_cycles_wrap : cyclesSince 1#32 0xFFFFFFFF#32 = 2 := by decide

/-- R177: a layout's byte order, and the byte of an absent power. -/
theorem test_u32 : u32 325000 = [0x00#8, 0x04#8, 0xF5#8, 0x88#8] := by decide
theorem test_i16 : i16 (-280) = [0xFE#8, 0xE8#8] := by decide
theorem test_absent_power : optPowerBytes none = [0x80#8, 0x00#8] := by decide
theorem test_attr : attrByte ⟨true, false, false, false, false, false, true⟩ = [0x41#8] := by decide

/-- R176, R169: the READY notice that follows a power reset, as it is sent. -/
theorem test_ready_frame : State.reset.iface.lineOut.map (fun x => (sendingBytes x).take 6) =
    some [0x5A#8, 0x03#8, 0x00#8, 0xC0#8, 0x01#8, 0x00#8] := by decide

/-- R178: the directives' codes. -/
theorem test_release_all : directiveBytes .releaseAll = [0x06#8, 0xFF#8] := by decide
theorem test_grant : grantBytes ⟨5, .echo, 7176, 96, 9#8⟩ = [0x85#8, 0x1C#8, 0x08#8, 0x00#8, 0x60#8, 0x09#8] := by decide

/-- Section 3.10: a Launch and then an Offset for drop 3 leave the Offset with a Launch to follow, and a Silence for
drop 9 follows its Enrol. -/
theorem test_two_drops :
    ((enqueue 9 (.silence 9) none
        (enqueue 3 (.offset 3 77) none
          (enqueue 3 (.launch 3 .q2) none
            (enqueue 9 (.enrol ⟨0#32, 0#32⟩ 9 50 .q1) none [])))).map fun q => (q.dir, q.follow)) =
      [(.enrol ⟨0#32, 0#32⟩ 9 50 .q1, ⟨false, false, true⟩), (.offset 3 77, ⟨false, true, false⟩)] := by decide

/-- No word of the table spells a command. -/
theorem test_no_word : decodeTableWord 16 0x5A01 = none := by decide

/-- The part idles on an empty queue. -/
theorem test_idle : step State.reset = .next State.reset := by rfl

/-- R56: light at the end of an interval is recorded on a STOPPED leg. -/
theorem test_history_stopped :
    (match exec (.calendarClose .q1 [(31249, 1)]) State.blocks with
      | .next t => (t.leg .q1).receiver.lightHistory
      | _ => 0#48) = 1#48 := by decide

/-! ## Witnesses: states and operands that meet the hypotheses of each statement, clause by clause -/

/-- A factory tag. -/
def tag1 : FactoryTag := ⟨0x41424344#32, 7#32⟩

/-- Another. -/
def tag2 : FactoryTag := ⟨0x41424344#32, 8#32⟩

/-- The record of drop 0 of leg 0, in a state. -/
def recordIn (st : DropState) : DropRecord :=
  { state := st, ident := ⟨0, 1#32, 1#32⟩, tag := tag1, rosterIndex := 0, plot := 7, share := 800, r := 40000,
    e := 60000, offsetField := .absent, launch := .q1, launchField := .absent, hint := .q2, lastPower := none,
    flags := ⟨false, false, false⟩, vector := AttrSet.empty, reported := none, attempts := 1, echoes := 0,
    adjustments := 0, unmeasured := 0, streak := 0, misses := 0, echoDue := none, echoSeq := 0#8, silentRun := 0,
    lastDrift := 0, resumeTo := if st = .silenced then some .soak else none, isolated := false, lastSample := none,
    enrolTx := none, silenceTx := none, resumeTx := none, measures := [] }

/-- The roster entry of that record's tag, in a state. -/
def entryIn (st : RosterState) : RosterEntry :=
  { tag := tag1, plot := 7, expected := .any, share := 800, state := st,
    link := if st = .active then some (.q0, 0) else none, lastHeard := none }

/-- Leg 0 running with one record and one FREE drop number. -/
def legWith (r : DropRecord) : Leg :=
  { Leg.reset with state := .running, count := 9#32, drops := [some r, none] }

/-- The part with a READY bias, leg 0 as given and the roster given. -/
def partWith (x : Leg) (roster : List (Option RosterEntry)) : State :=
  { State.blocks with
    bias := { Bias.reset with state := .ready }, roster := roster, legs := State.blocks.legs.set .q0 x }

/-- The part with one live record. -/
def live (st : DropState) : State := partWith (legWith (recordIn st)) [some (entryIn .active), none]

/-- A candidate of a tag on leg 0. -/
def candidateOf (tag : FactoryTag) : Candidate :=
  { tag := tag, leg := .q0, reason := .unknown, r := 40000, power := none, vector := AttrSet.empty, launch := .q0,
    rosterIndex := none, firstHeard := 1#32, lastHeard := 1#32 }

/-- The part with a candidate and a roster. -/
def withCandidate (roster : List (Option RosterEntry)) : State :=
  { partWith (legWith (recordIn .soak)) roster with candidates := [candidateOf tag1] }

theorem blocks_takes : State.blocks.takes := ⟨rfl, rfl, by decide⟩
theorem live_takes (st : DropState) : (live st).takes := ⟨rfl, rfl, Nat.succ_pos 3⟩

theorem witness_StatusReportsThePart : State.blocks.takes := blocks_takes
theorem witness_ResetRequestMarksAReset : (live .soak).takes := live_takes .soak
theorem witness_ActivationReadReturnsTheSix : (live .soak).takes := live_takes .soak
theorem witness_LegReadReportsALeg :
    (live .soak).takes ∧ Quad.ofNat? (3#8).toNat = some .q3 ∧ Quad.ofNat? (4#8).toNat = none :=
  ⟨live_takes .soak, by decide⟩
theorem witness_CalReadReportsARange :
    State.blocks.takes ∧ Quad.ofNat? (3#8).toNat = some .q3 ∧ Quad.ofNat? (4#8).toNat = none :=
  ⟨blocks_takes, by decide⟩
theorem candidate_takes (roster : List (Option RosterEntry)) : (withCandidate roster).takes := ⟨rfl, rfl, Nat.succ_pos 3⟩

/-- The part held in reset by the pin. -/
def held : State := { State.blocks with inReset := some ⟨.pin, true, true⟩ }

theorem witness_EveryCommandCompletes : held.inReset ≠ none ∧ actsInReset .cycleBoundary = false := by decide

theorem witness_ARefusedRequestChangesNothing :
    State.blocks.takes ∧ 0x10#8 ∈ Config.requestCodes ∧ (List.replicate 16 0#8).length ∉ payloadLengths 0x10#8 ∧
      (answerFor 0x11#8 [4#8] State.blocks).code ≠ .done := ⟨blocks_takes, by decide⟩

theorem witness_BiasRequestFollowsItsTable :
    State.blocks.takes ∧ State.blocks.bias.state = .off ∧ State.blocks.rail.state = .normal ∧
      ({ State.blocks with rail := { Rail.reset with state := .sag } } : State).rail.state = .sag ∧
      (live .soak).takes ∧ (live .soak).bias.state ≠ .off ∧
      ({ Bias.reset with state := .settling } : Bias).state = .settling ∧ (2#8 : Byte) ≠ 0#8 ∧ (2#8 : Byte) ≠ 1#8 :=
  ⟨blocks_takes, by decide, by decide, by decide, live_takes _, by decide⟩

theorem witness_LeavingReadyBlindsTheLegs :
    (live .soak).takes ∧ (live .soak).bias.state = .ready ∧ (live .soak).inReset = none ∧
      (live .soak).rail.state = .normal := ⟨live_takes _, by decide⟩

theorem witness_RailEventsFollowTheirTable :
    State.blocks.inReset = none ∧ State.blocks.rail.state = .normal ∧ State.blocks.bias.state = .off ∧
      ({ State.blocks with bias := { Bias.reset with state := .settling } } : State).bias.state = .settling ∧
      ({ State.blocks with rail := { Rail.reset with state := .sag } } : State).rail.state = .sag := by decide

/-- The highest values of a leg setup, and the lowest. -/
def setupHigh : SetupFields :=
  { leg := 3, near := 239, far := 240, zEntered := 600000, trim := 255, interval := 4000, maxEchoes := 16,
    mask := AttrSet.empty, matchSet := AttrSet.empty, announceRange := 3, policy := .discard, musterOn := true }
def setupLow : SetupFields :=
  { setupHigh with leg := 0, near := 0, far := 1, zEntered := 0, trim := 0, interval := 8, maxEchoes := 1,
                   announceRange := 0 }

theorem witness_SetupLegReplacesTheSetup :
    State.blocks.takes ∧ parseSetup (setupBytes setupHigh) = some setupHigh ∧
      parseSetup (setupBytes setupLow) = some setupLow ∧ (State.blocks.leg .q3).quiet = true ∧
      parseSetup (setupBytes { setupHigh with leg := 4 }) = some { setupHigh with leg := 4 } ∧
      Quad.ofNat? 4 = none ∧ ((live .soak).leg .q0).quiet = false ∧ (live .soak).takes ∧
      parseSetup (setupBytes { setupLow with trim := 256 }) = some { setupLow with trim := 256 } ∧
      setupHigh.near < setupHigh.far ∧ setupHigh.zEntered % 20 = 0 ∧ 25 * (100 * setupHigh.far) ≤ setupHigh.zEntered :=
  ⟨blocks_takes, by decide, by decide, by decide, by decide, by decide, by decide, live_takes _, by decide⟩

theorem witness_SetupLegReplacesTheSetup_malformed :
    State.blocks.takes ∧ parseSetup [] = none ∧ parseSetup ((setupBytes setupHigh).set 15 2#8) = none ∧
      parseSetup ((setupBytes setupHigh).set 7 0x80#8) ≠ none ∧ parseSetup ((setupBytes setupHigh).set 12 0x80#8) = none :=
  ⟨blocks_takes, by decide⟩

theorem witness_StartAndMusterSetTheirMarks :
    State.blocks.takes ∧ Quad.ofNat? (4#8 : Byte).toNat = none ∧ Quad.ofNat? (3#8 : Byte).toNat = some .q3 ∧
      (State.blocks.leg .q3).state = .stopped ∧ (State.blocks.leg .q3).startPending = false ∧
      (State.blocks.leg .q3).finalPending = false ∧ ((live .soak).leg .q0).started = true ∧
      parseLegMuster (legMusterBytes ⟨3, true⟩) = some ⟨3, true⟩ ∧
      parseLegMuster (legMusterBytes ⟨4, false⟩) = some ⟨4, false⟩ ∧ (255#8 : Byte) ≠ 0#8 ∧ (255#8 : Byte) ≠ 1#8 :=
  ⟨blocks_takes, by decide⟩

theorem witness_StopLegTearsTheLegDown :
    (live .soak).takes ∧ Quad.ofNat? (0#8 : Byte).toNat = some .q0 ∧ ((live .soak).leg .q0).started = true ∧
      Quad.ofNat? (4#8 : Byte).toNat = none ∧ (State.blocks.leg .q0).state = .stopped ∧ (live .soak).rosterAt 0 = some (entryIn .active) ∧
      (live .soak).record .q0 0 = some (recordIn .soak) := ⟨live_takes _, by decide⟩

theorem witness_HoldAndUnholdBeginAndEndAHold :
    (live .soak).takes ∧ parseHold (holdBytes ⟨0, 1600⟩) = some ⟨0, 1600⟩ ∧
      parseHold (holdBytes ⟨0, 1601⟩) = some ⟨0, 1601⟩ ∧ parseHold (holdBytes ⟨0, 0⟩) = some ⟨0, 0⟩ ∧
      parseHold (holdBytes ⟨4, 1⟩) = some ⟨4, 1⟩ ∧ ((live .soak).leg .q0).state ≠ .stopped ∧
      ((live .soak).leg .q0).hold = none ∧ ((live .soak).leg .q0).run = none ∧
      (State.blocks.leg .q0).state = .stopped ∧
      ({ (live .soak).leg .q0 with hold := some ⟨5, none, 0⟩ } : Leg).hold = some ⟨5, none, 0⟩ :=
  ⟨live_takes _, by decide⟩

/-- The part with leg 0's stray-light latch set, and one live record or none. -/
def latched (records : List (Option DropRecord)) : State :=
  partWith { legWith (recordIn .soak) with
    drops := records, receiver := { Receiver.reset with latch := true } } [some (entryIn .active), none]

theorem witness_IsolateLegBeginsTheFirstTurn :
    (latched []).takes ∧ (latched [some (recordIn .soak)]).takes ∧ ((latched []).leg .q0).state = .running ∧
      ((latched []).leg .q0).receiver.latch = true ∧ ((latched []).leg .q0).hold = none ∧
      ((latched []).leg .q0).run = none ∧ ((latched []).leg .q0).live = [] ∧
      ((latched [some (recordIn .soak)]).leg .q0).live.filter (fun p => decide (p.2.state ≠ .silenced)) =
        [(0, recordIn .soak)] ∧
      (latched [some (recordIn .soak)]).record .q0 0 = some (recordIn .soak) ∧ (recordIn .soak).ident.drop = 0 ∧
      ((live .soak).leg .q0).receiver.latch = false ∧ Quad.ofNat? (0#8 : Byte).toNat = some .q0 ∧
      Quad.ofNat? (4#8 : Byte).toNat = none :=
  ⟨⟨rfl, rfl, by decide⟩, ⟨rfl, rfl, by decide⟩, by decide⟩

/-- A roster request at the highest values. -/
def putHigh : RosterPutFields := { tag := tag1, plot := 4095, leg := 255, share := 8000, barred := false }

theorem witness_RosterPutCreatesAnEntry :
    State.blocks.takes ∧ parseRosterPut (rosterPutBytes putHigh) = some putHigh ∧
      expectedOf putHigh.leg = some .any ∧ State.blocks.rosterEntry tag1 = none ∧
      firstFree State.blocks.roster = some 0 ∧
      firstFree ([some (entryIn .barred)] : List (Option RosterEntry)) = none ∧
      (partWith Leg.reset [some { entryIn .barred with tag := tag2 }]).rosterEntry tag1 = none ∧
      parseRosterPut (rosterPutBytes { putHigh with share := 8001 }) = some { putHigh with share := 8001 } :=
  ⟨blocks_takes, by decide⟩

theorem witness_RosterPutChangesAnEntry :
    (live .soak).takes ∧ parseRosterPut (rosterPutBytes putHigh) = some putHigh ∧
      (live .soak).rosterEntry tag1 = some (0, entryIn .active) ∧ (entryIn .active).expected = .any ∧
      (entryIn .active).link = some (.q0, 0) ∧ (live .soak).record .q0 0 = some (recordIn .soak) ∧
      parseRosterPut (rosterPutBytes { putHigh with barred := true }) = some { putHigh with barred := true } ∧
      (withCandidate [some (entryIn .barred)]).takes ∧
      (withCandidate [some (entryIn .barred)]).rosterEntry tag1 = some (0, entryIn .barred) ∧
      (entryIn .barred).state ≠ .active :=
  ⟨live_takes _, by decide, by decide, by decide, by decide, by decide, by decide, candidate_takes _, by decide⟩

theorem witness_RosterRemoveFreesTheIndex :
    (live .soak).takes ∧ parseTag (tagBytes tag1) = some tag1 ∧ (live .soak).rosterEntry tag2 = none ∧
      (live .soak).rosterEntry tag1 = some (0, entryIn .active) ∧
      (withCandidate [some (entryIn .barred)]).rosterEntry tag1 = some (0, entryIn .barred) :=
  ⟨live_takes _, by decide⟩

theorem witness_RosterReadReportsAnEntry :
    (live .soak).takes ∧ parseRosterKey (rosterKeyBytes (.number 255)) = some (.number 255) ∧
      parseRosterKey (rosterKeyBytes (.number 256)) = some (.number 256) ∧
      parseRosterKey (rosterKeyBytes (.tag tag1)) = some (.tag tag1) ∧ (live .soak).rosterAt 255 = none ∧
      (live .soak).rosterAt 0 = some (entryIn .active) ∧ (live .soak).rosterEntry tag2 = none ∧
      (live .soak).rosterEntry tag1 = some (0, entryIn .active) := ⟨live_takes _, by decide⟩

/-- A verdict that admits with new roster values, at the highest. -/
def admitHigh : VerdictFields := { tag := tag1, reject := false, plot := 4095, share := 8000, leg := 255 }

/-- Drop records with none FREE. -/
def fullLeg : State :=
  { withCandidate [none] with legs := State.blocks.legs.set .q0 { legWith (recordIn .soak) with drops := [] } }

theorem witness_VerdictRejectsAndRefuses :
    (withCandidate [none]).takes ∧ parseVerdict (verdictBytes admitHigh) = some admitHigh ∧
      parseVerdict (verdictBytes { admitHigh with reject := true }) = some { admitHigh with reject := true } ∧
      (withCandidate [none]).candidate tag1 = some (candidateOf tag1) ∧ (withCandidate [none]).candidate tag2 = none ∧
      (withCandidate [some (entryIn .barred)]).rosterEntry tag1 = some (0, entryIn .barred) ∧
      (withCandidate [none]).rosterEntry tag1 = none ∧
      parseVerdict (verdictBytes { admitHigh with share := 65535 }) = some { admitHigh with share := 65535 } ∧
      parseVerdict (verdictBytes { admitHigh with share := 8008 }) = some { admitHigh with share := 8008 } ∧
      firstFree (withCandidate []).roster = none ∧ fullLeg.takes ∧ firstFree (fullLeg.leg .q0).drops = none ∧
      fullLeg.candidate tag1 = some (candidateOf tag1) :=
  ⟨candidate_takes _, by decide, by decide, by decide, by decide, by decide, by decide, by decide, by decide, by decide,
    ⟨rfl, rfl, by decide⟩, by decide⟩

/-- The part with a candidate on leg 1 whose tag has a live record on leg 0. -/
def duplicated : State :=
  { live .soak with
    candidates := [{ candidateOf tag1 with leg := .q1, rosterIndex := some 0 }] }

theorem witness_VerdictAdmitAllocatesADrop :
    (withCandidate [some (entryIn .expected)]).takes ∧ parseVerdict (verdictBytes admitHigh) = some admitHigh ∧
      (withCandidate [some (entryIn .expected)]).candidate tag1 = some (candidateOf tag1) ∧
      firstFree ((withCandidate [some (entryIn .expected)]).leg .q0).drops = some 1 ∧
      (withCandidate [some (entryIn .expected)]).rosterEntry tag1 = some (0, entryIn .expected) ∧
      (withCandidate [none]).rosterEntry tag1 = none ∧ firstFree (withCandidate [none]).roster = some 0 ∧
      expectedOf admitHigh.leg = some .any ∧ duplicated.takes ∧ firstFree (duplicated.leg .q1).drops = some 0 ∧
      duplicated.rosterEntry tag1 = some (0, entryIn .active) ∧ (entryIn .active).link = some (.q0, 0) ∧
      duplicated.record .q0 0 = some (recordIn .soak) ∧ (recordIn .soak).rosterIndex = 0 ∧ Quad.q0 ≠ .q1 :=
  ⟨candidate_takes _, by decide, by decide, by decide, by decide, by decide, by decide, by decide,
    ⟨rfl, rfl, by decide⟩, by decide⟩

theorem witness_CandidateReadReportsAnEntry :
    (withCandidate [none]).takes ∧ parseCandidateKey (candidateKeyBytes (.number 16)) = some (.number 16) ∧
      parseCandidateKey (candidateKeyBytes (.number 15)) = some (.number 15) ∧
      parseCandidateKey (candidateKeyBytes (.number 0)) = some (.number 0) ∧
      parseCandidateKey (candidateKeyBytes (.tag tag1)) = some (.tag tag1) ∧
      (withCandidate [none]).candidates[15]? = none ∧ (withCandidate [none]).candidates[0]? = some (candidateOf tag1) ∧
      ∀ c ∈ (withCandidate [none]).candidates, c.tag ≠ tag2 := ⟨candidate_takes _, by decide⟩

/-- The highest activation parameters. -/
def activationHigh : ActivationFields :=
  { streak := 64, interval := 64, missLim := 16, floor := 99, ceiling := 100, timeout := 40000 }

theorem witness_SetActivationReplacesTheSix :
    State.blocks.takes ∧ parseActivation (activationBytes activationHigh) = some activationHigh ∧
      parseActivation (activationBytes { activationHigh with floor := -501 }) =
        some { activationHigh with floor := -501 } ∧
      (∀ l, (State.blocks.leg l).state = .stopped) ∧ ∃ l, ((live .soak).leg l).state ≠ .stopped :=
  ⟨blocks_takes, by decide, by decide, by intro l; cases l <;> rfl, .q0, by decide⟩

theorem witness_SilenceAndResumeMoveARecord :
    (live .soak).takes ∧ parseDrop (dropBytes ⟨0, 0⟩) = some ⟨0, 0⟩ ∧ Quad.ofNat? 0 = some .q0 ∧
      (live .soak).record .q0 0 = some (recordIn .soak) ∧ (live .silenced).record .q0 0 = some (recordIn .silenced) ∧
      (live .soak).record .q0 1 = none ∧ (recordIn .silenced).resumeTo = some .soak ∧
      (recordIn .silenced).isolated = false ∧ (recordIn .soak).ident.drop = 0 ∧ Quad.ofNat? 4 = none ∧
      parseDrop (dropBytes ⟨4, 0⟩) = some ⟨4, 0⟩ ∧ parseDrop (dropBytes ⟨0, 64⟩) = some ⟨0, 64⟩ :=
  ⟨live_takes _, by decide⟩

theorem witness_DropRetireEndsARecord :
    (live .soak).takes ∧ parseDrop (dropBytes ⟨0, 63⟩) = some ⟨0, 63⟩ ∧ (live .soak).record .q0 63 = none ∧
      (live .soak).record .q0 0 = some (recordIn .soak) ∧ (live .soak).rosterAt 0 = some (entryIn .active) ∧
      (recordIn .soak).isolated = false ∧ ({ recordIn .soak with isolated := true } : DropRecord).isolated = true :=
  ⟨live_takes _, by decide⟩

theorem witness_DropReadReportsARecord :
    (live .soak).takes ∧ parseDrop (dropBytes ⟨3, 63⟩) = some ⟨3, 63⟩ ∧ parseDrop (dropBytes ⟨0, 64⟩) = some ⟨0, 64⟩ ∧
      (live .soak).record .q0 0 = some (recordIn .soak) ∧ (live .soak).record .q3 63 = none := ⟨live_takes _, by decide⟩

/-- The widest calibration table. -/
def wideTable : CalLoadFields := { range := 3, values := [-500, -500, 0, 0, 0, 0, 0, 0, 100] }

theorem witness_CalLoadReplacesTheTable :
    State.blocks.takes ∧ parseCalLoad (calLoadBytes wideTable) = some wideTable ∧
      (∀ v ∈ wideTable.values, -500 ≤ v ∧ v ≤ 100) ∧
      (∀ (i : Nat) (a b : Int), wideTable.values[i]? = some a → wideTable.values[i + 1]? = some b → a ≤ b) ∧
      parseCalLoad (calLoadBytes { wideTable with values := [0, -1, 0, 0, 0, 0, 0, 0, 101] }) =
        some { wideTable with values := [0, -1, 0, 0, 0, 0, 0, 0, 101] } ∧
      Quad.ofNat? 4 = none := by
  refine ⟨blocks_takes, by decide, by decide, ?_, by decide, by decide⟩
  intro i a b ha hb
  have hi : i < 9 := by
    by_contra h
    simp [wideTable, show ¬ i + 1 < 9 by omega] at hb
  interval_cases i <;> simp [wideTable] at ha hb <;> omega

/-! ### The line and the resets -/

/-- The part with a full input buffer and a requested reset, or neither. -/
def busyPart (pending : Bool) : State :=
  { State.blocks with
    iface := { Interface.reset with
                buffer := List.replicate 4 ⟨0#8, 1#8⟩, busy := List.replicate 39 ⟨0#8, 1#8⟩, resetPending := pending } }

theorem witness_RequestFramesAreTurnedAway :
    State.blocks.takes ∧ State.blocks.inReset = none ∧ 0x04#8 ∉ Config.requestCodes ∧
      (busyPart false).iface.resetPending = false ∧ 4 ≤ (busyPart false).iface.buffer.length ∧
      (busyPart false).iface.busy.length < 40 ∧ (busyPart true).iface.resetPending = true := ⟨blocks_takes, by decide⟩

theorem witness_TheReceiveSideHoldsAFrame :
    State.blocks.inReset = none ∧ State.blocks.iface.rx = none ∧ (0x5B#8 : Byte) ≠ 0x5A#8 ∧
      ({ Interface.reset with rx := some [] } : Interface).rx = some [] ∧ (1#8 : Byte) &&& 3#8 ≠ 0#8 ∧
      ([1#8, 2#8, 3#8] : List Byte).length = 3 ∧ (240#8 : Byte).toNat ≤ 240 ∧
      (∃ c t k len rest, ([1#8, 2#8, 3#8, 1#8, 9#8] : List Byte) = c :: t :: k :: len :: rest ∧ len.toNat ≤ 240 ∧
        rest.length + 1 < len.toNat + 2) ∧
      (0xFE#8 : Byte) &&& 3#8 = 2#8 ∧ (3#8 : Byte) &&& 3#8 = 3#8 :=
  ⟨by decide, by decide, by decide, by decide, by decide, by decide, by decide,
    ⟨1#8, 2#8, 3#8, 1#8, [9#8], by decide, by decide, by decide⟩, by decide, by decide⟩

theorem witness_CharactersOfAFrameAreItsCommand :
    State.blocks.inReset = none ∧ State.blocks.iface.rx = none ∧ State.blocks.iface.arbitrate = State.blocks.iface ∧
      (0xFD#8 : Byte) &&& 3#8 = 1#8 ∧ (List.replicate 240 0#8).length ≤ 240 := by decide

theorem witness_DiscardedBytesAreReadAfresh :
    State.blocks.inReset = none ∧ DiscardedFrame [0xFC#8] ∧ DiscardedFrame [1#8, 0#8, 0#8, 241#8] ∧
      DiscardedFrame [1#8, 0#8, 1#8, 0#8, 0x5A#8, 0x5A#8] :=
  ⟨rfl, .inl ⟨_, rfl, by decide⟩, .inr (.inl ⟨_, _, _, _, rfl, by decide, by decide⟩),
    .inr (.inr ⟨1#8, 0#8, 1#8, 0#8, [], [0x5A#8, 0x5A#8], by decide⟩)⟩

/-- The part with a frame in transmission. -/
def sendingPart (f : FrameOut) (i : Interface) : State :=
  { State.blocks with iface := { i with lineOut := some ⟨f, false⟩ } }

theorem witness_AFrameSentGivesWayToTheNext :
    (sendingPart (.notice (.ready .pin)) Interface.reset).inReset = none ∧
      (sendingPart (.notice (.ready .pin)) Interface.reset).iface.lineOut = some ⟨.notice (.ready .pin), false⟩ ∧
      (sendingPart (.notice (.ready .pin)) Interface.reset).iface.resetPending ≠ true ∧
      (busyPart false).iface.busy = ⟨0#8, 1#8⟩ :: List.replicate 38 ⟨0#8, 1#8⟩ ∧
      ({ Interface.reset with replies := [⟨1#8, 1#8, .done, []⟩] } : Interface).replies = [⟨1#8, 1#8, .done, []⟩] ∧
      ({ Interface.reset with notices := [.ready .pin] } : Interface).notices = [.ready .pin] ∧
      Interface.reset.busy = [] ∧ Interface.reset.replies = [] ∧ Interface.reset.notices = [] := by decide

theorem witness_ARequestedResetKeepsTheHostsTables :
    (sendingPart (.reply ⟨7#8, 0x02#8, .done, []⟩) { Interface.reset with resetPending := true }).inReset = none ∧
      (sendingPart (.reply ⟨7#8, 0x02#8, .done, []⟩) { Interface.reset with resetPending := true }).iface.lineOut =
        some ⟨.reply ⟨7#8, 0x02#8, .done, []⟩, false⟩ ∧
      (sendingPart (.reply ⟨7#8, 0x02#8, .done, []⟩) { Interface.reset with resetPending := true }).iface.resetPending =
        true := by decide

theorem witness_PinAndSupplyHoldThePartInReset :
    State.blocks.inReset = none ∧ held.inReset = some ⟨.pin, true, true⟩ := by decide

theorem witness_ThePartLeavesReset :
    held.inReset = some ⟨.pin, true, true⟩ ∧ 3100 < 3101 ∧
      ({ State.blocks with inReset := some ⟨.brownout, false, true⟩ } : State).inReset = some ⟨.brownout, false, true⟩ :=
  by decide

/-! ### The cycle clock -/

/-- An entry of drop 0's Enrol with an Offset, a Launch and a Silence to follow. -/
def enrolEntry : QueueEntry :=
  { dir := .enrol tag1 0 60000 .q1, ident := some (recordIn .soak).ident, follow := ⟨true, true, true⟩ }

/-- A leg whose one record stands at its own drop number. -/
theorem legWith_inPlace (st : DropState) : InPlace (legWith (recordIn st)) := by
  intro d r h
  match d with
  | 0 => simp only [legWith, Leg.record] at h; cases h; rfl
  | 1 => simp [legWith, Leg.record] at h
  | d + 2 => simp [legWith, Leg.record] at h

theorem witness_EveryLegBeginsItsCycle_departures :
    InPlace { legWith (recordIn .soak) with queue := [enrolEntry] } ∧
      queuedFor { legWith (recordIn .soak) with queue := [enrolEntry] } enrolEntry = some (recordIn .soak) ∧
      leavesFor { legWith (recordIn .soak) with queue := [enrolEntry] } (recordIn .soak).ident isEnrol = true ∧
      expiresIn (withCandidate []) { withCandidate [] with params := Activation.reset } (candidateOf tag1) = false ∧
      expiresIn { withCandidate [] with params := { Activation.reset with timeout := 8 } } (withCandidate [])
        (candidateOf tag1) = true :=
  ⟨legWith_inPlace .soak, by decide⟩

theorem witness_EveryLegBeginsItsCycle :
    (live .soak).inReset = none ∧ ((live .soak).leg .q0).ahead = false ∧ ((live .soak).leg .q0).state ≠ .stopped ∧
      (State.blocks.leg .q1).finalPending = false ∧ (State.blocks.leg .q1).startPending = false ∧
      ({ Leg.reset with startPending := true } : Leg).startPending = true ∧
      ({ Leg.reset with finalPending := true } : Leg).finalPending = true := by decide

/-- The notices of a boundary: a hold begins, a start takes effect, and the bias enters READY. -/
theorem witness_EveryLegBeginsItsCycle_notices :
    starts { Leg.reset with startPending := true } = true ∧
      holdNotices .q0 10#32 (some ⟨3, none, 0⟩) = [.holdBegun .q0 10#32 3] ∧
      holdNotices .q0 10#32 (some ⟨3, some 7#32, 3⟩) = [.holdEnded .q0 .expired 3 10#32] ∧
      entersReady { State.blocks with bias := ⟨.settling, 119, 0, 0, false⟩ } = true ∧
      recovers { State.blocks with bias := ⟨.tripped, 0, 39, 0, false⟩ } = true := by decide

theorem witness_AHoldMakesHoldCyclesAndExpires :
    (live .soak).inReset = none ∧
      ({ legWith (recordIn .soak) with hold := some ⟨1600, none, 1599⟩ } : Leg).hold = some ⟨1600, none, 1599⟩ ∧
      (legWith (recordIn .soak)).ahead = false ∧ (legWith (recordIn .soak)).state ≠ .stopped ∧ 1599 < 1600 ∧
      (⟨1600, some 1#32, 1600⟩ : Hold).length ≤ (⟨1600, some 1#32, 1600⟩ : Hold).built := by decide

/-- The leg whose hold expires at the coming boundary. -/
def heldLeg : Leg := { legWith (recordIn .inService) with hold := some ⟨3, some 7#32, 3⟩ }

/-- The leg that a start begins cycle 0 on. -/
def starting : Leg := { Leg.reset with startPending := true }

theorem witness_TheCalendarFitsItsCycle :
    (live .inService).inReset = none ∧ Builds (live .inService) .q0 .cycleBoundary (legWith (recordIn .inService)) 10#32 ∧
      InPlace (legWith (recordIn .inService)) ∧
      Builds (partWith heldLeg []) .q0 (.holdExpiry .q0) heldLeg 10#32 ∧
      Builds { State.blocks with legs := State.blocks.legs.set .q1 starting } .q1 .cycleBoundary
        { starting with state := .blind, startPending := false } 0#32 :=
  ⟨rfl, ⟨rfl, .inl ⟨rfl, by decide, rfl, rfl⟩⟩, legWith_inPlace .inService,
    ⟨rfl, .inr (.inl ⟨rfl, by decide, rfl, rfl, ⟨3, some 7#32, 3⟩, rfl, Nat.le_refl 3⟩)⟩,
    ⟨rfl, .inr (.inr ⟨rfl, rfl, rfl, rfl, rfl, rfl⟩)⟩⟩

/-- A record whose fields hold a cycle. -/
def inFlight (c : Cycle) : DropRecord := { recordIn .soak with offsetField := .cycle c, launchField := .cycle c }

theorem witness_WhatIsDueExpires_fields :
    (partWith (legWith (inFlight 7#32)) []).inReset = none ∧
      (partWith (legWith (inFlight 7#32)) []).record .q0 0 = some (inFlight 7#32) ∧
      ((partWith (legWith (inFlight 7#32)) []).leg .q0).ahead = false ∧
      3 ≤ (((partWith (legWith (inFlight 7#32)) []).leg .q0).count + 1#32 - 7#32).toInt ∧
      (((partWith (legWith (inFlight 8#32)) []).leg .q0).count + 1#32 - 8#32).toInt < 3 := by decide

/-- The part with a dark offset of an age. -/
def agedPart (age : Nat) : State :=
  { State.blocks with meter := Meter.reset.setOffset .q1 .q2 ⟨some 60, true, age⟩ }

theorem witness_WhatIsDueExpires :
    (agedPart 39999).inReset = none ∧ ((agedPart 39999).offset .q1 .q2).valid = true ∧
      40000 ≤ ((agedPart 39999).offset .q1 .q2).age + 1 ∧ ((agedPart 39998).offset .q1 .q2).age + 1 < 40000 ∧
      (withCandidate []).candidate tag1 = some (candidateOf tag1) ∧ ((withCandidate []).leg .q0).ahead = false ∧
      ((withCandidate []).leg .q0).state ≠ .stopped ∧
      (9 : Int) ≤ (((withCandidate []).leg .q0).count + 1#32 - (candidateOf tag1).lastHeard).toInt ∧
      (((withCandidate []).leg .q0).count + 1#32 - (candidateOf tag1).lastHeard).toInt < (withCandidate []).params.timeout :=
  by decide

theorem witness_TheBoundaryCountsTheBias :
    State.blocks.inReset = none ∧ State.blocks.bias.ahead = false ∧ State.blocks.bias.state = .off ∧
      (⟨.settling, 119, 0, 0, false⟩ : Bias).state = .settling ∧ 120 ≤ (⟨.settling, 119, 0, 0, false⟩ : Bias).settle + 1 ∧
      (⟨.settling, 118, 0, 0, false⟩ : Bias).settle + 1 < 120 ∧
      40 ≤ (⟨.tripped, 0, 39, 0, false⟩ : Bias).recovery + 1 ∧ (⟨.tripped, 0, 38, 0, false⟩ : Bias).recovery + 1 < 40 ∧
      Rail.reset.state = .normal ∧ Rail.reset.sagSeen = false := by decide

theorem witness_SettleAndRecoveryComplete :
    ({ State.blocks with bias := ⟨.settling, 119, 0, 0, false⟩ } : State).inReset = none ∧
      ({ State.blocks with bias := ⟨.settling, 119, 0, 0, false⟩ } : State).bias.ahead = false ∧
      ({ State.blocks with bias := ⟨.tripped, 0, 39, 0, false⟩ } : State).bias.recovery + 1 = 40 ∧
      State.blocks.rail.state = .normal ∧ State.blocks.rail.sagSeen = false ∧ State.blocks.bias.state ≠ .tripped := by
  decide

/-! ### The verdicts -/

/-- An expectation of the record's burst. -/
def expectationOf (kind : BurstKind) : Expectation :=
  { ident := (recordIn .soak).ident, kind := kind, cycle := 9#32, position := 0, length := 96, sequence := 0#8,
    arrives := 300000 }

/-- The part with a record and its expectation open. -/
def expecting (r : DropRecord) (kind : BurstKind) : State :=
  partWith { legWith r with receiver := { Receiver.reset with expectations := [expectationOf kind] } }
    [some (entryIn .active), none]

theorem witness_AVerdictOutOfPlaceMovesNothing :
    (expecting (recordIn .silenced) .echo).inReset = none ∧
      ((expecting (recordIn .silenced) .echo).leg .q0).receiver.expectations = [expectationOf .echo] ∧
      (expecting (recordIn .silenced) .echo).record .q0 0 = some (recordIn .silenced) ∧
      (recordIn .silenced).ident = (expectationOf .echo).ident ∧ (recordIn .silenced).state = .silenced ∧
      ({ recordIn .soak with ident := ⟨0, 1#32, 2#32⟩ } : DropRecord).ident ≠ (expectationOf .echo).ident ∧
      (expectationOf .echo).arrives + 29 < 300030 ∧ (live .soak).bias.readySince ≤ (expectationOf .echo).arrives + 29 ∧
      BiasState.tripped ≠ .ready := by decide

/-- A good echo, a good service burst, and bad bursts of both kinds. -/
theorem good_echo : GoodBurst (expectationOf .echo) (echoContent 0 0#8 1#8 2#8 3#8) (some (.q1, 515)) :=
  .inl ⟨rfl, 1#8, 2#8, 3#8, [], by simp [expectationOf, recordIn], by decide⟩

theorem good_service :
    GoodBurst (expectationOf .service) (List.replicate 112 0#8 ++ crcBytes (List.replicate 112 0#8)) none :=
  .inr ⟨rfl, rfl, List.replicate 112 0#8, [], by decide, by simp⟩

theorem bad_echo : BadBurst (expectationOf .echo) (.delimiter 3 0 []) .corrupt :=
  .inr ⟨3, 0, [], rfl, by simp [GoodBurst, expectationOf, echoContent], rfl⟩

theorem bad_service : BadBurst (expectationOf .service) (.delimiter 3 0 []) .corrupt :=
  .inr ⟨3, 0, [], rfl, by simp [GoodBurst, expectationOf], rfl⟩

theorem missing_burst (kind : BurstKind) : BadBurst (expectationOf kind) .nothing .missing := .inl ⟨rfl, rfl⟩

theorem witness_VerdictsCountByTheRecordsState :
    (expecting { recordIn .inService with silentRun := 63 } .service).inReset = none ∧
      ((expecting { recordIn .inService with silentRun := 63 } .service).leg .q0).receiver.expectations =
        [expectationOf .service] ∧
      (expecting { recordIn .inService with silentRun := 63 } .service).record .q0 0 =
        some { recordIn .inService with silentRun := 63 } ∧
      64 ≤ ({ recordIn .inService with silentRun := 63 } : DropRecord).silentRun + 1 ∧
      (recordIn .inService).silentRun + 1 < 64 ∧
      (recordIn .soak).offsetField = .absent ∧ (live .soak).bias.state = .ready ∧
      (live .soak).bias.readySince ≤ 300029 ∧ (live .soak).rosterAt 0 = some (entryIn .active) ∧
      (recordIn .soak).misses + 1 < Activation.reset.missLim ∧
      Activation.reset.missLim ≤ ({ recordIn .soak with misses := 3 } : DropRecord).misses + 1 ∧
      Activation.reset.streak ≤ ({ recordIn .soak with streak := 15 } : DropRecord).streak + 1 ∧
      (recordIn .soak).streak + 1 < Activation.reset.streak ∧ (driftOf 3 2).natAbs ≤ 2 ∧
      (recordIn .enrolling).state = .enrolling := by decide

/-- A record with the measurement entry of its expectation's cycle, its power outcome come or not. -/
def outcomeIn (st : DropState) (o : Option PowerOutcome) : DropRecord :=
  { recordIn st with measures := [{ cycle := 9#32, kind := .echo, verdict := none, outcome := o }] }

/-- A level in its window, and one over the range. -/
def levelMid : PowerOutcome := .result (-200) ⟨false, false, false, false⟩
def levelHigh : PowerOutcome := .result (-90) ⟨true, false, false, true⟩

theorem witness_VerdictsCountByTheRecordsState_outcomes :
    (expecting (outcomeIn .levelling (some levelMid)) .echo).record .q0 0 = some (outcomeIn .levelling (some levelMid)) ∧
      ((outcomeIn .levelling (some levelMid)).measures.find? fun m => decide (m.cycle = 9#32)).bind Measure.outcome =
        some levelMid ∧
      ((outcomeIn .enrolling none).measures.find? fun m => decide (m.cycle = 9#32)).bind Measure.outcome = none ∧
      (expecting (outcomeIn .inService (some .unmeasured)) .service).record .q0 0 =
        some (outcomeIn .inService (some .unmeasured)) ∧
      (expectationOf .service).length - 40 = 56 ∧ (List.replicate 112 0#8).length = 2 * 56 ∧
      (outcomeIn .levelling (some levelHigh)).launchField = .absent ∧
      (outcomeIn .levelling (some levelHigh)).hint ≠ .q3 := by decide

/-- A burst not judged in full, a settled one and a corrected one. -/
theorem witness_VerdictsCountByTheRecordsState_drift :
    ¬ JudgedInFull { recordIn .soak with offsetField := .pending } 9#32 ∧
      ¬ JudgedInFull { recordIn .soak with offsetField := .cycle 9#32 } 9#32 ∧
      JudgedInFull { recordIn .soak with offsetField := .cycle 8#32 } 9#32 ∧ JudgedInFull (recordIn .soak) 9#32 ∧
      Drifted 100000 [] 9#32 41 { recordIn .soak with offsetField := .pending }
        { recordIn .soak with offsetField := .pending } [] ∧
      Drifted 100000 [] 9#32 2 (recordIn .soak) { recordIn .soak with lastDrift := 2 } [] ∧
      Drifted 100000 [] 9#32 3 (recordIn .soak)
        { recordIn .soak with lastDrift := 3, e := 59997, r := 40003, offsetField := .pending }
        [⟨.offset 0 59997, some (recordIn .soak).ident, FollowOn.empty⟩] := by
  have full : JudgedInFull (recordIn .soak) 9#32 := .inl rfl
  have part : ¬ JudgedInFull { recordIn .soak with offsetField := .pending } 9#32 := by simp [JudgedInFull]
  exact ⟨part, by simp [JudgedInFull], .inr ⟨8#32, rfl, by decide⟩, full, .inl ⟨part, rfl, rfl⟩,
    .inr (.inl ⟨full, by decide, rfl, rfl⟩),
    .inr (.inr ⟨full, by decide, by decide, 59997, by unfold CorrectsTo; decide,
      .inr ⟨by decide, rfl, by decide⟩⟩)⟩

theorem witness_VerdictsCountByTheRecordsState_stale :
    IsStale { recordIn .levelling with launchField := .pending } 9#32 ∧
      IsStale { recordIn .levelling with launchField := .cycle 9#32 } 9#32 ∧
      ¬ IsStale { recordIn .levelling with launchField := .cycle 8#32 } 9#32 ∧ ¬ IsStale (recordIn .levelling) 9#32 :=
  ⟨.inl rfl, .inr ⟨9#32, rfl, by decide⟩, by simp [IsStale], by simp [IsStale, recordIn]⟩

theorem witness_VerdictsCountByTheRecordsState_ranges :
    reRanges (outcomeIn .levelling (some levelHigh)) ⟨true, false, false, true⟩ ∧
      ¬ reRanges (outcomeIn .levelling (some levelMid)) ⟨false, false, false, false⟩ ∧
      ¬ reRanges { outcomeIn .levelling none with hint := .q3 } ⟨true, false, false, true⟩ := by
  simp [reRanges, outcomeIn, recordIn]

theorem witness_VerdictsCountByTheRecordsState_enrolling :
    (∀ q ∈ ((expecting { recordIn .enrolling with enrolTx := some 8#32, echoes := 2 } .echo).leg .q0).queue,
        ∀ tag e launch, q.dir ≠ .enrol tag 0 e launch) ∧
      0 < ((expectationOf .echo).cycle - 8#32).toInt ∧ ¬ 0 < ((expectationOf .echo).cycle - 9#32).toInt ∧
      (expecting { recordIn .enrolling with enrolTx := some 8#32, echoes := 2 } .echo).record .q0 0 =
        some { recordIn .enrolling with enrolTx := some 8#32, echoes := 2 } := by
  refine ⟨?_, by decide, by decide, by decide⟩
  intro q hq
  exact absurd hq List.not_mem_nil

theorem witness_DriftIsCorrectedOrEndsTheRecord :
    (expecting (outcomeIn .levelling none) .echo).inReset = none ∧
      ((expecting (outcomeIn .levelling none) .echo).leg .q0).receiver.expectations = [expectationOf .echo] ∧
      (expecting (outcomeIn .levelling none) .echo).record .q0 0 = some (outcomeIn .levelling none) ∧
      ((outcomeIn .levelling none).measures.find? fun m => decide (m.cycle = (expectationOf .echo).cycle)) =
        some ⟨9#32, .echo, none, none⟩ ∧
      (2 : Int) = 20 * (((3 : Fin 6).val : Int) - 3) + ((2 : Fin 20).val : Int) ∧
      (3 : Int) = 20 * (((3 : Fin 6).val : Int) - 3) + ((3 : Fin 20).val : Int) ∧
      (40 : Int) = 20 * (((5 : Fin 6).val : Int) - 3) + ((0 : Fin 20).val : Int) ∧
      (41 : Int) = 20 * (((5 : Fin 6).val : Int) - 3) + ((1 : Fin 20).val : Int) ∧
      (-41 : Int) = 20 * (((0 : Fin 6).val : Int) - 3) + ((19 : Fin 20).val : Int) ∧
      CorrectsTo 100000 60000 3 59997 ∧ CorrectsTo 100000 0 3 0 ∧ CorrectsTo 100000 60000 41 59992 ∧
      (recordIn .enrolling).state ≠ .silenced ∧ (recordIn .soak).streak + 1 < Activation.reset.streak ∧
      (expecting (recordIn .inService) .service).rosterAt 0 = some (entryIn .active) := by
  unfold CorrectsTo
  decide

/-! ### Announces -/

/-- The scan of a window with an announce in hand. -/
def scanOf (found : List AnnounceInHand) : WindowScan := { cycle := 8#32, marker := 250000, hunt := 9000, found := found }

/-- The part scanning a window on leg 0, with an announce queue, a roster and a converter. -/
def scanning (found : List AnnounceInHand) (announces : List Announce) (roster : List (Option RosterEntry))
    (converter : Converter) : State :=
  { partWith { legWith (recordIn .soak) with
                receiver := { Receiver.reset with scan := some (scanOf found), announces := announces } } roster with
    meter := { Meter.reset.setOffset .q0 .q2 ⟨some 60, true, 0⟩ with converter := converter } }

/-- An earlier decision of the converter's arbiter. -/
def earlier : Decision := { instant := 250000, form := .queued, leg := .q1 }

/-- That part with an earlier decision, its range's offset valid or not. -/
def decided (s : State) : State := { s with meter := { s.meter with decided := some earlier } }

theorem witness_AnnouncesAreFoundInTheirWindow :
    (decided (scanning [] [] [] .idle)).inReset = none ∧
      ((decided (scanning [] [] [] .idle)).leg .q0).receiver.scan = some (scanOf []) ∧
      (true = true ↔ ∃ i, 32 ≤ i ∧ i < 48 ∧ (1#48 <<< 47).getLsbD i = true) ∧
      ((decided (scanning [] [] [] .idle)).leg .q0).derived.omega ≤ 9000 ∧
      16175 < ((decided (scanning [] [] [] .idle)).leg .q0).derived.omega +
        ((decided (scanning [] [] [] .idle)).leg .q0).derived.w ∧
      (scanOf []).hunt ≤ 9000 ∧ (decided (scanning [] [] [] .idle)).bias.state = .ready ∧
      (∀ e, (decided (scanning [] [] [] .idle)).meter.decided = some e → e.instant ≠ 259000) ∧
      (decided (scanning [] [] [] .idle)).meter.scheduled = [] ∧
      (decided (scanning [] [] [] .idle)).offset .q0 .q2 = ⟨some 60, true, 0⟩ ∧
      (∀ k q rest, (decided (scanning [] [] [] .idle)).meter.queues.get k = q :: rest → q.start ≠ 259000) ∧
      (scanning [] [] [] (.calibrating .q1 .q2 0)).meter.converter ≠ .idle ∧
      (scanning [] [] [] .idle).offset .q0 .q1 = OffsetEntry.invalid ∧
      ((scanning [] [] [] .idle).leg .q1).receiver.scan = none ∧
      (∀ c ∈ ((scanning [] [] [] .idle).leg .q1).receiver.inHand, c.closed = true) := by
  refine ⟨by decide, by decide, ⟨fun _ => ⟨47, by decide⟩, fun _ => rfl⟩, by decide, by decide, by decide, by decide,
    ?_, by decide, by decide, ?_, by decide⟩
  · intro e h
    cases h
    decide
  · intro k q rest h
    cases k <;> exact absurd h (List.cons_ne_nil _ _).symm

theorem witness_LeavingReadyBlindsTheLegs_announce :
    keptAnnounces (scanning [⟨9500, 3, false, .awaited, true⟩, ⟨9800, 0, true, .lost, false⟩] [] []
        (.sampling .q0 (.announce 9500) .q2 259508 60)) .q0
      (scanOf [⟨9500, 3, false, .awaited, true⟩, ⟨9800, 0, true, .lost, false⟩]) =
        [⟨9500, 3, false, .abandoned, true⟩] ∧
    keptAnnounces (scanning [⟨9500, 3, false, .awaited, false⟩] [] []
        (.sampling .q0 (.announce 9500) .q2 259508 60)) .q0 (scanOf [⟨9500, 3, false, .awaited, false⟩]) = [] := by
  decide

/-- An announce in hand at the first position of the window, with its sample as given, its content ended or not. -/
def inHandAt (sample : AnnounceSample) (ended : Bool := false) : AnnounceInHand :=
  { a := 9500, p := 3, crowded := false, sample := sample, ended := ended }

/-- The state that a command leaves. -/
def after (c : Instr) (s : State) : State :=
  match exec c s with
  | .next t => t
  | _ => s

/-- The part that samples an announce, and the end of that announce's content. -/
def sampled : State := scanning [inHandAt .awaited] [] [] (.sampling .q0 (.announce 9500) .q2 259508 60)
def contentEnd : Instr := .announceJudgementComplete .q0 9500 (announceBody tag1 0#8 1#8 ++ [0xD2#8, 0xE6#8])

/-- The queue of leg 0 as its announces stand in it: position, power and the attribute UNSAMPLED. -/
def queuedIn (s : State) : List (Nat × Option Int × Bool) :=
  (s.leg .q0).receiver.announces.map fun a => (a.a, a.power, a.vector.unsampled)

/-- R57, R66, R67, R133: an announce that loses its sample after the end of its content is UNSAMPLED. -/
theorem test_sample_lost_after_content :
    queuedIn (after contentEnd (after .railSag (after contentEnd sampled))) = [(9500, none, true)] := by decide

/-- R57: an announce that loses its sample before the end of its content is dropped. -/
theorem test_sample_lost_before_content :
    ((after .railSag sampled).leg .q0).receiver.scan = some (scanOf []) := by decide

/-- The announce that its judgement queues. -/
def announce1 : Announce :=
  { cycle := 8#32, tag := tag1, holdoff := 0, launch := .q1, a := 9500, p := 3, r := 0, power := none,
    vector := AttrSet.empty }

theorem witness_AnnouncesAreJudged :
    (scanning [inHandAt .lost] [] [] .idle).inReset = none ∧
      ((scanning [inHandAt .lost] [] [] .idle).leg .q0).receiver.scan = some (scanOf [inHandAt .lost]) ∧
      (scanOf [inHandAt .lost]).found.find? (fun g => decide (g.a = (inHandAt .lost).a)) = some (inHandAt .lost) ∧
      (9363 : Int) = 20 * ((9500 : Int) - 5000 - 4000 - 64 * ((0#8 : Byte).toNat : Int) - 32 - 0) + 3 ∧
      (0 : Int) ≤ 9363 ∧ (9363 : Int) ≤ Derived.reset.z ∧
      (-11117 : Int) = 20 * ((9500 : Int) - 5000 - 4000 - 64 * ((16#8 : Byte).toNat : Int) - 32 - 0) + 3 ∧
      ([0#8, 0#8] : List Byte) ≠ crcBytes (announceBody tag1 0#8 1#8) ∧
      (inHandAt .awaited).sample = .awaited ∧ (inHandAt .lost).sample ≠ .awaited ∧
      (scanOf [inHandAt .abandoned]).found.find? (fun g => decide (g.a = 9500)) = some (inHandAt .abandoned) ∧
      (inHandAt .abandoned).ended = false ∧ (inHandAt .abandoned true).ended = true ∧
      (live .soak).bias.readySince + 48 ≤ 250000 + 9500 ∧
      Screened AttrSet.empty AttrSet.empty { AttrSet.empty with unsampled := true } ∧
      ¬ Screened { AttrSet.empty with unsampled := true } AttrSet.empty { AttrSet.empty with unsampled := true } ∧
      ([] : List Announce).length < 8 ∧ 8 ≤ (List.replicate 8 announce1).length ∧
      (live .soak).rosterEntry tag1 = some (0, entryIn .active) ∧ (live .soak).rosterEntry tag2 = none := by
  refine ⟨by decide, by decide, by decide, by decide, by decide, by decide, by decide, by decide, by decide, by decide,
    by decide, by decide, by decide, by decide, ?_, ?_, by decide, by decide, by decide, by decide⟩ <;>
    simp [Screened, AttrSet.empty]

theorem witness_TheWindowsEndAdmitsItsAnnounces :
    (scanning [] [announce1] [none] .idle).inReset = none ∧
      ((scanning [] [announce1] [none] .idle).leg .q0).receiver.scan = some (scanOf []) ∧
      (scanOf []).found = [] ∧ (scanOf [inHandAt .awaited]).found ≠ [] ∧
      ((scanning [] [announce1] [none] .idle).leg .q0).receiver.announces = [announce1] ∧
      (scanning [] [announce1] [none] .idle).rosterEntry tag1 = none ∧
      (scanning [] [announce1] [none] .idle).candidate tag1 = none ∧
      ((scanning [] [announce1] [none] .idle).leg .q0).setup.policy = .hold ∧
      (withCandidate [none]).candidate tag1 = some (candidateOf tag1) ∧
      (scanning [] [announce1] [some (entryIn .barred)] .idle).rosterEntry tag1 = some (0, entryIn .barred) ∧
      (scanning [] [announce1] [some (entryIn .expected)] .idle).rosterEntry tag1 = some (0, entryIn .expected) ∧
      firstFree (legWith (recordIn .soak)).drops = some 1 ∧
      (scanning [] [announce1] [some (entryIn .active)] .idle).rosterEntry tag1 = some (0, entryIn .active) ∧
      (entryIn .active).link = some (.q0, 0) ∧
      (scanning [] [announce1] [some (entryIn .active)] .idle).record .q0 0 = some (recordIn .soak) ∧
      (recordIn .soak).rosterIndex = 0 ∧ (recordIn .soak).isolated = false ∧
      firstFree ((legWith (recordIn .soak)).drops.set 0 none) = some 0 := by decide

/-- A refresh of a candidate whose tag has a roster entry, and a candidate of another leg that stands. -/
theorem witness_TheWindowsEndAdmitsItsAnnounces_candidate :
    (∃ t, Decides .q0 announce1 (withCandidate [some (entryIn .expected)]) t) ∧
      ∃ t, Decides .q1 announce1 (withCandidate [some (entryIn .active)]) t :=
  ⟨⟨_, .inl ⟨candidateOf tag1, by decide, .inl ⟨rfl, rfl⟩⟩⟩, ⟨_, .inl ⟨candidateOf tag1, by decide, .inr ⟨by decide, rfl⟩⟩⟩⟩

/-- A tag held as DUPLICATE on another leg, and one parked. -/
theorem witness_TheWindowsEndAdmitsItsAnnounces_others :
    (∃ t, Decides .q1 announce1 (live .soak) t) ∧
      (∃ t, Decides .q0 announce1 (partWith (legWith (recordIn .soak)) [some (entryIn .barred)]) t) ∧
      ∃ t, Decides .q0 announce1 (live .enrolling) t :=
  ⟨⟨_, .inr ⟨rfl, .inr ⟨0, entryIn .active, by decide, .inr (.inr ⟨.q0, 0, rfl, rfl, .inl ⟨by decide,
      .inl ⟨by decide, rfl⟩⟩⟩)⟩⟩⟩,
    ⟨_, .inr ⟨rfl, .inr ⟨0, entryIn .barred, by decide, .inl ⟨rfl, rfl⟩⟩⟩⟩,
    ⟨_, .inr ⟨rfl, .inr ⟨0, entryIn .active, by decide, .inr (.inr ⟨.q0, 0, rfl, rfl, .inr ⟨rfl,
      recordIn .enrolling, by decide, .inl ⟨rfl, rfl⟩⟩⟩)⟩⟩⟩⟩

/-- A leg with no FREE record, a Candidate List that holds 16, and a policy that discards. -/
theorem witness_TheWindowsEndAdmitsItsAnnounces_full :
    (∃ t, Decides .q0 announce1
      (partWith { legWith (recordIn .soak) with drops := [some (recordIn .soak)] } [some (entryIn .expected)]) t) ∧
      (∃ t, Held .q0 announce1 .unknown none
        { live .soak with candidates := List.replicate 16 (candidateOf tag2) } t) ∧
      ∃ t, Decides .q0 announce1
        (partWith { legWith (recordIn .soak) with setup := { Setup.reset with policy := .discard } } [none]) t :=
  ⟨⟨_, .inr ⟨rfl, .inr ⟨0, entryIn .expected, by decide, .inr (.inl ⟨rfl, .inr (.inl ⟨.inl rfl, by decide,
      .inl ⟨by decide, rfl⟩⟩)⟩)⟩⟩⟩,
    ⟨_, .inr ⟨by decide, rfl⟩⟩, ⟨_, .inr ⟨rfl, .inl ⟨by decide, .inr ⟨rfl, rfl⟩⟩⟩⟩⟩

/-- A record superseded whose entry expects another leg: it ends, and the announce is then held as CROSSED. -/
theorem witness_TheWindowsEndAdmitsItsAnnounces_crossed :
    ∃ t, Decides .q0 announce1
      (partWith (legWith (recordIn .soak)) [some { entryIn .active with expected := .leg .q2 }]) t :=
  ⟨_, .inr ⟨rfl, .inr ⟨0, { entryIn .active with expected := .leg .q2 }, by decide, .inr (.inr ⟨.q0, 0, rfl, rfl,
    .inr ⟨rfl, recordIn .soak, by decide, .inr ⟨by decide, rfl, _, .inl ⟨rfl, rfl⟩,
      .inl ⟨by decide, .inl ⟨by decide, rfl⟩⟩⟩⟩⟩)⟩⟩⟩

/-! ### The close of a calendar -/

/-- A calendar with an echo at its head. -/
def calendar9 : Calendar :=
  { cycle := 9#32, marker := 281250, spill := none, window := none, echoes := [⟨0, 0, 0#8⟩], services := [],
    scaled := false, darkTail := true, hold := false, closed := false }

/-- The part whose leg 0 has that calendar in hand, with a run, a record and a count of clean cycles. -/
def closing (run : Option IsolationRun) (r : DropRecord) (latch : Bool) (count : Nat) : State :=
  partWith { legWith r with
              run := run,
              receiver := { Receiver.reset with inHand := [calendar9], latch := latch, cleanCount := count } }
    [some (entryIn .active), none]

theorem calendar9_fits : calendar9.Fits :=
  ⟨by simp [Calendar.bursts, calendar9], by simp [Calendar.bursts, Calendar.firstFree, calendar9],
    by simp [Calendar.bursts, calendar9]⟩

theorem calendar9_closing (run : Option IsolationRun) (r : DropRecord) (latch : Bool) (count : Nat) :
    Closing ((closing run r latch count).leg .q0).receiver calendar9 none :=
  ⟨rfl, rfl, calendar9_fits, by simp, .inl rfl, by simp [calendar9]⟩

theorem calendar9_watched : Watched calendar9 none 31200 := by
  simp [Watched, calendar9, Calendar.bursts]

/-- A light of one tick in the dark tail makes the calendar stray, and none makes it clean. -/
theorem closing_stray (run : Option IsolationRun) (r : DropRecord) (latch : Bool) (count : Nat) :
    ClassIs (closing run r latch count) .q0 calendar9 none [(31200, 1)] .stray :=
  ⟨rfl, rfl, Nat.zero_le _, 31200, calendar9_watched, (31200, 1), by simp⟩

theorem closing_clean (run : Option IsolationRun) (r : DropRecord) (latch : Bool) (count : Nat) :
    ClassIs (closing run r latch count) .q0 calendar9 none [] .clean :=
  ⟨rfl, rfl, Nat.zero_le _, ⟨31200, calendar9_watched⟩, by simp [Lit]⟩

theorem closing_neutral (run : Option IsolationRun) (r : DropRecord) (latch : Bool) (count : Nat) :
    ClassIs { closing run r latch count with bias := Bias.reset } .q0 calendar9 none [] .neutral :=
  .inr (.inl (by simp [Bias.reset]))

theorem history_dark : HistoryIs [] 0#48 := by intro i _; simp [Lit]

theorem history_stray : HistoryIs [(31200, 1)] 0#48 := by intro i hi; simp [Lit]; omega

theorem witness_TheStrayLatchFollowsItsTable :
    (closing none (recordIn .soak) false 0).inReset = none ∧
      Closing ((closing none (recordIn .soak) true 15).leg .q0).receiver calendar9 none ∧
      ((closing none (recordIn .soak) true 15).leg .q0).run = none ∧
      ClassIs (closing none (recordIn .soak) false 0) .q0 calendar9 none [(31200, 1)] .stray ∧
      ClassIs (closing none (recordIn .soak) true 15) .q0 calendar9 none [] .clean ∧
      ClassIs { closing none (recordIn .soak) true 15 with bias := Bias.reset } .q0 calendar9 none [] .neutral ∧
      HistoryIs [(31200, 1)] 0#48 ∧ HistoryIs [] 0#48 ∧
      ((closing none (recordIn .soak) false 0).leg .q0).receiver.latch = false ∧
      16 ≤ ((closing none (recordIn .soak) true 15).leg .q0).receiver.cleanCount + 1 ∧
      ((closing none (recordIn .soak) true 14).leg .q0).receiver.cleanCount + 1 < 16 :=
  ⟨rfl, calendar9_closing _ _ _ _, rfl, closing_stray _ _ _ _, closing_clean _ _ _ _, closing_neutral _ _ _ _,
    history_stray, history_dark, by decide⟩

/-- A run on the record's turn, begun by a Silence of a cycle. -/
def runOf (phase : TurnPhase) (silence : Cycle) (clean : Nat) (more : List Identity) : IsolationRun :=
  { list := (recordIn .soak).ident :: more, pos := 0, begun := 1, phase := phase, silence := some silence,
    clean := clean }

/-- The record in its turn, and another live one. -/
def inTurn : DropRecord := { recordIn .soak with isolated := true }
def nextOne : DropRecord := { recordIn .soak with ident := ⟨1, 2#32, 2#32⟩, tag := tag2, rosterIndex := 1 }

theorem witness_AnIsolationTurnIsWatched :
    (closing (some (runOf .watch 6#32 3 [])) inTurn true 0).inReset = none ∧
      Closing ((closing (some (runOf .watch 6#32 3 [])) inTurn true 0).leg .q0).receiver calendar9 none ∧
      ((closing (some (runOf .watch 6#32 3 [])) inTurn true 0).leg .q0).run = some (runOf .watch 6#32 3 []) ∧
      ClassIs (closing (some (runOf .watch 6#32 3 [])) inTurn true 0) .q0 calendar9 none [] .clean ∧
      ClassIs (closing (some (runOf .watch 6#32 2 [])) inTurn true 0) .q0 calendar9 none [(31200, 1)] .stray ∧
      ClassIs { closing (some (runOf .watch 6#32 2 [])) inTurn true 0 with bias := Bias.reset } .q0 calendar9 none []
        .neutral ∧
      (runOf .watch 6#32 3 []).list[(runOf .watch 6#32 3 []).pos]? = some inTurn.ident ∧
      (closing (some (runOf .watch 6#32 3 [])) inTurn true 0).record .q0 0 = some inTurn ∧ inTurn.isolated = true ∧
      (calendar9.cycle - 6#32).toInt = 3 ∧ (calendar9.cycle - 7#32).toInt = 2 ∧ (calendar9.cycle - 8#32).toInt = 1 ∧
      4 ≤ (runOf .watch 6#32 3 []).clean + 1 ∧ (runOf .watch 6#32 2 []).clean + 1 < 4 ∧
      (runOf .watch 6#32 2 []).list.drop 1 = [] ∧ (runOf .watch 6#32 2 [nextOne.ident]).list.drop 1 = [nextOne.ident] ∧
      nextOne.ident.drop ≠ inTurn.ident.drop ∧ nextOne.state ≠ .silenced :=
  ⟨rfl, calendar9_closing _ _ _ _, rfl, closing_clean _ _ _ _, closing_stray _ _ _ _, closing_neutral _ _ _ _,
    by decide⟩

theorem witness_DropRetireEndsARecord_turn :
    (live .soak).takes ∧ ((closing (some (runOf .watch 6#32 3 [nextOne.ident])) inTurn true 0).leg .q0).run =
        some (runOf .watch 6#32 3 [nextOne.ident]) ∧
      (runOf .watch 6#32 3 [nextOne.ident]).list.drop 1 = [] ++ [nextOne.ident] ∧
      (runOf .watch 6#32 3 [inTurn.ident]).list.drop 1 = [inTurn.ident] ++ [] ∧
      nextOne.ident.drop = 1 ∧ nextOne.state ≠ .silenced ∧ inTurn.isolated = true :=
  ⟨live_takes _, by decide⟩

/-- The part whose leg 0 is in an isolation turn of its first record, with a second live one and both entries. -/
def turning : State :=
  partWith
    { legWith inTurn with drops := [some inTurn, some nextOne], run := some (runOf .watch 6#32 3 [nextOne.ident]) }
    [some (entryIn .active), some { entryIn .active with tag := tag2, link := some (.q0, 1) }]

/-- Two announces in turn: the first supersedes the record in its isolation turn, whose turn gives way to the next
candidate's, and is admitted; the second, of the same tag, finds it ENROLLING. -/
theorem witness_TheWindowsEndAdmitsItsAnnounces_turn :
    turning.record .q0 0 = some inTurn ∧ ∃ t, DecidedInTurn .q0 [announce1, announce1] turning t :=
  ⟨rfl, _, _, .inr ⟨rfl, .inr ⟨0, entryIn .active, by decide, .inr (.inr ⟨.q0, 0, rfl, rfl, .inr ⟨rfl, inTurn, by decide,
      .inr ⟨by decide, rfl, _, .inr ⟨rfl, runOf .watch 6#32 3 [nextOne.ident], [], [nextOne.ident], rfl, rfl,
          by simp, .inr ⟨nextOne, 1, [], rfl, rfl, by decide, rfl, by decide, rfl⟩⟩,
        .inr (.inr ⟨.inl rfl, 0, by decide, rfl⟩)⟩⟩⟩)⟩⟩,
    _, .inr ⟨rfl, .inr ⟨0, { entryIn .active with lastHeard := some (.q0, 8#32) }, by decide,
      .inr (.inr ⟨.q0, 0, rfl, rfl, .inr ⟨rfl, _, rfl, .inl ⟨rfl, rfl⟩⟩⟩)⟩⟩, rfl⟩

theorem witness_DropRetireEndsARecord_passed : PassedOver (legWith inTurn) 0 inTurn.ident := .inl rfl

/-! ### The converter -/

/-- The request of the record's sample. -/
def request1 : SampleRequest :=
  { ident := (recordIn .soak).ident, cycle := 9#32, kind := .echo, range := .q2, start := 300040 }

/-- The record with the measurement entry of that request. -/
def measured : DropRecord :=
  { recordIn .soak with measures := [{ cycle := 9#32, kind := .echo, verdict := none, outcome := none }] }

/-- The part with that request at the head of leg 0's queue, requests of leg 1, and a converter. -/
def sampling (others : List SampleRequest) (converter : Converter) : State :=
  { partWith (legWith measured) [some (entryIn .active)] with
    meter :=
      { Meter.reset.setOffset .q0 .q2 ⟨some 60, true, 0⟩ with
        converter := converter, queues := ⟨[request1], others, [], []⟩ } }

theorem witness_AResultReachesWhatItServes :
    (sampling [] (.sampling .q0 (.drop request1) .q2 300040 60)).inReset = none ∧
      PowerIs 4000 60 (defaultTables.get .q2) (-160) true false ∧
      PowerIs 99 60 (defaultTables.get .q2) (-290) false true ∧
      PowerIs 3999 60 (defaultTables.get .q2) (-161) false false ∧
      (sampling [] (.sampling .q0 (.drop request1) .q2 300040 60)).meter.converter =
        .sampling .q0 (.drop request1) .q2 300040 60 ∧
      (sampling [] .idle).record .q0 0 = some measured ∧ measured.ident = request1.ident ∧
      (scanning [] [] [] (.sampling .q0 (.announce 9500) .q2 259508 60)).meter.converter =
        .sampling .q0 (.announce 9500) .q2 259508 60 ∧
      ((scanning [] [] [] .idle).leg .q0).receiver.scan = some (scanOf []) :=
  ⟨rfl, .inl (by decide), .inr (.inl (by decide)), .inr (.inr ⟨by decide, by decide, rfl, rfl, -166, -160, by decide⟩),
    by decide⟩

/-- The record in LEVELLING whose measured burst was GOOD. -/
def measuredGood : DropRecord :=
  { recordIn .levelling with
    launch := .q1, adjustments := 2, unmeasured := 7,
    measures := [{ cycle := request1.cycle, kind := .echo, verdict := some .good, outcome := none }] }

/-- The part with that record's sample in hand. -/
def levelling : State :=
  { sampling [] (.sampling .q0 (.drop request1) .q2 300040 60) with
    legs := (live .soak).legs.set .q0 (legWith measuredGood) }

theorem witness_AGoodResultLevelsItsRecord :
    levelling.inReset = none ∧ levelling.meter.converter = .sampling .q0 (.drop request1) .q2 300040 60 ∧
      levelling.meter.tables = defaultTables ∧
      PowerIs 99 60 (defaultTables.get .q2) (-290) false true ∧ PowerIs 3999 60 (defaultTables.get .q2) (-161) false false ∧
      levelling.record .q0 request1.ident.drop = some measuredGood ∧ measuredGood.ident = request1.ident ∧
      measuredGood.isolated = false ∧ measuredGood.launchField = .absent ∧ measuredGood.state = .levelling ∧
      measuredGood.measures.find? (fun m => decide (m.cycle = request1.cycle)) =
        some ⟨request1.cycle, .echo, some .good, none⟩ ∧
      measuredGood.hint ≠ .q0 ∧ measuredGood.adjustments < 3 ∧ 8 ≤ measuredGood.unmeasured + 1 ∧
      Activation.reset.floor ≤ -161 ∧ (-161 : Int) ≤ Activation.reset.ceiling ∧ (-290 : Int) < Activation.reset.floor :=
  ⟨by decide, by decide, by decide, .inr (.inl (by decide)),
    .inr (.inr ⟨by decide, by decide, rfl, rfl, -166, -160, by decide⟩), by decide⟩

/-- The part with a calibration scheduled on leg 0. -/
def scheduledPart (converter : Converter) : State :=
  decided { live .soak with meter := { Meter.reset with scheduled := [⟨.q0, .q2, 321450⟩], converter := converter } }

theorem queued_none {k : LegId} {instant : Nat} (h2 : k ≠ .q0) (h3 : k ≠ .q1) (others : List SampleRequest)
    (c : Converter) : ¬ QueuedAt (sampling others c).meter instant k := by
  rintro ⟨q, rest, h, -⟩
  cases k <;> first | exact absurd rfl h2 | exact absurd rfl h3 | exact absurd h (List.cons_ne_nil _ _).symm

/-- Alone at its instant the request of leg 0 is favoured; in a tie with leg 1's the tie pointer decides. -/
theorem favours_alone : FavoursAt (sampling [] .idle).meter request1.start .q0 .q0 := by
  have only : ∀ k, QueuedAt (sampling [] .idle).meter request1.start k → k = .q0 := by
    rintro k h
    by_contra h0
    by_cases h1 : k = .q1
    · obtain ⟨q, rest, hq, -⟩ := h1 ▸ h
      exact absurd hq (List.cons_ne_nil _ _).symm
    · exact queued_none h0 h1 _ _ h
  exact ⟨⟨request1, [], rfl, rfl⟩, fun k h hk => absurd (only k h) hk, .inr ⟨only, rfl⟩⟩

theorem favours_tie (pointer : LegId) (h : pointer = .q0 ∨ pointer = .q1) :
    FavoursAt { (sampling [request1] .idle).meter with tiePtr := pointer } request1.start pointer pointer.next := by
  have claim : ∀ k, k = .q0 ∨ k = .q1 → QueuedAt (sampling [request1] .idle).meter request1.start k := by
    rintro k (rfl | rfl) <;> exact ⟨request1, [], rfl, rfl⟩
  refine ⟨claim pointer h, fun _ _ _ => .inl rfl, .inl ⟨?_, rfl⟩⟩
  rcases h with rfl | rfl
  · exact ⟨.q1, by decide, claim .q1 (.inr rfl)⟩
  · exact ⟨.q0, by decide, claim .q0 (.inl rfl)⟩

/-- A calibration whose instant is the start of a queued sample. -/
theorem witness_TheConverterServesSamplesAndCalibrations_passed :
    ∃ m : Meter, m.scheduled = [⟨.q1, .q2, 300040⟩] ∧ m.converter = .idle ∧ FavoursAt m 300040 .q0 .q0 :=
  ⟨{ (sampling [] .idle).meter with scheduled := [⟨.q1, .q2, 300040⟩] }, rfl, rfl, favours_alone⟩

theorem witness_TheConverterServesSamplesAndCalibrations_samples :
    (decided (sampling [] .idle)).inReset = none ∧
      (decided (sampling [] .idle)).meter.queues.get .q0 = [request1] ∧
      (∀ e, (decided (sampling [] .idle)).meter.decided = some e → e.instant ≠ request1.start) ∧
      Quad.q1 ≠ .q0 ∧ (sampling [] .idle).meter.converter = .idle ∧
      (sampling [] .idle).bias.state = .ready ∧ (sampling [] .idle).offset .q0 request1.range = ⟨some 60, true, 0⟩ ∧
      (sampling [] (.calibrating .q1 .q0 0)).meter.converter ≠ .idle ∧
      (sampling [] .idle).record .q0 request1.ident.drop = some measured ∧ measured.ident = request1.ident ∧
      (measured.measures.find? (fun m => decide (m.cycle = request1.cycle))).map Measure.verdict = some none := by
  refine ⟨by decide, by decide, ?_, by decide, by decide, by decide, by decide, by decide, by decide, by decide,
    by decide⟩
  intro e h
  cases h
  decide

theorem witness_TheConverterServesSamplesAndCalibrations :
    (scheduledPart .idle).inReset = none ∧ (scheduledPart .idle).meter.scheduled = [⟨.q0, .q2, 321450⟩] ∧
      (scheduledPart .idle).meter.converter = .idle ∧ (scheduledPart .idle).bias.state = .ready ∧
      ((scheduledPart .idle).leg .q0).state ≠ .stopped ∧
      (∀ e, (scheduledPart .idle).meter.decided = some e → e.instant ≠ 321450) ∧
      (∀ j b bs, (scheduledPart .idle).meter.queues.get j = b :: bs → b.start ≠ 321450) ∧
      (scheduledPart (.calibrating .q0 .q2 0)).meter.converter = .calibrating .q0 .q2 0 ∧ (1#32 <<< 31) ≠ 0#32 := by
  refine ⟨by decide, by decide, by decide, by decide, by decide, ?_, ?_, by decide, by decide⟩
  · intro e h
    cases h
    decide
  · intro j b bs h
    cases j <;> exact absurd h (List.cons_ne_nil _ _).symm

/-! ### The directive queue -/

/-- An entry of drop 3. -/
def offsetEntry : QueueEntry := { dir := .offset 3 77, ident := none, follow := FollowOn.empty }

theorem witness_DirectivesMeetByTheirTable :
    (∀ b ∈ [enrolEntry], b.dir.drop? ≠ some 3) ∧ offsetEntry.dir.drop? = some 3 ∧
      (Directive.launch 3 .q0).drop? = some 3 ∧ isOffset offsetEntry.dir = true ∧ isLaunch (.launch 3 .q0) = true ∧
      (∀ q ∈ (legWith (recordIn .soak)).queue, q.dir ≠ .park tag1) ∧ parkCount [enrolEntry] < 16 ∧
      16 ≤ parkCount (List.replicate 16 { offsetEntry with dir := .park tag2 }) := by decide

/-! ### Formats and invariants -/

theorem witness_RequestPayloadsRoundTrip :
    setupHigh.zEntered < 4294967296 ∧ setupHigh.near < 256 ∧ activationHigh.timeout < 65536 ∧
      wideTable.values.length = 9 ∧ (∀ v ∈ wideTable.values, -32768 ≤ v ∧ v < 32768) ∧
      parseSetup (setupBytes setupHigh) = some setupHigh := by decide

/-- The blocks after a power reset, before READY, meet the invariants; a step from them answers a next state. -/
theorem blocks_step : step State.blocks = .next State.blocks := rfl

theorem witness_EveryStepKeepsTheInterface : State.blocks.iface.Sound :=
  ⟨by decide, by decide, by decide, rfl, fun _ => ⟨rfl, rfl, rfl⟩, fun _ h => by cases h⟩

theorem blocks_record (l : LegId) (d : Nat) : (State.blocks.leg l).record d = none := by
  have : (State.blocks.leg l).drops = List.replicate Config.dropsPerLeg none := by cases l <;> rfl
  simp only [Leg.record, this, List.getElem?_replicate]
  split <;> rfl

theorem witness_EveryStepKeepsTheSupervision : State.blocks.Supervised := by
  refine ⟨⟨by decide, by decide, fun _ => rfl, fun _ => rfl⟩, fun l => ?_, fun l h => ?_, fun l _ => ?_⟩
  · have hl : State.blocks.leg l = Leg.reset := by cases l <;> rfl
    have hr : ∀ d, Leg.reset.record d = none := fun d => hl ▸ blocks_record l d
    rw [hl]
    exact ⟨fun h => (by cases h), fun h => (by cases h), fun h => (by cases h), by decide,
      fun _ => ⟨rfl, rfl, rfl, hr, rfl, rfl, rfl, rfl, rfl, rfl⟩, .inl rfl, fun h => absurd rfl h,
      fun _ h => (by cases h), by decide⟩
  · cases h
  · cases l <;> exact ⟨rfl, rfl, by simp [State.blocks, Meter.reset], by simp [State.blocks]⟩

theorem witness_EveryStepKeepsTheLinks : State.blocks.Linked := by
  have he : ∀ i, State.blocks.rosterAt i = none := by
    intro i
    simp only [State.rosterAt, State.blocks, List.getElem?_replicate]
    split <;> rfl
  refine ⟨by decide, fun l => by cases l <;> decide, fun i j e f h => ?_, fun i e h => ?_, fun l d r h => ?_,
    ⟨by decide, by decide⟩, fun c h => ?_, fun l => ?_⟩
  · rw [he] at h; cases h
  · rw [he] at h; cases h
  · rw [State.record, blocks_record] at h; cases h
  · cases h
  · have hl : State.blocks.leg l = Leg.reset := by cases l <;> rfl
    rw [hl]
    exact ⟨by simp [Leg.reset], by simp [Leg.reset], by decide, by decide, by decide, by decide⟩

theorem witness_TheWindowsEndAdmitsItsAnnounces_linked :
    State.blocks.Linked ∧
      ∀ d r, State.blocks.record .q0 d = some r → r.isolated = true → (State.blocks.leg .q0).run ≠ none :=
  ⟨witness_EveryStepKeepsTheLinks, fun d r h => by rw [State.record, blocks_record] at h; cases h⟩

theorem witness_EveryStepKeepsTheEqualization :
    State.blocks.Linked ∧ State.blocks.Equalized ∧ step State.blocks = .next State.blocks := by
  refine ⟨witness_EveryStepKeepsTheLinks, ?_, blocks_step⟩
  refine ⟨fun l d r h => ?_, fun l a h => ?_, fun c h => ?_, fun l _ => ⟨fun d => blocks_record l d, ?_, ?_, ?_⟩⟩
  · rw [State.record, blocks_record] at h; cases h
  · cases l <;> cases h
  · cases h
  · cases l <;> rfl
  · cases l <;> rfl
  · intro c h; cases h

end Sys2Proof.Machine
end

section
/-! SUPPORT. The departures of a directive queue (R51, R52, R53): what one entry that leaves does to its leg, and what
the entries that leave together do. -/

namespace Sys2Proof.Machine

/-! ## What an entry reads of its record -/

theorem Leg.recordOf_eq_queuedFor (x : Leg) (q : QueueEntry) : x.recordOf q = queuedFor x q := by
  unfold Leg.recordOf queuedFor
  cases q.ident with
  | none => rfl
  | some i =>
    cases h : x.record i.drop with
    | none => simp [h]
    | some r => by_cases hi : r.ident = i <;> simp [h, Option.filter, hi, Ne.symm]

/-- An entry's record stands at the drop of the identity it was queued for. -/
theorem queuedFor_eq_some {x : Leg} {q : QueueEntry} {r : DropRecord} :
    queuedFor x q = some r ↔ q.ident = some r.ident ∧ x.record r.ident.drop = some r := by
  unfold queuedFor
  cases q.ident with
  | none => simp
  | some i =>
    simp only [Option.bind_some, Option.filter_eq_some_iff, decide_eq_true_eq, Option.some.injEq]
    exact ⟨fun ⟨hr, hi⟩ => ⟨hi, hi ▸ hr⟩, fun ⟨hi, hr⟩ => ⟨hi ▸ hr, hi⟩⟩

theorem Leg.compose_eq_sentAs (x : Leg) (q : QueueEntry) : x.compose q = sentAs x q := by
  simp only [Leg.compose, sentAs, Leg.recordOf_eq_queuedFor]
  cases queuedFor x q with
  | none => rfl
  | some r => cases q.dir <;> rfl

/-- What the entries of a queue read of a record as they leave. -/
def DropRecord.readOut (r : DropRecord) : Identity × Nat × LaunchStep := (r.ident, r.e, r.launch)

/-- Two legs whose records read the same to every entry that leaves. -/
def ReadSame (x y : Leg) : Prop := ∀ d, (y.record d).map DropRecord.readOut = (x.record d).map DropRecord.readOut

theorem ReadSame.symm {x y : Leg} (h : ReadSame x y) : ReadSame y x := fun d => (h d).symm

/-- A record has its counterpart on a leg that reads the same. -/
theorem ReadSame.record {x y : Leg} (h : ReadSame x y) {d : Nat} {r : DropRecord} (hr : y.record d = some r) :
    ∃ r', x.record d = some r' ∧ r'.ident = r.ident ∧ r'.e = r.e ∧ r'.launch = r.launch := by
  have hd := h d
  rw [hr, Option.map_some, eq_comm, Option.map_eq_some_iff] at hd
  obtain ⟨r', hr', hread⟩ := hd
  simp only [DropRecord.readOut, Prod.mk.injEq] at hread
  exact ⟨r', hr', hread⟩

theorem ReadSame.inPlace {x y : Leg} (h : ReadSame x y) (hx : InPlace x) : InPlace y := fun d _ hr => by
  obtain ⟨r', hr', hi, -⟩ := h.record hr
  rw [← hi]
  exact hx d r' hr'

/-- An entry finds its record on both of two legs that read the same, or on neither. -/
theorem ReadSame.queued {x y : Leg} (h : ReadSame x y) (q : QueueEntry) :
    (queuedFor x q = none ∧ queuedFor y q = none) ∨
      ∃ r r', queuedFor x q = some r ∧ queuedFor y q = some r' ∧ r'.ident = r.ident ∧ r'.e = r.e ∧
        r'.launch = r.launch := by
  have counterpart : ∀ {x y : Leg}, ReadSame x y → ∀ {r}, queuedFor y q = some r →
      ∃ r', queuedFor x q = some r' ∧ r.ident = r'.ident ∧ r.e = r'.e ∧ r.launch = r'.launch := by
    intro x y h r hr
    obtain ⟨hq, hrec⟩ := queuedFor_eq_some.mp hr
    obtain ⟨r', hr', hi, he, hl⟩ := h.record hrec
    exact ⟨r', queuedFor_eq_some.mpr ⟨hi ▸ hq, hi ▸ hr'⟩, hi.symm, he.symm, hl.symm⟩
  cases hy : queuedFor y q with
  | some r' =>
    obtain ⟨r, hr, hread⟩ := counterpart h hy
    exact .inr ⟨r, r', hr, rfl, hread⟩
  | none =>
    refine .inl ⟨Option.eq_none_iff_forall_ne_some.mpr fun r hr => ?_, rfl⟩
    obtain ⟨r', hr', -⟩ := counterpart h.symm hr
    rw [hy] at hr'
    cases hr'

theorem ReadSame.sentAs_eq {x y : Leg} (h : ReadSame x y) (q : QueueEntry) : sentAs y q = sentAs x q := by
  unfold sentAs
  rcases h.queued q with ⟨hx, hy⟩ | ⟨r, r', hx, hy, -, he, hl⟩
  · rw [hx, hy]
  · rw [hx, hy]
    cases q.dir <;> simp [he, hl]

theorem ReadSame.followedBy_eq {x y : Leg} (h : ReadSame x y) (q : QueueEntry) : followedBy y q = followedBy x q := by
  unfold followedBy
  rcases h.queued q with ⟨hx, hy⟩ | ⟨r, r', hx, hy, hi, he, hl⟩
  · rw [hx, hy]
  · simp [hx, hy, hi, he, hl]

theorem ReadSame.isSome_queuedFor {x y : Leg} (h : ReadSame x y) (q : QueueEntry) :
    (queuedFor y q).isSome = (queuedFor x q).isSome := by
  rcases h.queued q with ⟨hx, hy⟩ | ⟨r, r', hx, hy, -⟩
  · rw [hx, hy]
  · rw [hx, hy]; rfl

/-! ## One entry leaves -/

/-- What an entry that leaves in cycle `n` makes of the isolation run, when its record is there (R161). -/
def IsolationRun.leave (n : Cycle) (q : QueueEntry) (i : Identity) (run : IsolationRun) : IsolationRun :=
  if isSilence q.dir then run.silenceLeft i n else run

/-- What follows an entry on the table of R51 is what the model places at the tail. -/
theorem followedBy_of_queuedFor {x : Leg} {q : QueueEntry} {r : DropRecord} (h : queuedFor x q = some r) :
    (followedBy x q).toList =
      if q.follow.nonempty then
        [{ dir := (r.followOn q.follow).1, ident := some r.ident, follow := (r.followOn q.follow).2 }]
      else [] := by
  obtain ⟨dir, ident, ⟨offset, launch, silence⟩⟩ := q
  simp only [followedBy, h, Option.bind_some]
  cases offset <;> cases launch <;> cases silence <;> rfl

/-- An entry that leaves without its record records nothing. -/
theorem Leg.departOne_none (n : Cycle) {x : Leg} {q : QueueEntry} (h : queuedFor x q = none) :
    x.departOne n q = x := by
  simp only [Leg.departOne, Leg.recordOf_eq_queuedFor, h]

/-- An entry that leaves with its record there changes the record, the run and the tail of the queue as R51, R53 and
R161 say, and nothing else of the leg. -/
theorem Leg.departOne_some (n : Cycle) {x : Leg} {q : QueueEntry} {r : DropRecord} (h : queuedFor x q = some r) :
    x.departOne n q =
      { x with
        drops := x.drops.set r.ident.drop (some (r.recordDeparture n q.dir)),
        run := x.run.map (IsolationRun.leave n q r.ident),
        queue := x.queue ++ (followedBy x q).toList } := by
  have hrun : (x.setRecord r.ident.drop (some (r.recordDeparture n q.dir))).runDeparture q n =
      { x with
        drops := x.drops.set r.ident.drop (some (r.recordDeparture n q.dir)),
        run := x.run.map (IsolationRun.leave n q r.ident) } := by
    have hi := (queuedFor_eq_some.mp h).1
    unfold Leg.runDeparture IsolationRun.leave
    cases hd : q.dir <;> simp [hi, isSilence, Leg.setRecord]
  simp only [Leg.departOne, Leg.recordOf_eq_queuedFor, h, hrun, followedBy_of_queuedFor h]
  split <;> simp

theorem DropRecord.recordDeparture_readOut (r : DropRecord) (n : Cycle) (dir : Directive) :
    (r.recordDeparture n dir).readOut = r.readOut := by
  cases dir <;> rfl

/-- A departure moves no value that an entry reads as it leaves. -/
theorem Leg.departOne_readSame (n : Cycle) (x : Leg) (q : QueueEntry) : ReadSame x (x.departOne n q) := by
  intro d
  cases h : queuedFor x q with
  | none => rw [Leg.departOne_none n h]
  | some r =>
    obtain ⟨-, hr⟩ := queuedFor_eq_some.mp h
    have hdrops : (x.departOne n q).record d =
        (x.setRecord r.ident.drop (some (r.recordDeparture n q.dir))).record d := by
      rw [Leg.departOne_some n h]; rfl
    rw [hdrops]
    by_cases hd : d = r.ident.drop
    · subst hd
      rw [Leg.setRecord_record_same _ _ (Leg.record_lt hr), hr]
      exact congrArg some (r.recordDeparture_readOut n q.dir)
    · rw [Leg.setRecord_record_other _ _ hd]

theorem Leg.departOne_queue (n : Cycle) (x : Leg) (q : QueueEntry) :
    (x.departOne n q).queue = x.queue ++ (followedBy x q).toList := by
  cases h : queuedFor x q with
  | none => simp [Leg.departOne_none n h, followedBy, h]
  | some r => rw [Leg.departOne_some n h]

/-- A leg departs from another: beyond its records, isolation run and queue it is the same. -/
theorem Leg.departOne_frame (n : Cycle) (x : Leg) (q : QueueEntry) :
    x.departOne n q =
      { x with
        drops := (x.departOne n q).drops, run := (x.departOne n q).run, queue := (x.departOne n q).queue } := by
  cases h : queuedFor x q with
  | none => rw [Leg.departOne_none n h]
  | some r => rw [Leg.departOne_some n h]

/-- With every record in its place, an entry that leaves is recorded in the record of its identity alone. -/
theorem Leg.departOne_drops (n : Cycle) {x : Leg} (hx : InPlace x) (q : QueueEntry) :
    (x.departOne n q).drops =
      x.drops.map (Option.map fun r => if q.ident = some r.ident then r.recordDeparture n q.dir else r) := by
  have at_place : ∀ {d : Nat} {r : DropRecord}, x.drops[d]? = some (some r) → x.record d = some r := by
    intro d r h
    simp [Leg.record, h]
  refine List.ext_getElem? fun d => ?_
  rw [List.getElem?_map]
  cases h : queuedFor x q with
  | none =>
    rw [Leg.departOne_none n h]
    rcases hd : x.drops[d]? with _ | _ | r
    · rfl
    · rfl
    · have hne : q.ident ≠ some r.ident := fun hi => by
        have hplace := hx d r (at_place hd)
        have hr : queuedFor x q = some r := queuedFor_eq_some.mpr ⟨hi, hplace ▸ at_place hd⟩
        rw [h] at hr
        cases hr
      simp [hne]
  | some r =>
    obtain ⟨hi, hr⟩ := queuedFor_eq_some.mp h
    rw [Leg.departOne_some n h]
    simp only [List.getElem?_set, hi, Option.some.injEq]
    by_cases hdr : r.ident.drop = d
    · subst hdr
      have hlt := Leg.record_lt hr
      have hget : x.drops[r.ident.drop]? = some (some r) := by
        simpa [Leg.record, Option.join_eq_some_iff] using hr
      rw [hget]
      simp [hlt]
    · rcases hd : x.drops[d]? with _ | _ | r'
      · simp [hdr]
      · simp [hdr]
      · have hne : r.ident ≠ r'.ident := fun he => hdr (he ▸ hx d r' (at_place hd))
        simp [hdr, hne]

/-! ## The entries that leave together -/

/-- An isolation run once the entries `qs` of leg `x` have left in cycle `n` (R161). -/
def runAfter (x : Leg) (n : Cycle) (qs : List QueueEntry) (run : IsolationRun) : IsolationRun :=
  if run.phase = .silenceQueued ∧
      (qs.any fun q => isSilence q.dir && (queuedFor x q).isSome && decide (q.ident = run.list[run.pos]?)) = true then
    { run with phase := .wait, silence := some n }
  else run

theorem departedRun_eq_runAfter (x : Leg) (n : Cycle) : departedRun x n = runAfter x n (leaving x) := rfl

theorem runAfter_nil (x : Leg) (n : Cycle) (run : IsolationRun) : runAfter x n [] run = run := by
  simp [runAfter]

theorem ReadSame.runAfter_eq {x y : Leg} (h : ReadSame x y) (n : Cycle) (qs : List QueueEntry) :
    runAfter y n qs = runAfter x n qs := by
  funext run
  simp only [runAfter, h.isSome_queuedFor]

/-- The first entry that leaves acts on the run, and then the others. -/
theorem runAfter_cons_none {x : Leg} {q : QueueEntry} (h : queuedFor x q = none) (n : Cycle) (qs : List QueueEntry) :
    runAfter x n (q :: qs) = runAfter x n qs := by
  funext run
  simp [runAfter, h]

theorem runAfter_cons_some {x : Leg} {q : QueueEntry} {r : DropRecord} (h : queuedFor x q = some r) (n : Cycle)
    (qs : List QueueEntry) (run : IsolationRun) :
    runAfter x n qs (IsolationRun.leave n q r.ident run) = runAfter x n (q :: qs) run := by
  have hi := (queuedFor_eq_some.mp h).1
  unfold IsolationRun.leave IsolationRun.silenceLeft
  cases hs : isSilence q.dir with
  | false => simp [runAfter, hs]
  | true =>
    by_cases hp : run.phase = .silenceQueued
    · by_cases hl : run.list[run.pos]? = some r.ident
      · simp [runAfter, hs, h, hi, hp, hl]
      · simp [runAfter, hs, h, hi, hp, hl, Ne.symm hl]
    · simp [runAfter, hp]

/-- A record once the directives `dirs` have left for it in cycle `n` (R53). -/
def recordAfter (n : Cycle) (dirs : List Directive) (r : DropRecord) : DropRecord :=
  { r with
    enrolTx := if dirs.any isEnrol then some n else r.enrolTx,
    echoDue := if dirs.any isEnrol then some (n + 1#32) else r.echoDue,
    offsetField :=
      if dirs.any isOffset ∨ dirs.any isEnrol ∧ r.offsetField = .pending then .cycle n else r.offsetField,
    launchField :=
      if dirs.any isLaunch ∨ dirs.any isEnrol ∧ r.launchField = .pending then .cycle n else r.launchField,
    silenceTx := if dirs.any isSilence then some n else r.silenceTx,
    resumeTx := if dirs.any isResume then some n else r.resumeTx }

theorem recordAfter_nil (n : Cycle) (r : DropRecord) : recordAfter n [] r = r := by
  simp [recordAfter]

/-- A field that is pending takes the cycle; whether later departures overwrite it does not matter. -/
theorem depart_then (f : InFlight) (n : Cycle) (own enrol : Prop) [Decidable own] [Decidable enrol] :
    (if own ∨ enrol ∧ f.depart n = .pending then .cycle n else f.depart n) =
      if own ∨ f = .pending then InFlight.cycle n else f := by
  cases f <;> simp [InFlight.depart]

/-- The first directive that leaves is recorded, and then the others. -/
theorem recordAfter_cons (n : Cycle) (dir : Directive) (dirs : List Directive) (r : DropRecord) :
    recordAfter n dirs (r.recordDeparture n dir) = recordAfter n (dir :: dirs) r := by
  cases dir <;>
    simp [recordAfter, DropRecord.recordDeparture, isEnrol, isOffset, isLaunch, isSilence, isResume, depart_then]

/-- The directives of the entries that were queued for an identity. -/
def dirsFor (qs : List QueueEntry) (i : Identity) : List Directive :=
  (qs.filter fun q => decide (q.ident = some i)).map QueueEntry.dir

theorem dirsFor_any (x : Leg) (i : Identity) (kind : Directive → Bool) :
    (dirsFor (leaving x) i).any kind = leavesFor x i kind := by
  simp only [dirsFor, leavesFor, List.any_map, List.any_filter]
  rfl

theorem startsAs_eq_expire (n : Cycle) (f : InFlight) : startsAs n f = f.expire n := by
  cases f <;> rfl

theorem expire_eq_pending (f : InFlight) (n : Cycle) : f.expire n = .pending ↔ f = .pending := by
  cases f with
  | cycle c => simp only [InFlight.expire]; split <;> simp
  | absent => simp [InFlight.expire]
  | pending => rfl

theorem heldWithin_eq_clampCycle (n : Cycle) (f : Option Cycle) : heldWithin n f = clampCycle n f := rfl

/-- The record of the rules is the model's: the start of the cycle, and then what leaves (R2, R30, R53, R103). -/
theorem departedRecord_eq_recordAfter (x : Leg) (n : Cycle) (r : DropRecord) :
    departedRecord x n r = recordAfter n (dirsFor (leaving x) r.ident) (r.startCycle n) := by
  simp only [departedRecord, recordAfter, dirsFor_any, startsAs_eq_expire, heldWithin_eq_clampCycle,
    DropRecord.startCycle, expire_eq_pending]

/-- All that the entries `qs` do as they leave leg `x` in cycle `n`: the queue takes what follows them, the run and the
records what they record. -/
structure Departed (n : Cycle) (qs : List QueueEntry) (x y : Leg) : Prop where
  frame : y = { x with drops := y.drops, run := y.run, queue := y.queue }
  queue : y.queue = x.queue ++ qs.filterMap (followedBy x)
  run : y.run = x.run.map (runAfter x n qs)
  drops : InPlace x → y.drops = x.drops.map (Option.map fun r => recordAfter n (dirsFor qs r.ident) r)

/-- The first entry leaves, and then the others: none reads what the first has recorded. -/
theorem Departed.cons {n : Cycle} {q : QueueEntry} {qs : List QueueEntry} {x y : Leg}
    (h : Departed n qs (x.departOne n q) y) : Departed n (q :: qs) x y := by
  have same := Leg.departOne_readSame n x q
  refine ⟨?_, ?_, ?_, fun hx => ?_⟩
  · rw [h.frame, Leg.departOne_frame]
  · rw [h.queue, Leg.departOne_queue, funext same.followedBy_eq, List.filterMap_cons]
    cases followedBy x q <;> simp
  · rw [h.run, same.runAfter_eq]
    cases hq : queuedFor x q with
    | none => rw [Leg.departOne_none n hq, runAfter_cons_none hq]
    | some r =>
      rw [Leg.departOne_some n hq, Option.map_map]
      exact congrArg (Option.map · x.run) (funext (runAfter_cons_some hq n qs))
  · rw [h.drops (same.inPlace hx), Leg.departOne_drops n hx, List.map_map]
    refine List.map_congr_left fun o _ => ?_
    cases o with
    | none => rfl
    | some r =>
      refine congrArg some ?_
      by_cases hi : q.ident = some r.ident
      · have hrec : (r.recordDeparture n q.dir).ident = r.ident :=
          congrArg Prod.fst (r.recordDeparture_readOut n q.dir)
        simp [hi, hrec, dirsFor, recordAfter_cons]
      · simp [hi, dirsFor]

theorem departed_nil (n : Cycle) (x : Leg) : Departed n [] x x := by
  refine ⟨rfl, by simp, ?_, fun _ => ?_⟩
  · simp [funext (runAfter_nil x n)]
  · simp [dirsFor, recordAfter_nil]

theorem departed_foldl (n : Cycle) (qs : List QueueEntry) (x : Leg) :
    Departed n qs x (qs.foldl (Leg.departOne n) x) := by
  induction qs generalizing x with
  | nil => exact departed_nil n x
  | cons q qs ih => exact (ih (x.departOne n q)).cons

/-- The departures of a cycle send each entry as its record reads before any of them. -/
theorem foldl_depart_eq (n : Cycle) (qs : List QueueEntry) (x : Leg) (sent : List Directive) :
    qs.foldl (fun acc q => (acc.1.departOne n q, acc.2 ++ [acc.1.compose q])) (x, sent) =
      (qs.foldl (Leg.departOne n) x, sent ++ qs.map (sentAs x)) := by
  induction qs generalizing x sent with
  | nil => simp
  | cons q qs ih =>
    rw [List.foldl_cons, ih, funext (Leg.departOne_readSame n x q).sentAs_eq, Leg.compose_eq_sentAs]
    simp

/-! ## The start of a cycle -/

theorem Leg.startRecords_record (x : Leg) (n : Cycle) (d : Nat) :
    (x.startRecords n).record d = (x.record d).map fun r => r.startCycle n := by
  simp only [Leg.record, Leg.startRecords, List.getElem?_map]
  rcases x.drops[d]? with _ | _ | r <;> rfl

/-- The start of a cycle moves no value that an entry reads as it leaves. -/
theorem Leg.startRecords_readSame (x : Leg) (n : Cycle) : ReadSame x (x.startRecords n) := by
  intro d
  rw [Leg.startRecords_record, Option.map_map]
  rfl

/-- What leaves at the start of cycle `n` is sent as the records read (R8, R52). -/
theorem Leg.depart_sent (x : Leg) (n : Cycle) :
    ((x.startRecords n).depart n).2 = (leaving x).map (sentAs x) := by
  have same : ReadSame x { x.startRecords n with queue := x.queue.drop 8 } := x.startRecords_readSame n
  simp only [Leg.depart, foldl_depart_eq, List.nil_append]
  exact List.map_congr_left fun q _ => same.sentAs_eq q

/-- A leg after the start of cycle `n` and its departures, with the count and the hold as they were: the queue and the
run, and with every record in its place the records, stand as at the build (R51, R53, R161). -/
theorem Leg.depart_leg (x : Leg) (n : Cycle) :
    let y := ((x.startRecords n).depart n).1
    y = { x with
          queue := x.queue.drop 8 ++ (leaving x).filterMap (followedBy x), run := x.run.map (departedRun x n),
          drops := y.drops } ∧
      (InPlace x → y.drops = x.drops.map (Option.map (departedRecord x n))) := by
  have same : ReadSame x { x.startRecords n with queue := x.queue.drop 8 } := x.startRecords_readSame n
  have h := departed_foldl n (leaving x) { x.startRecords n with queue := x.queue.drop 8 }
  have hy : ((x.startRecords n).depart n).1 =
      (leaving x).foldl (Leg.departOne n) { x.startRecords n with queue := x.queue.drop 8 } := by
    simp only [Leg.depart, foldl_depart_eq]
    rfl
  rw [← hy] at h
  refine ⟨?_, fun hx => ?_⟩
  · have hq := h.queue
    have hr := h.run
    rw [funext same.followedBy_eq] at hq
    rw [same.runAfter_eq, ← departedRun_eq_runAfter] at hr
    rw [h.frame, hq, hr]
    rfl
  · rw [h.drops (same.inPlace hx)]
    simp only [Leg.startRecords, List.map_map]
    refine List.map_congr_left fun o _ => ?_
    cases o with
    | none => rfl
    | some r => exact congrArg some (departedRecord_eq_recordAfter x n r).symm

end Sys2Proof.Machine
end

section
/-! SUPPORT. What a leg is as it begins a cycle (R34, R42, R46, R157, R158): the grants of a calendar act on records and
receiver only, and the leg is otherwise as its departures, its hold and its calendar make it. -/

namespace Sys2Proof.Machine

/-! ## The drops of the echo grants -/

theorem mem_liveFrom {d : Nat} {r : DropRecord} {i : Nat} {t : List (Option DropRecord)}
    (h : (d, r) ∈ liveFrom i t) : i ≤ d ∧ t[d - i]? = some (some r) := by
  induction t generalizing i with
  | nil => simp [liveFrom] at h
  | cons o rest ih =>
    have later : (d, r) ∈ liveFrom (i + 1) rest → i ≤ d ∧ (o :: rest)[d - i]? = some (some r) := fun h => by
      obtain ⟨hle, hget⟩ := ih h
      have hsub : d - i = d - (i + 1) + 1 := by omega
      exact ⟨by omega, by rw [hsub]; exact hget⟩
    cases o with
    | none => exact later h
    | some a =>
      rcases List.mem_cons.mp h with heq | hrest
      · cases heq
        simp
      · exact later hrest

/-- What a leg lists as live are its records, by drop number. -/
theorem Leg.record_of_mem_live {x : Leg} {d : Nat} {r : DropRecord} (h : (d, r) ∈ x.live) : x.record d = some r := by
  have hget := (mem_liveFrom h).2
  simp only [Nat.sub_zero] at hget
  simp [Leg.record, hget]

theorem mem_insertRanked {a p : Nat × DropRecord} {cs : List (Nat × DropRecord)} (h : p ∈ insertRanked a cs) :
    p = a ∨ p ∈ cs := by
  induction cs with
  | nil => exact .inl (by simpa [insertRanked] using h)
  | cons b rest ih =>
    unfold insertRanked at h
    split at h
    · rcases List.mem_cons.mp h with hb | hr
      · exact .inr (hb ▸ List.mem_cons_self)
      · exact (ih hr).imp_right (List.mem_cons_of_mem b)
    · exact List.mem_cons.mp h

theorem mem_rankEchoes {p : Nat × DropRecord} {cs : List (Nat × DropRecord)} (h : p ∈ rankEchoes cs) : p ∈ cs := by
  induction cs with
  | nil => exact h
  | cons a rest ih =>
    rcases mem_insertRanked h with ha | hr
    · exact ha ▸ List.mem_cons_self
    · exact List.mem_cons_of_mem a (ih hr)

theorem drop_of_mem_placeEchoes {g : EchoGrant} {pos : Nat} {cs : List (Nat × DropRecord)}
    (h : g ∈ placeEchoes pos cs) : ∃ r, (g.drop, r) ∈ cs := by
  induction cs generalizing pos with
  | nil => simp [placeEchoes] at h
  | cons c rest ih =>
    rcases List.mem_cons.mp h with hg | hr
    · exact ⟨c.2, by rw [hg]; exact List.mem_cons_self⟩
    · obtain ⟨r, hmem⟩ := ih hr
      exact ⟨r, List.mem_cons_of_mem c hmem⟩

/-- An echo candidate is live, and its echo is due. -/
theorem Leg.due_of_mem_echoCandidates {x : Leg} {n : Cycle} {held : Bool} {resumed : List Nat} {d : Nat}
    {r : DropRecord} (h : (d, r) ∈ x.echoCandidates n held resumed) :
    x.record d = some r ∧ ∃ c, r.echoDue = some c ∧ 0 ≤ (n - c).toInt := by
  unfold Leg.echoCandidates at h
  split at h
  · simp at h
  · obtain ⟨hlive, hcand⟩ := List.mem_filter.mp (mem_rankEchoes h)
    refine ⟨Leg.record_of_mem_live hlive, ?_⟩
    simp only [Leg.echoCandidate, Bool.and_eq_true] at hcand
    obtain ⟨⟨⟨⟨-, hdue⟩, -⟩, -⟩, -⟩ := hcand
    cases he : r.echoDue with
    | none => simp [he] at hdue
    | some c => exact ⟨c, rfl, by simpa [he, cyclesSince] using hdue⟩

/-- Every echo grant of a calendar is for a record whose echo is due (R40). -/
theorem Leg.due_of_mem_echoes {x : Leg} {n : Cycle} {marker : Nat} {held : Bool} {resumed : List Nat}
    {g : EchoGrant} (h : g ∈ (x.buildCalendar n marker held resumed).echoes) :
    ∃ r, x.record g.drop = some r ∧ ∃ c, r.echoDue = some c ∧ 0 ≤ (n - c).toInt := by
  obtain ⟨r, hr⟩ := drop_of_mem_placeEchoes h
  exact ⟨r, Leg.due_of_mem_echoCandidates (List.mem_of_mem_take hr)⟩

/-- A record whose Enrol leaves in cycle `n` is granted no echo there: it is due in the cycle after. -/
theorem Leg.no_echo_of_due_next {x : Leg} {n : Cycle} {marker : Nat} {held : Bool} {resumed : List Nat} {d : Nat}
    {r : DropRecord} (hr : x.record d = some r) (hdue : r.echoDue = some (n + 1#32)) :
    d ∉ (x.buildCalendar n marker held resumed).echoes.map EchoGrant.drop := by
  intro hmem
  obtain ⟨g, hg, rfl⟩ := List.mem_map.mp hmem
  obtain ⟨r', hr', c, hc, hle⟩ := Leg.due_of_mem_echoes hg
  rw [hr] at hr'
  cases hr'
  rw [hdue] at hc
  cases hc
  have hneg : n - (n + 1#32) = -1#32 := by bv_omega
  rw [hneg] at hle
  exact absurd hle (by decide)

/-! ## The grants of a calendar -/

/-- A record that the grants of a calendar may have moved: in its echo sequence, due cycle, sample cycle and
measurements, and nothing else. -/
def DropRecord.GrantsMove (r r' : DropRecord) : Prop :=
  r' = { r with echoSeq := r'.echoSeq, echoDue := r'.echoDue, lastSample := r'.lastSample, measures := r'.measures }

theorem DropRecord.GrantsMove.refl (r : DropRecord) : r.GrantsMove r := rfl

theorem DropRecord.GrantsMove.trans {a b c : DropRecord} (h : a.GrantsMove b) (h' : b.GrantsMove c) :
    a.GrantsMove c := by
  unfold DropRecord.GrantsMove at *
  rw [h', h]

/-- A leg after grants, with echo grants for drops of `ds` at most: its records and its receiver may have moved, and a
record's due cycle only with an echo grant. -/
structure Granted (ds : List Nat) (x y : Leg) : Prop where
  frame : y = { x with drops := y.drops, receiver := y.receiver }
  free : ∀ d, x.record d = none → y.record d = none
  live : ∀ d r, x.record d = some r →
    ∃ r', y.record d = some r' ∧ r.GrantsMove r' ∧ (d ∉ ds → r'.echoDue = r.echoDue)

theorem Granted.refl (ds : List Nat) (x : Leg) : Granted ds x x :=
  ⟨rfl, fun _ h => h, fun _ r h => ⟨r, h, .refl r, fun _ => rfl⟩⟩

theorem Granted.trans {ds : List Nat} {x y z : Leg} (h : Granted ds x y) (h' : Granted ds y z) : Granted ds x z where
  frame := by rw [h'.frame, h.frame]
  free d hd := h'.free d (h.free d hd)
  live d r hr := by
    obtain ⟨r', hr', hmove, hdue⟩ := h.live d r hr
    obtain ⟨r'', hr'', hmove', hdue'⟩ := h'.live d r' hr'
    exact ⟨r'', hr'', hmove.trans hmove', fun hd => (hdue' hd).trans (hdue hd)⟩

/-- A change of the receiver alone. -/
theorem granted_mapReceiver (ds : List Nat) (x : Leg) (f : Receiver → Receiver) : Granted ds x (x.mapReceiver f) :=
  ⟨rfl, fun _ h => h, fun _ r h => ⟨r, h, .refl r, fun _ => rfl⟩⟩

/-- A grant moves one record, and its due cycle only with an echo. -/
theorem granted_setRecord {ds : List Nat} {x : Leg} {d : Nat} {r r' : DropRecord} (hr : x.record d = some r)
    (hmove : r.GrantsMove r') (hdue : d ∉ ds → r'.echoDue = r.echoDue) : Granted ds x (x.setRecord d (some r')) := by
  have same : (x.setRecord d (some r')).record d = some r' := Leg.setRecord_record_same x _ (Leg.record_lt hr)
  refine ⟨rfl, fun e he => ?_, fun e a ha => ?_⟩
  · have hne : e ≠ d := fun hed => by rw [hed, hr] at he; cases he
    rw [Leg.setRecord_record_other x _ hne, he]
  · by_cases hed : e = d
    · subst hed
      rw [hr] at ha
      cases ha
      exact ⟨r', same, hmove, hdue⟩
    · exact ⟨a, by rw [Leg.setRecord_record_other x _ hed, ha], .refl a, fun _ => rfl⟩

theorem requestSample_granted (ds : List Nat) (s : State) (l : LegId) (d : Nat) (q : SampleRequest) :
    Granted ds (s.leg l) ((s.requestSample l d q).leg l) := by
  unfold State.requestSample
  cases h : s.record l d with
  | none => exact .refl ds _
  | some r =>
    have measured (m : Measure) : Granted ds (s.leg l)
        ((s.leg l).setRecord d (some { r with measures := r.measures ++ [m] })) :=
      granted_setRecord h rfl fun _ => rfl
    dsimp only
    split
    · rw [State.setMeter_leg, State.setRecord, State.setLeg_leg_same]
      exact measured _
    · rw [State.setRecord, State.setLeg_leg_same]
      exact measured _

/-- An echo grant: the record's sequence and due cycle move and the receiver expects the burst; a sample is requested
for a record that is not in SOAK (R42, R46, R56). -/
theorem State.grantEcho_cases {s : State} {l : LegId} (n : Cycle) (marker : Nat) {g : EchoGrant} {r : DropRecord}
    (h : s.record l g.drop = some r) :
    ∃ due e q, ∃ t : State,
      t = (s.setRecord l g.drop (some { r with echoSeq := r.echoSeq + 1#8, echoDue := some due })).mapLeg l
        (fun x => x.expect e) ∧
      (State.grantEcho l n marker s g = t ∨ State.grantEcho l n marker s g = t.requestSample l g.drop q) := by
  unfold State.grantEcho
  rw [h]
  exact ⟨_, _, _, _, rfl, ite_eq_or_eq _ _ _⟩

/-- A service grant: the receiver expects the burst; when no service sample is recent, the record's sample cycle moves
and a sample is requested (R46, R56). -/
theorem State.grantService_cases {s : State} {l : LegId} (n : Cycle) (marker : Nat) {g : ServiceGrant}
    {r : DropRecord} (h : s.record l g.drop = some r) :
    ∃ e q, ∃ t : State, t = s.mapLeg l (fun x => x.expect e) ∧
      (State.grantService l n marker s g = t ∨
        State.grantService l n marker s g =
          (t.setRecord l g.drop (some { r with lastSample := some n })).requestSample l g.drop q) := by
  unfold State.grantService
  rw [h]
  exact ⟨_, _, _, rfl, ite_eq_or_eq _ _ _⟩

theorem State.grantEcho_none {s : State} {l : LegId} (n : Cycle) (marker : Nat) {g : EchoGrant}
    (h : s.record l g.drop = none) : State.grantEcho l n marker s g = s := by
  simp [State.grantEcho, h]

theorem State.grantService_none {s : State} {l : LegId} (n : Cycle) (marker : Nat) {g : ServiceGrant}
    (h : s.record l g.drop = none) : State.grantService l n marker s g = s := by
  simp [State.grantService, h]

theorem grantEcho_granted {ds : List Nat} {l : LegId} (n : Cycle) (marker : Nat) (s : State) {g : EchoGrant}
    (hg : g.drop ∈ ds) : Granted ds (s.leg l) ((State.grantEcho l n marker s g).leg l) := by
  cases h : s.record l g.drop with
  | none => rw [State.grantEcho_none n marker h]; exact .refl ds _
  | some r =>
    obtain ⟨due, e, q, t, ht, hcase⟩ := State.grantEcho_cases n marker h
    have sent : Granted ds (s.leg l) (t.leg l) := by
      rw [ht, State.mapLeg_leg_same, State.setRecord, State.setLeg_leg_same]
      refine .trans ?_ (granted_mapReceiver ds _ _)
      exact granted_setRecord h rfl fun hd => absurd hg hd
    rcases hcase with heq | heq
    · rw [heq]; exact sent
    · rw [heq]; exact sent.trans (requestSample_granted ds t l g.drop q)

theorem grantService_granted (ds : List Nat) {l : LegId} (n : Cycle) (marker : Nat) (s : State) (g : ServiceGrant) :
    Granted ds (s.leg l) ((State.grantService l n marker s g).leg l) := by
  cases h : s.record l g.drop with
  | none => rw [State.grantService_none n marker h]; exact .refl ds _
  | some r =>
    obtain ⟨e, q, t, ht, hcase⟩ := State.grantService_cases n marker h
    have expected : Granted ds (s.leg l) (t.leg l) := by
      rw [ht, State.mapLeg_leg_same]
      exact granted_mapReceiver ds _ _
    have hrec : (t.leg l).record g.drop = some r := by
      rw [ht, State.mapLeg_leg_same]
      exact h
    have sampled : Granted ds (t.leg l)
        ((t.setRecord l g.drop (some { r with lastSample := some n })).leg l) := by
      rw [State.setRecord, State.setLeg_leg_same]
      exact granted_setRecord hrec rfl fun _ => rfl
    rcases hcase with heq | heq
    · rw [heq]; exact expected
    · rw [heq]; exact (expected.trans sampled).trans (requestSample_granted ds _ l g.drop q)

/-- Grants taken one after another. -/
theorem granted_foldl {α : Type} {ds : List Nat} {l : LegId} {f : State → α → State} {gs : List α}
    (hf : ∀ s, ∀ g ∈ gs, Granted ds (s.leg l) ((f s g).leg l)) (s : State) :
    Granted ds (s.leg l) ((gs.foldl f s).leg l) := by
  induction gs generalizing s with
  | nil => exact .refl ds _
  | cons g gs ih =>
    exact (hf s g List.mem_cons_self).trans (ih (fun s g hg => hf s g (List.mem_cons_of_mem _ hg)) (f s g))

/-! ## A leg begins its cycle -/

/-- Notices placed one after another touch the interface only. -/
theorem State.foldl_notify (ns : List Notice) (s : State) :
    ns.foldl State.notify s = s.setIface (ns.foldl Interface.place s.iface) := by
  induction ns generalizing s with
  | nil => rfl
  | cons n ns ih => rw [List.foldl_cons, ih]; rfl

/-- The build moves the hold on, and places the notices of the hold (R157, R158). -/
theorem State.holdAtBuild_eq (s : State) (l : LegId) (n : Cycle) :
    s.holdAtBuild l n =
      (holdNotices l n (s.leg l).hold).foldl State.notify
        (s.setLeg l { s.leg l with hold := heldAt n (s.leg l).hold }) := by
  unfold State.holdAtBuild
  cases h : (s.leg l).hold with
  | none =>
    have same : { s.leg l with hold := heldAt n none } = s.leg l := by
      rw [show heldAt n none = (s.leg l).hold from h.symm]
    rw [same, State.setLeg_self]
    rfl
  | some hold =>
    by_cases hend : hold.length ≤ hold.built
    · simp [hend, heldAt, holdNotices, State.mapLeg]
    · cases hfirst : hold.first <;> simp [hend, heldAt, holdNotices, State.mapLeg, hfirst]

theorem State.holdAtBuild_leg (s : State) (l : LegId) (n : Cycle) :
    (s.holdAtBuild l n).leg l = { s.leg l with hold := heldAt n (s.leg l).hold } := by
  rw [State.holdAtBuild_eq, State.foldl_notify, State.setIface_leg, State.setLeg_leg_same]

/-- Leg `x` as its departures at the start of cycle `n` and the hold of calendar `n` leave it. -/
def Leg.departedHeld (x : Leg) (n : Cycle) : Leg := { ((x.startRecords n).depart n).1 with hold := heldAt n x.hold }

theorem Leg.departedHeld_eq (x : Leg) (n : Cycle) :
    x.departedHeld n =
      { x with
        queue := x.queue.drop 8 ++ (leaving x).filterMap (followedBy x), run := x.run.map (departedRun x n),
        hold := heldAt n x.hold, drops := (x.departedHeld n).drops } := by
  unfold Leg.departedHeld
  rw [(x.depart_leg n).1]

/-- With every record in its place, it is the leg of the rules' build. -/
theorem Leg.departedHeld_record {x : Leg} (hx : InPlace x) (n : Cycle) (d : Nat) :
    (x.departedHeld n).record d = (x.record d).map (departedRecord x n) := by
  have hdrops : (x.departedHeld n).drops = x.drops.map (Option.map (departedRecord x n)) := (x.depart_leg n).2 hx
  simp only [Leg.record, hdrops, List.getElem?_map]
  rcases x.drops[d]? with _ | _ | r <;> rfl

/-- The calendar built for cycle `n` of leg `x`, which the departures and the hold of that cycle have not touched. -/
def Leg.nextCalendar (x : Leg) (n : Cycle) (marker : Nat) : Calendar :=
  (x.departedHeld n).buildCalendar n marker (x.departedHeld n).hold.isSome (resumedDrops ((leaving x).map (sentAs x)))

/-- A leg that begins its cycle stands as its departures, its hold and its calendar leave it, but for the grants. -/
theorem State.beginCycle_granted (s : State) (l : LegId) (marker : Nat) :
    Granted (((s.leg l).nextCalendar (s.leg l).count marker).echoes.map EchoGrant.drop)
      (((s.leg l).departedHeld (s.leg l).count).takeCalendar ((s.leg l).nextCalendar (s.leg l).count marker)
        ((leaving (s.leg l)).map (sentAs (s.leg l))))
      ((s.beginCycle l marker).leg l) := by
  have hheld : ((s.setLeg l (((s.leg l).startRecords (s.leg l).count).depart (s.leg l).count).1).holdAtBuild l
      (s.leg l).count).leg l = (s.leg l).departedHeld (s.leg l).count := by
    rw [State.holdAtBuild_leg, State.setLeg_leg_same]
    unfold Leg.departedHeld
    rw [((s.leg l).depart_leg (s.leg l).count).1]
  simp only [State.beginCycle, hheld, Leg.depart_sent]
  refine .trans ?_ ((granted_foldl (fun s g hg => grantEcho_granted _ marker s (List.mem_map_of_mem hg)) _).trans
    (granted_foldl (fun s g _ => grantService_granted _ _ marker s g) _))
  rw [State.mapLeg_leg_same, hheld]
  exact .refl _ _

/-- A leg whose count is `n` has begun cycle `n` at the boundary of an instant, from `x` to `y`: with its calendar, the
content that its transmitter sends, and its departures. -/
structure Begins (x y : Leg) (marker : Nat) : Prop where
  frame : y =
    { x with
      queue := y.queue, run := y.run, hold := y.hold, drops := y.drops, calendar := y.calendar,
      downstream := y.downstream, musterCounter := y.musterCounter, lastMuster := y.lastMuster,
      receiver := y.receiver }
  content : ∃ c, y.calendar = some c ∧ c.cycle = x.count ∧ c.marker = marker ∧ c.closed = false ∧
    y.downstream = some
      { cycle := x.count, grants := c.grantList, muster := if c.window.isSome then some x.derived.am else none,
        directives := (leaving x).map (sentAs x) }
  departs : Departs x y x.count

theorem State.beginCycle_begins (s : State) (l : LegId) (marker : Nat) :
    Begins (s.leg l) ((s.beginCycle l marker).leg l) marker := by
  have h := s.beginCycle_granted l marker
  generalize (s.beginCycle l marker).leg l = y at h ⊢
  generalize s.leg l = x at h ⊢
  generalize hc : x.nextCalendar x.count marker = c at h
  obtain ⟨hframe, hfree, hlive⟩ := h
  have hcycle : c.cycle = x.count := by rw [← hc]; rfl
  have hx := x.departedHeld_eq x.count
  generalize hz : x.departedHeld x.count = z at hframe hfree hlive hx
  have hdown : y.downstream = some
      { cycle := x.count, grants := c.grantList, muster := if c.window.isSome then some x.derived.am else none,
        directives := (leaving x).map (sentAs x) } := by
    rw [hframe, hx, ← hcycle]
    rfl
  refine ⟨?_, ⟨c, ?_, hcycle, ?_, ?_, hdown⟩, ⟨_, hdown, rfl⟩, ?_, fun hplace => ⟨?_, fun d hd => ?_, fun d r hr => ?_⟩⟩
  · rw [hframe, hx]; rfl
  · rw [hframe]; rfl
  · rw [← hc]; rfl
  · rw [← hc]; rfl
  · rw [hframe, hx]; rfl
  · rw [hframe, hx]; rfl
  · refine hfree d ?_
    show z.record d = none
    rw [← hz, Leg.departedHeld_record hplace, hd]
    rfl
  · have hrec : z.record d = some (departedRecord x x.count r) := by
      rw [← hz, Leg.departedHeld_record hplace, hr]
      rfl
    obtain ⟨r', hr', hmove, hdue⟩ := hlive d _ hrec
    refine ⟨r', hr', hmove, fun hleaves => ?_⟩
    have hnext : (departedRecord x x.count r).echoDue = some (x.count + 1#32) := by
      simp [departedRecord, hleaves]
    rw [← hnext]
    refine hdue ?_
    rw [← hc]
    exact Leg.no_echo_of_due_next (hz ▸ hrec) hnext

end Sys2Proof.Machine
end

section
/-! SUPPORT. What the boundary of the cycle clock touches, part by part: the legs one after another (R1, R5, R151,
R153), the Level Meter, and the Bias Supply (R141, R143). -/

namespace Sys2Proof.Machine

/-! ## Steps that touch legs, notices and the Level Meter -/

/-- A step that touches the legs `ls` only, and besides them the Level Meter, whose tables stand, and the interface,
where it places the notices `ns`. -/
structure OnLegs (ls : List LegId) (ns : List Notice) (s t : State) : Prop where
  roster : t.roster = s.roster
  candidates : t.candidates = s.candidates
  bias : t.bias = s.bias
  rail : t.rail = s.rail
  params : t.params = s.params
  boundaries : t.boundaries = s.boundaries
  inReset : t.inReset = s.inReset
  tables : t.meter.tables = s.meter.tables
  iface : t.iface = ns.foldl Interface.place s.iface
  others : ∀ k, k ∉ ls → t.leg k = s.leg k

theorem OnLegs.refl (ls : List LegId) (s : State) : OnLegs ls [] s s :=
  ⟨rfl, rfl, rfl, rfl, rfl, rfl, rfl, rfl, rfl, fun _ _ => rfl⟩

theorem OnLegs.trans {ls : List LegId} {ns ms : List Notice} {s t u : State} (h : OnLegs ls ns s t)
    (h' : OnLegs ls ms t u) : OnLegs ls (ns ++ ms) s u where
  roster := h'.roster.trans h.roster
  candidates := h'.candidates.trans h.candidates
  bias := h'.bias.trans h.bias
  rail := h'.rail.trans h.rail
  params := h'.params.trans h.params
  boundaries := h'.boundaries.trans h.boundaries
  inReset := h'.inReset.trans h.inReset
  tables := h'.tables.trans h.tables
  iface := by rw [h'.iface, h.iface, List.foldl_append]
  others k hk := (h'.others k hk).trans (h.others k hk)

/-- A step that places no notice, after one that may. -/
theorem OnLegs.quiet {ls : List LegId} {ns : List Notice} {s t u : State} (h : OnLegs ls ns s t)
    (h' : OnLegs ls [] t u) : OnLegs ls ns s u := by
  simpa using h.trans h'

theorem OnLegs.mono {ls ks : List LegId} {ns : List Notice} {s t : State} (h : OnLegs ls ns s t) (hsub : ls ⊆ ks) :
    OnLegs ks ns s t :=
  { h with others := fun k hk => h.others k fun hl => hk (hsub hl) }

theorem onLegs_setLeg (s : State) (l : LegId) (x : Leg) : OnLegs [l] [] s (s.setLeg l x) :=
  ⟨rfl, rfl, rfl, rfl, rfl, rfl, rfl, rfl, rfl, fun _ hk => State.setLeg_leg_other s x (by simpa using hk)⟩

theorem onLegs_mapLeg (s : State) (l : LegId) (f : Leg → Leg) : OnLegs [l] [] s (s.mapLeg l f) :=
  onLegs_setLeg s l _

theorem onLegs_setRecord (s : State) (l : LegId) (d : Nat) (r : Option DropRecord) :
    OnLegs [l] [] s (s.setRecord l d r) :=
  onLegs_setLeg s l _

theorem onLegs_setMeter (ls : List LegId) (s : State) {m : Meter} (hm : m.tables = s.meter.tables) :
    OnLegs ls [] s (s.setMeter m) :=
  ⟨rfl, rfl, rfl, rfl, rfl, rfl, rfl, hm, rfl, fun _ _ => rfl⟩

theorem onLegs_notify (ls : List LegId) (s : State) (n : Notice) : OnLegs ls [n] s (s.notify n) :=
  ⟨rfl, rfl, rfl, rfl, rfl, rfl, rfl, rfl, rfl, fun _ _ => rfl⟩

/-- Notices placed one after another. -/
theorem onLegs_notices (ls : List LegId) (s : State) (ns : List Notice) :
    OnLegs ls ns s (ns.foldl State.notify s) := by
  rw [State.foldl_notify]
  exact ⟨rfl, rfl, rfl, rfl, rfl, rfl, rfl, rfl, rfl, fun _ _ => rfl⟩

/-- Steps on one leg, one after another, that place no notice. -/
theorem onLegs_foldl_quiet {α : Type} {ls : List LegId} {f : State → α → State}
    (hf : ∀ s a, OnLegs ls [] s (f s a)) (as : List α) (s : State) : OnLegs ls [] s (as.foldl f s) := by
  induction as generalizing s with
  | nil => exact .refl ls s
  | cons a as ih => exact (hf s a).quiet (ih (f s a))

section Legs

variable {f : State → LegId → State} {notices : State → LegId → List Notice}

/-- Steps on several legs, one leg after another: each places its notices as its leg and the bias were before all of
them. -/
theorem onLegs_foldl (hf : ∀ s l, OnLegs [l] (notices s l) s (f s l))
    (hn : ∀ s t l, t.leg l = s.leg l → t.bias = s.bias → notices t l = notices s l) {ls : List LegId} (hls : ls.Nodup)
    (s : State) : OnLegs ls (ls.flatMap (notices s)) s (ls.foldl f s) := by
  induction ls generalizing s with
  | nil => exact .refl [] s
  | cons l ls ih =>
    obtain ⟨hl, hls⟩ := List.nodup_cons.mp hls
    have hfirst := hf s l
    have hrest := ih hls (f s l)
    have hsame : ls.flatMap (notices (f s l)) = ls.flatMap (notices s) := by
      refine List.flatMap_congr fun k hk => hn s (f s l) k (hfirst.others k ?_) hfirst.bias
      rintro hkl
      exact hl (List.mem_singleton.mp hkl ▸ hk)
    rw [hsame] at hrest
    exact (hfirst.mono (by simp)).trans (hrest.mono (List.subset_cons_self l ls))

/-- Each leg takes its own step alone, on a state with the leg and the bias as they were before all of them. -/
theorem foldl_leg (hf : ∀ s l, OnLegs [l] (notices s l) s (f s l))
    (hn : ∀ s t l, t.leg l = s.leg l → t.bias = s.bias → notices t l = notices s l) {ls : List LegId} (hls : ls.Nodup)
    (s : State) {l : LegId} (hl : l ∈ ls) :
    ∃ u : State, u.leg l = s.leg l ∧ u.bias = s.bias ∧ (ls.foldl f s).leg l = (f u l).leg l := by
  induction ls generalizing s with
  | nil => simp at hl
  | cons k ls ih =>
    obtain ⟨hk, hrest⟩ := List.nodup_cons.mp hls
    by_cases hkl : l = k
    · subst hkl
      exact ⟨s, rfl, rfl, (onLegs_foldl hf hn hrest (f s l)).others l hk⟩
    · obtain ⟨u, hleg, hbias, hstep⟩ := ih hrest (f s k) ((List.mem_cons.mp hl).resolve_left hkl)
      exact ⟨u, hleg.trans ((hf s k).others l (by simpa using hkl)), hbias.trans (hf s k).bias, hstep⟩

end Legs

theorem nodup_quad_all : Quad.all.Nodup := by decide

theorem mem_quad_all (l : Quad) : l ∈ Quad.all := by cases l <;> decide

/-! ## A leg at the boundary -/

theorem Meter.addWant_tables (m : Meter) (l : LegId) (k : RangeId) : (m.addWant l k).tables = m.tables := by
  unfold Meter.addWant
  split <;> rfl

theorem requestSample_onLegs (s : State) (l : LegId) (d : Nat) (q : SampleRequest) :
    OnLegs [l] [] s (s.requestSample l d q) := by
  unfold State.requestSample
  cases s.record l d with
  | none => exact .refl [l] s
  | some r =>
    dsimp only
    split
    · refine (onLegs_setRecord s l d _).quiet (onLegs_setMeter [l] _ ?_)
      rw [apply_ite Meter.tables, Meter.addWant_tables]
      exact ite_self _
    · exact onLegs_setRecord s l d _

theorem grantEcho_onLegs (l : LegId) (n : Cycle) (marker : Nat) (s : State) (g : EchoGrant) :
    OnLegs [l] [] s (State.grantEcho l n marker s g) := by
  cases h : s.record l g.drop with
  | none => rw [State.grantEcho_none n marker h]; exact .refl [l] s
  | some r =>
    obtain ⟨due, e, q, t, rfl, heq | heq⟩ := State.grantEcho_cases n marker h
    · rw [heq]
      exact (onLegs_setRecord s l _ _).quiet (onLegs_mapLeg _ l _)
    · rw [heq]
      exact ((onLegs_setRecord s l _ _).quiet (onLegs_mapLeg _ l _)).quiet (requestSample_onLegs _ l _ q)

theorem grantService_onLegs (l : LegId) (n : Cycle) (marker : Nat) (s : State) (g : ServiceGrant) :
    OnLegs [l] [] s (State.grantService l n marker s g) := by
  cases h : s.record l g.drop with
  | none => rw [State.grantService_none n marker h]; exact .refl [l] s
  | some r =>
    obtain ⟨e, q, t, rfl, heq | heq⟩ := State.grantService_cases n marker h
    · rw [heq]
      exact onLegs_mapLeg s l _
    · rw [heq]
      exact ((onLegs_mapLeg s l _).quiet (onLegs_setRecord _ l _ _)).quiet (requestSample_onLegs _ l _ q)

theorem holdAtBuild_onLegs (s : State) (l : LegId) (n : Cycle) :
    OnLegs [l] (holdNotices l n (s.leg l).hold) s (s.holdAtBuild l n) := by
  rw [State.holdAtBuild_eq]
  exact (onLegs_setLeg s l _).trans (onLegs_notices [l] _ _)

/-- A leg that begins its cycle places the notices of its hold (R157, R158). -/
theorem beginCycle_onLegs (s : State) (l : LegId) (marker : Nat) :
    OnLegs [l] (holdNotices l (s.leg l).count (s.leg l).hold) s (s.beginCycle l marker) := by
  have hdeparted := onLegs_setLeg s l (((s.leg l).startRecords (s.leg l).count).depart (s.leg l).count).1
  have hheld := holdAtBuild_onLegs
    (s.setLeg l (((s.leg l).startRecords (s.leg l).count).depart (s.leg l).count).1) l (s.leg l).count
  have hhold : (((s.leg l).startRecords (s.leg l).count).depart (s.leg l).count).1.hold = (s.leg l).hold := by
    rw [((s.leg l).depart_leg (s.leg l).count).1]
  rw [State.setLeg_leg_same, hhold] at hheld
  simp only [State.beginCycle]
  exact (((hdeparted.trans hheld).quiet (onLegs_mapLeg _ l _)).quiet
    (onLegs_foldl_quiet (grantEcho_onLegs l _ marker) _ _)).quiet
    (onLegs_foldl_quiet (grantService_onLegs l _ marker) _ _)

/-- The leg on which a start takes effect begins cycle 0 (R151). -/
def Leg.starting (x : Leg) (bias : BiasState) : Leg :=
  { x with
    startPending := false, state := if bias = .ready then .running else .blind, count := 0#32, musterCounter := 0#32,
    lastMuster := none, allocCount := 0#32, queue := [] }

/-- What becomes of a leg at the boundary of an instant, from `x` to `y` (R1, R5, R11, R151, R153). -/
inductive AtBoundary (bias : BiasState) (marker : Nat) (x y : Leg) : Prop
  | ahead (ha : x.ahead = true) (hy : y = { x with ahead := false })
  | started (ha : x.ahead = false) (hs : x.state ≠ .stopped) (hy : Begins { x with count := x.count + 1#32 } y marker)
  | stopping (ha : x.ahead = false) (hs : x.state = .stopped) (hf : x.finalPending = true) (hy : y = x.finalCycle)
  | starting (ha : x.ahead = false) (hs : x.state = .stopped) (hf : x.finalPending = false)
      (hp : x.startPending = true) (hy : Begins (x.starting bias) y marker)
  | idle (ha : x.ahead = false) (hs : x.state = .stopped) (hf : x.finalPending = false)
      (hp : x.startPending = false) (hy : y = { x with downstream := none })

theorem State.beginLeg_started {s : State} {l : LegId} (hs : (s.leg l).state ≠ .stopped) (marker : Nat) :
    s.beginLeg l marker = (s.mapLeg l fun x => { x with count := x.count + 1#32 }).beginCycle l marker := by
  cases h : (s.leg l).state with
  | stopped => exact absurd h hs
  | blind => simp only [State.beginLeg, h]
  | running => simp only [State.beginLeg, h]

theorem State.beginLeg_stopped {s : State} {l : LegId} (hs : (s.leg l).state = .stopped) (marker : Nat) :
    s.beginLeg l marker =
      if (s.leg l).finalPending then s.mapLeg l Leg.finalCycle
      else if (s.leg l).startPending then s.startCycles l marker
      else s.mapLeg l fun x => { x with downstream := none } := by
  simp only [State.beginLeg, hs]

theorem State.startCycles_eq (s : State) (l : LegId) (marker : Nat) :
    s.startCycles l marker =
      ((s.setLeg l ((s.leg l).starting s.bias.state)).beginCycle l marker).notify
        (.legState l (if s.bias.state = .ready then .running else .blind) 0#32) := rfl

theorem boundaryLeg_atBoundary (marker : Nat) (s : State) (l : LegId) :
    AtBoundary s.bias.state marker (s.leg l) ((State.boundaryLeg marker s l).leg l) := by
  unfold State.boundaryLeg
  cases ha : (s.leg l).ahead with
  | true => exact .ahead ha (by simp)
  | false =>
    rw [if_neg Bool.false_ne_true]
    by_cases hs : (s.leg l).state = .stopped
    · rw [State.beginLeg_stopped hs]
      cases hf : (s.leg l).finalPending with
      | true => exact .stopping ha hs hf (by simp)
      | false =>
        cases hp : (s.leg l).startPending with
        | true =>
          refine .starting ha hs hf hp ?_
          have h := (s.setLeg l ((s.leg l).starting s.bias.state)).beginCycle_begins l marker
          rw [State.setLeg_leg_same] at h
          exact h
        | false => exact .idle ha hs hf hp (by simp)
    · rw [State.beginLeg_started hs]
      refine .started ha hs ?_
      have h := (s.mapLeg l fun x => { x with count := x.count + 1#32 }).beginCycle_begins l marker
      rw [State.mapLeg_leg_same] at h
      exact h

theorem legNotices_ahead {s : State} {l : LegId} (ha : (s.leg l).ahead = true) : legNotices s l = [] := by
  simp [legNotices, ha]

theorem legNotices_started {s : State} {l : LegId} (ha : (s.leg l).ahead = false) (hs : (s.leg l).state ≠ .stopped) :
    legNotices s l = holdNotices l ((s.leg l).count + 1#32) (s.leg l).hold := by
  simp [legNotices, ha, hs]

theorem legNotices_starting {s : State} {l : LegId} (hs : (s.leg l).state = .stopped)
    (hstarts : starts (s.leg l) = true) :
    legNotices s l =
      holdNotices l 0#32 (s.leg l).hold ++
        [.legState l (if s.bias.state = .ready then .running else .blind) 0#32] := by
  have ha : (s.leg l).ahead = false := (of_decide_eq_true hstarts).1
  simp [legNotices, ha, hs, hstarts]

theorem legNotices_stopped {s : State} {l : LegId} (hs : (s.leg l).state = .stopped)
    (hstarts : starts (s.leg l) = false) : legNotices s l = [] := by
  simp [legNotices, hs, hstarts]

theorem boundaryLeg_onLegs (marker : Nat) (s : State) (l : LegId) :
    OnLegs [l] (legNotices s l) s (State.boundaryLeg marker s l) := by
  unfold State.boundaryLeg
  cases ha : (s.leg l).ahead with
  | true => rw [legNotices_ahead ha, if_pos rfl]; exact onLegs_mapLeg s l _
  | false =>
    rw [if_neg Bool.false_ne_true]
    by_cases hs : (s.leg l).state = .stopped
    · rw [State.beginLeg_stopped hs]
      cases hf : (s.leg l).finalPending with
      | true =>
        rw [legNotices_stopped hs (by simp [starts, hf]), if_pos rfl]
        exact onLegs_mapLeg s l _
      | false =>
        cases hp : (s.leg l).startPending with
        | true =>
          have h := beginCycle_onLegs (s.setLeg l ((s.leg l).starting s.bias.state)) l marker
          rw [State.setLeg_leg_same] at h
          rw [legNotices_starting hs (by simp [starts, ha, hs, hf, hp]), if_neg Bool.false_ne_true, if_pos rfl,
            State.startCycles_eq]
          exact ((onLegs_setLeg s l _).trans h).trans (onLegs_notify [l] _ _)
        | false =>
          rw [legNotices_stopped hs (by simp [starts, hp]), if_neg Bool.false_ne_true, if_neg Bool.false_ne_true]
          exact onLegs_mapLeg s l _
    · rw [State.beginLeg_started hs, legNotices_started ha hs]
      have h := beginCycle_onLegs (s.mapLeg l fun x => { x with count := x.count + 1#32 }) l marker
      rw [State.mapLeg_leg_same] at h
      exact (onLegs_mapLeg s l _).trans h

theorem legNotices_congr (s t : State) (l : LegId) (hl : t.leg l = s.leg l) (hb : t.bias = s.bias) :
    legNotices t l = legNotices s l := by
  simp only [legNotices, hl, hb]

/-- The legs at a boundary, one after another. -/
theorem boundaryLegs_onLegs (marker : Nat) (s : State) :
    OnLegs Quad.all (Quad.all.flatMap (legNotices s)) s (Quad.all.foldl (State.boundaryLeg marker) s) :=
  onLegs_foldl (boundaryLeg_onLegs marker) legNotices_congr nodup_quad_all s

theorem boundaryLegs_atBoundary (marker : Nat) (s : State) (l : LegId) :
    AtBoundary s.bias.state marker (s.leg l) ((Quad.all.foldl (State.boundaryLeg marker) s).leg l) := by
  obtain ⟨u, hleg, hbias, hstep⟩ :=
    foldl_leg (boundaryLeg_onLegs marker) legNotices_congr nodup_quad_all s (mem_quad_all l)
  rw [hstep, ← hleg, ← hbias]
  exact boundaryLeg_atBoundary marker u l

/-! ## The Level Meter at the boundary -/

theorem Meter.setOffset_tables (m : Meter) (l : LegId) (k : RangeId) (e : OffsetEntry) :
    (m.setOffset l k e).tables = m.tables := rfl

theorem Meter.invalidate_tables (m : Meter) (l : LegId) (k : RangeId) : (m.invalidate l k).tables = m.tables := by
  unfold Meter.invalidate
  split
  · dsimp only
    split
    · rw [Meter.addWant_tables, Meter.setOffset_tables]
    · rfl
  · rfl

theorem Meter.ageOffset_tables (m : Meter) (l : LegId) (k : RangeId) : (m.ageOffset l k).tables = m.tables := by
  unfold Meter.ageOffset
  dsimp only
  split
  · split
    · exact m.invalidate_tables l k
    · rfl
  · rfl

/-- Steps over every range of every leg that keep the tables keep them together. -/
theorem foldl_ranges_tables {f : Meter → LegId → RangeId → Meter} (hf : ∀ m l k, (f m l k).tables = m.tables)
    (m : Meter) : (Quad.all.foldl (fun m l => Quad.all.foldl (fun m k => f m l k) m) m).tables = m.tables :=
  List.foldlRecOn (motive := fun m' : Meter => m'.tables = m.tables) Quad.all _ rfl fun _ hlegs l _ =>
    List.foldlRecOn (motive := fun m' : Meter => m'.tables = m.tables) Quad.all _ hlegs fun m' hranges k _ =>
      (hf m' l k).trans hranges

theorem Meter.ageOffsets_tables (m : Meter) : m.ageOffsets.tables = m.tables :=
  foldl_ranges_tables Meter.ageOffset_tables m

theorem Meter.invalidateAll_tables (m : Meter) : m.invalidateAll.tables = m.tables :=
  foldl_ranges_tables Meter.invalidate_tables m

/-- The calibration arbiter touches the Level Meter only, and not its tables. -/
theorem arbitrateCalibration_onLegs (s : State) (instant : Nat) : OnLegs [] [] s (s.arbitrateCalibration instant) := by
  unfold State.arbitrateCalibration
  split
  · exact .refl [] s
  · split
    · exact .refl [] s
    · exact onLegs_setMeter [] s rfl

/-! ## The Bias Supply at the boundary -/

/-- A leg as the entry to READY leaves it, or another boundary (R147). -/
def Leg.wokenBy (x : Leg) (ready : Bool) : Leg :=
  { x with state := if ready = true ∧ x.state = .blind then .running else x.state }

theorem Leg.wokenBy_false (x : Leg) : x.wokenBy false = x := by
  simp [Leg.wokenBy]

/-- The LEG-STATE notice of a leg that wakes as the bias enters READY. -/
def wakeNotices (s : State) (l : LegId) : List Notice :=
  if (s.leg l).state = .blind then [.legState l .running (s.leg l).count] else []

theorem wakeNotices_congr (s t : State) (l : LegId) (hl : t.leg l = s.leg l) (_ : t.bias = s.bias) :
    wakeNotices t l = wakeNotices s l := by
  simp only [wakeNotices, hl]

theorem wakeLeg_onLegs (s : State) (l : LegId) : OnLegs [l] (wakeNotices s l) s (s.wakeLeg l) := by
  unfold State.wakeLeg wakeNotices
  split
  · exact (onLegs_mapLeg s l _).trans (onLegs_notify [l] _ _)
  · exact .refl [l] s

theorem wakeLeg_leg (s : State) (l : LegId) : (s.wakeLeg l).leg l = (s.leg l).wokenBy true := by
  unfold State.wakeLeg Leg.wokenBy
  by_cases h : (s.leg l).state = .blind
  · simp [h]
  · simp [h]

/-- What the boundary's count of the bias touches, from `s` to `t`: the bias, the legs that wake, their notices and the
bias's, and of the Level Meter anything but its tables; `ready` says that the bias enters READY. -/
structure BiasCounted (ready : Bool) (ns : List Notice) (s t : State) : Prop where
  roster : t.roster = s.roster
  candidates : t.candidates = s.candidates
  rail : t.rail = s.rail
  params : t.params = s.params
  boundaries : t.boundaries = s.boundaries
  inReset : t.inReset = s.inReset
  tables : t.meter.tables = s.meter.tables
  iface : t.iface = ns.foldl Interface.place s.iface
  leg : ∀ l, t.leg l = (s.leg l).wokenBy ready

theorem biasCounted_setBias (s : State) (b : Bias) : BiasCounted false [] s (s.setBias b) :=
  ⟨rfl, rfl, rfl, rfl, rfl, rfl, rfl, rfl, fun l => (s.leg l).wokenBy_false.symm⟩

theorem enterReady_biasCounted (s : State) (instant : Nat) :
    BiasCounted true (.biasState .ready .settling .settled :: Quad.all.flatMap (wakeNotices s)) s
      (s.enterReady instant) := by
  have hwoken := onLegs_foldl wakeLeg_onLegs wakeNotices_congr nodup_quad_all
  have hleg := foldl_leg wakeLeg_onLegs wakeNotices_congr nodup_quad_all
  generalize hu : ((s.setBias { s.bias with state := .ready, settle := 0, readySince := instant }).setMeter
    s.meter.invalidateAll).notify (.biasState .ready .settling .settled) = u
  have hready : s.enterReady instant = Quad.all.foldl State.wakeLeg u := by rw [← hu]; rfl
  have hwake := hwoken u
  rw [hready]
  refine
    { roster := ?_, candidates := ?_, rail := ?_, params := ?_, boundaries := ?_, inReset := ?_, tables := ?_
      iface := ?_, leg := fun l => ?_ }
  · rw [hwake.roster, ← hu]; rfl
  · rw [hwake.candidates, ← hu]; rfl
  · rw [hwake.rail, ← hu]; rfl
  · rw [hwake.params, ← hu]; rfl
  · rw [hwake.boundaries, ← hu]; rfl
  · rw [hwake.inReset, ← hu]; rfl
  · rw [hwake.tables, ← hu]; exact s.meter.invalidateAll_tables
  · rw [hwake.iface, ← hu]; rfl
  · obtain ⟨v, hv, -, hstep⟩ := hleg u (mem_quad_all l)
    rw [hstep, wakeLeg_leg, hv, ← hu]
    rfl

theorem enterSettling_biasCounted (s : State) :
    BiasCounted false [.biasState .settling .tripped .recovered] s s.enterSettling :=
  ⟨rfl, rfl, rfl, rfl, rfl, rfl, rfl, rfl, fun l => (s.leg l).wokenBy_false.symm⟩

/-- The notices that the count of the bias places at a boundary (R141, R143, R147). -/
def countNotices (s : State) : List Notice :=
  if entersReady s then .biasState .ready .settling .settled :: Quad.all.flatMap (wakeNotices s)
  else if recovers s then [.biasState .settling .tripped .recovered]
  else []

/-- A boundary that neither enters READY nor completes a recovery changes the counts of the bias only. -/
theorem biasCounted_counting {s : State} (hr : entersReady s = false) (hc : recovers s = false) (b : Bias) :
    BiasCounted (entersReady s) (countNotices s) s (s.setBias b) := by
  have hn : countNotices s = [] := by simp [countNotices, hr, hc]
  rw [hr, hn]
  exact biasCounted_setBias s b

theorem countBias_biasCounted {s : State} (ha : s.bias.ahead = false) (instant : Nat) :
    BiasCounted (entersReady s) (countNotices s) s (s.countBias instant) := by
  unfold State.countBias
  cases hb : s.bias.state with
  | off => exact biasCounted_counting (by simp [entersReady, hb]) (by simp [recovers, hb]) s.bias
  | ready => exact biasCounted_counting (by simp [entersReady, hb]) (by simp [recovers, hb]) s.bias
  | settling =>
    by_cases hlast : 120 ≤ s.bias.settle + 1
    · have hr : entersReady s = true := by simp [entersReady, ha, hb, hlast]
      have hn : countNotices s = .biasState .ready .settling .settled :: Quad.all.flatMap (wakeNotices s) := by
        simp [countNotices, hr]
      rw [hr, hn]
      simpa [Config.settleCycles, hlast] using enterReady_biasCounted s instant
    · simpa [Config.settleCycles, hlast] using
        biasCounted_counting (by simp [entersReady, hlast]) (by simp [recovers, hb])
          { s.bias with settle := s.bias.settle + 1 }
  | tripped =>
    have hr : entersReady s = false := by simp [entersReady, hb]
    by_cases hsteady : s.rail.state = .normal ∧ s.rail.sagSeen = false
    · by_cases hlast : 40 ≤ s.bias.recovery + 1
      · have hn : countNotices s = [.biasState .settling .tripped .recovered] := by
          simp [countNotices, hr, recovers, ha, hb, hsteady, hlast]
        rw [hr, hn]
        simpa [Rail.steady, hsteady, Config.recoveryCycles, hlast] using enterSettling_biasCounted s
      · simpa [Rail.steady, hsteady, Config.recoveryCycles, hlast] using
          biasCounted_counting hr (by simp [recovers, hlast]) { s.bias with recovery := s.bias.recovery + 1 }
    · have hnot : s.rail.steady = false := by
        simpa [Rail.steady] using hsteady
      have hc : recovers s = false := by
        simp only [recovers, decide_eq_false_iff_not]
        exact fun ⟨_, _, hnormal, hseen, _⟩ => hsteady ⟨hnormal, hseen⟩
      simpa [hnot] using biasCounted_counting hr hc { s.bias with recovery := 0 }

/-- The bias at a boundary, counted or taken ahead of it, and then the rail (R141, R143, log 3). -/
theorem boundaryBias_biasCounted (s : State) (instant : Nat) :
    ∃ t, BiasCounted (entersReady s) (countNotices s) s t ∧
      s.boundaryBias instant = t.setRail { s.rail with sagSeen := decide (s.rail.state = .sag) } := by
  cases ha : s.bias.ahead with
  | true =>
    refine ⟨s.setBias { s.bias with ahead := false }, biasCounted_counting (by simp [entersReady, ha])
      (by simp [recovers, ha]) _, ?_⟩
    simp [State.boundaryBias, ha]
  | false =>
    have h := countBias_biasCounted ha instant
    exact ⟨s.countBias instant, h, by simp [State.boundaryBias, ha, h.rail]⟩

end Sys2Proof.Machine
end

section
/-! SUPPORT. The boundary of the cycle clock as a whole (R1, log 3, log 12), and the statement about it. -/

namespace Sys2Proof.Machine

/-! ## One leg, from before the boundary to after it -/

section Leg

variable {bias : BiasState} {marker : Nat} {x y : Leg}

theorem Begins.state_eq (h : Begins x y marker) : y.state = x.state := by rw [h.frame]

theorem Begins.count_eq (h : Begins x y marker) : y.count = x.count := by rw [h.frame]

theorem AtBoundary.eq_of_ahead (h : AtBoundary bias marker x y) (ha : x.ahead = true) :
    y = { x with ahead := false } := by
  cases h with
  | ahead _ hy => exact hy
  | started hna | stopping hna | starting hna | idle hna => rw [ha] at hna; cases hna

theorem AtBoundary.begins_of_started (h : AtBoundary bias marker x y) (ha : x.ahead = false)
    (hs : x.state ≠ .stopped) : Begins { x with count := x.count + 1#32 } y marker := by
  cases h with
  | ahead ha' => rw [ha] at ha'; cases ha'
  | started _ _ hy => exact hy
  | stopping _ hs' | starting _ hs' | idle _ hs' => exact absurd hs' hs

/-- A leg that is stopped does at a boundary what its pending final cycle or start says. -/
theorem AtBoundary.of_stopped (h : AtBoundary bias marker x y) (ha : x.ahead = false) (hs : x.state = .stopped) :
    (x.finalPending = true → y = x.finalCycle) ∧
      (x.finalPending = false → x.startPending = true → Begins (x.starting bias) y marker) ∧
      (x.finalPending = false → x.startPending = false → y = { x with downstream := none }) := by
  cases h with
  | ahead ha' => rw [ha] at ha'; cases ha'
  | started _ hs' => exact absurd hs hs'
  | stopping _ _ hf hy => simp [hf, hy]
  | starting _ _ hf hp hy => simp [hf, hp, hy]
  | idle _ _ hf hp hy => simp [hf, hp, hy]

/-- No boundary moves a leg's setup, and after it no leg is ahead of its boundary. -/
theorem AtBoundary.keeps (h : AtBoundary bias marker x y) :
    y.setup = x.setup ∧ y.derived = x.derived ∧ y.ahead = false := by
  cases h with
  | ahead _ hy => simp [hy]
  | started ha _ hy | starting ha _ _ _ hy => rw [hy.frame]; exact ⟨rfl, rfl, ha⟩
  | stopping ha _ _ hy => rw [hy]; exact ⟨rfl, rfl, ha⟩
  | idle ha _ _ _ hy => rw [hy]; exact ⟨rfl, rfl, ha⟩

/-- A leg is BLIND as the bias is counted when it was before, or when its start has found the bias not READY (R147). -/
theorem AtBoundary.blind_iff (h : AtBoundary bias marker x y) (hb : bias ≠ .ready) :
    y.state = .blind ↔ x.state = .blind ∨ starts x = true := by
  cases h with
  | ahead ha hy => simp [hy, starts, ha]
  | started _ hs hy => rw [hy.frame]; simp [starts, hs]
  | stopping _ hs hf hy => simp [hy, Leg.finalCycle, starts, hs, hf]
  | starting ha hs hf hp hy => rw [hy.frame]; simp [Leg.starting, hb, starts, ha, hs, hf, hp]
  | idle _ hs _ hp hy => simp [hy, starts, hs, hp]

/-- Waking neither starts a leg nor stops one. -/
theorem Leg.wokenBy_stopped (y : Leg) (ready : Bool) : (y.wokenBy ready).state = .stopped ↔ y.state = .stopped := by
  unfold Leg.wokenBy
  dsimp only
  split
  · next h => simp [h.2]
  · rfl

theorem Leg.wokenBy_eq_self {y : Leg} (hs : y.state = .stopped) (ready : Bool) : y.wokenBy ready = y := by
  have hasleep : (if ready = true ∧ y.state = .blind then .running else y.state) = y.state := by simp [hs]
  rw [Leg.wokenBy, hasleep]

/-- A leg that is started, or whose start is pending, begins a cycle: its next, or cycle 0 with an empty queue. -/
theorem AtBoundary.begins (h : AtBoundary bias marker x y) (ha : x.ahead = false)
    (hbegins : x.state ≠ .stopped ∨ x.finalPending = false ∧ x.startPending = true) :
    ∃ z, Begins z y marker ∧ z.count = (if x.state = .stopped then 0#32 else x.count + 1#32) ∧
      z.state = (if x.state = .stopped then if bias = .ready then .running else .blind else x.state) ∧
      z.derived = x.derived ∧ z.queue.length = (if x.state = .stopped then 0 else x.queue.length) := by
  by_cases hs : x.state = .stopped
  · obtain ⟨hf, hp⟩ := hbegins.resolve_left (not_not.mpr hs)
    refine ⟨x.starting bias, (h.of_stopped ha hs).2.1 hf hp, ?_⟩
    simp [hs, Leg.starting]
  · refine ⟨_, h.begins_of_started ha hs, ?_⟩
    simp [hs]

/-- The state of a leg whose cycle has begun (R147, R151). -/
theorem AtBoundary.state (h : AtBoundary bias marker x y) (ha : x.ahead = false)
    (hbegins : x.state ≠ .stopped ∨ x.finalPending = false ∧ x.startPending = true) (ready : Bool) :
    (y.wokenBy ready).state =
      if x.state = .running ∨ bias = .ready ∧ x.state = .stopped ∨ ready = true then .running else .blind := by
  obtain ⟨z, hz, -, hstate, -⟩ := h.begins ha hbegins
  rw [← hz.state_eq] at hstate
  unfold Leg.wokenBy
  cases hx : x.state with
  | stopped => by_cases hb : bias = .ready <;> simp [hstate, hx, hb]
  | blind => simp [hstate, hx]
  | running => simp [hstate, hx]

/-- The calendar of the cycle that begins, and the content that its transmitter sends. -/
theorem Begins.content_sent (h : Begins x y marker) :
    ∃ c d, y.calendar = some c ∧ y.downstream = some d ∧ c.cycle = x.count ∧ c.marker = marker ∧ c.closed = false ∧
      d.cycle = x.count ∧ d.grants = c.grantList ∧
      d.muster = (if c.window.isSome then some x.derived.am else none) ∧
      d.directives.length = min 8 x.queue.length := by
  obtain ⟨c, hcal, hcycle, hmarker, hclosed, hdown⟩ := h.content
  exact ⟨c, _, hcal, hdown, hcycle, hmarker, hclosed, rfl, rfl, rfl, by simp [leaving]⟩

end Leg

/-! ## The boundary, phase by phase -/

theorem comingInstant_eq (s : State) : s.comingInstant = 31250 * (s.boundaries + 1) := rfl

/-- The boundary once every leg has taken it. -/
def State.legsTaken (s : State) : State := Quad.all.foldl (State.boundaryLeg s.comingInstant) s

/-- The boundary once the candidates have lapsed and the Level Meter has taken it too. -/
def State.beforeBias (s : State) : State :=
  (s.legsTaken.lapseCandidates.arbitrateCalibration s.comingInstant).setMeter
    (s.legsTaken.lapseCandidates.arbitrateCalibration s.comingInstant).meter.ageOffsets

theorem State.boundary_eq_boundaryBias (s : State) :
    s.boundary =
      { s.beforeBias.boundaryBias s.comingInstant with
        boundaries := (s.beforeBias.boundaryBias s.comingInstant).boundaries + 1 } := rfl

theorem legsTaken_onLegs (s : State) : OnLegs Quad.all (Quad.all.flatMap (legNotices s)) s s.legsTaken :=
  boundaryLegs_onLegs s.comingInstant s

theorem legsTaken_atBoundary (s : State) (l : LegId) :
    AtBoundary s.bias.state (31250 * (s.boundaries + 1)) (s.leg l) (s.legsTaken.leg l) := by
  rw [← comingInstant_eq]
  exact boundaryLegs_atBoundary s.comingInstant s l

/-- Before the bias, candidates have lapsed, and besides the legs nothing else but the Level Meter has moved. -/
theorem beforeBias_onLegs (s : State) : OnLegs [] [] s.legsTaken.lapseCandidates s.beforeBias :=
  (arbitrateCalibration_onLegs s.legsTaken.lapseCandidates s.comingInstant).quiet
    (onLegs_setMeter [] _ (Meter.ageOffsets_tables _))

theorem beforeBias_leg (s : State) (l : LegId) : s.beforeBias.leg l = s.legsTaken.leg l := by
  rw [(beforeBias_onLegs s).others l List.not_mem_nil, State.lapseCandidates_eq]
  rfl

/-- What neither the legs nor the Level Meter touch at a boundary. -/
theorem beforeBias_frame (s : State) :
    s.beforeBias.roster = s.roster ∧ s.beforeBias.bias = s.bias ∧ s.beforeBias.rail = s.rail ∧
      s.beforeBias.params = s.params ∧ s.beforeBias.boundaries = s.boundaries ∧ s.beforeBias.inReset = s.inReset ∧
      s.beforeBias.meter.tables = s.meter.tables := by
  have hlegs := legsTaken_onLegs s
  have h := beforeBias_onLegs s
  rw [State.lapseCandidates_eq] at h
  exact ⟨h.roster.trans hlegs.roster, h.bias.trans hlegs.bias, h.rail.trans hlegs.rail, h.params.trans hlegs.params,
    h.boundaries.trans hlegs.boundaries, h.inReset.trans hlegs.inReset, h.tables.trans hlegs.tables⟩

/-- The boundary as a whole: the count of the bias, on the state that legs and Level Meter leave, and then the rail. -/
theorem boundary_biasCounted (s : State) :
    ∃ t, BiasCounted (entersReady s) (countNotices s.beforeBias) s.beforeBias t ∧
      s.boundary =
        { t.setRail { s.rail with sagSeen := decide (s.rail.state = .sag) } with boundaries := s.boundaries + 1 } := by
  obtain ⟨-, hbias, hrail, -, hboundaries, -⟩ := beforeBias_frame s
  obtain ⟨t, ht, heq⟩ := boundaryBias_biasCounted s.beforeBias s.comingInstant
  have hready : entersReady s.beforeBias = entersReady s := by simp only [entersReady, hbias]
  refine ⟨t, hready ▸ ht, ?_⟩
  rw [State.boundary_eq_boundaryBias, heq, hrail, State.setRail_boundaries, ht.boundaries, hboundaries]

/-- A leg after the boundary: as it took the boundary, and woken when the bias enters READY there (R147). -/
theorem boundary_leg (s : State) (l : LegId) : s.boundary.leg l = (s.legsTaken.leg l).wokenBy (entersReady s) := by
  obtain ⟨t, ht, heq⟩ := boundary_biasCounted s
  rw [← beforeBias_leg, ← ht.leg l, heq]
  rfl

/-! ## Candidates and notices -/

/-- The candidates that lapse once every leg has begun its cycle are those that expire in the boundary (R89). -/
theorem legsTaken_expires (s : State) : s.legsTaken.expires = expiresIn s s.boundary := by
  funext c
  simp only [State.expires, expiresIn, Leg.started, Candidate.lapsed, cyclesSince, boundary_leg, Leg.wokenBy_stopped,
    (legsTaken_onLegs s).params, ne_eq]
  rfl

theorem beforeBias_candidates (s : State) :
    s.beforeBias.candidates = s.candidates.filter fun c => !expiresIn s s.boundary c := by
  rw [(beforeBias_onLegs s).candidates, State.lapseCandidates_eq, legsTaken_expires, ← (legsTaken_onLegs s).candidates]

/-- Before the bias, the notices of the legs and of the candidates that lapse have been placed (log 12). -/
theorem beforeBias_iface (s : State) :
    s.beforeBias.iface = (Quad.all.flatMap (legNotices s) ++
      (s.candidates.filter (expiresIn s s.boundary)).map
        fun c => Notice.candidateLapsed c.tag c.leg c.reason c.lastHeard).foldl Interface.place s.iface := by
  rw [(beforeBias_onLegs s).iface, State.lapseCandidates_eq, legsTaken_expires, List.foldl_append,
    ← (legsTaken_onLegs s).iface, ← (legsTaken_onLegs s).candidates]
  rfl

theorem map_filter_eq_flatMap {α β : Type} (p : α → Bool) (f : α → β) (l : List α) :
    (l.filter p).map f = l.flatMap fun a => if p a then [f a] else [] := by
  induction l with
  | nil => rfl
  | cons a l ih => cases hp : p a <;> simp [hp, ih]

/-- The notices that the count of the bias places are the bias's notices of the boundary (R141, R143, R147). -/
theorem beforeBias_countNotices (s : State) : countNotices s.beforeBias = biasNotices s s.boundary := by
  obtain ⟨-, hbias, hrail, -⟩ := beforeBias_frame s
  have hready : entersReady s.beforeBias = entersReady s := by simp only [entersReady, hbias]
  have hrecovers : recovers s.beforeBias = recovers s := by simp only [recovers, hbias, hrail]
  unfold countNotices biasNotices
  rw [hready, hrecovers]
  by_cases h : entersReady s = true
  · have hsettling : s.bias.state = .settling := (of_decide_eq_true h).2.1
    have hb : s.bias.state ≠ .ready := by rw [hsettling]; decide
    rw [if_pos h, if_pos h, map_filter_eq_flatMap]
    refine congrArg (List.cons _) (List.flatMap_congr fun l _ => ?_)
    have hcount : (s.boundary.leg l).count = (s.legsTaken.leg l).count := by rw [boundary_leg]; rfl
    simp [wakeNotices, beforeBias_leg, (legsTaken_atBoundary s l).blind_iff hb, hcount]
  · rw [if_neg h, if_neg h]

theorem boundary_iface (s : State) :
    s.boundary.iface = (boundaryNotices s s.boundary).foldl Interface.place s.iface := by
  obtain ⟨t, ht, heq⟩ := boundary_biasCounted s
  rw [boundaryNotices, List.foldl_append, ← beforeBias_iface, ← beforeBias_countNotices, ← ht.iface, heq]
  rfl

theorem boundary_candidates (s : State) :
    s.boundary.candidates = s.candidates.filter fun c => !expiresIn s s.boundary c := by
  obtain ⟨t, ht, heq⟩ := boundary_biasCounted s
  rw [← beforeBias_candidates, ← ht.candidates, heq]
  rfl

/-- What stands at a boundary, and what counts it (R1, R144). -/
theorem boundary_frame (s : State) :
    s.boundary.boundaries = s.boundaries + 1 ∧ s.boundary.roster = s.roster ∧ s.boundary.params = s.params ∧
      s.boundary.inReset = s.inReset ∧
      s.boundary.rail = { s.rail with sagSeen := decide (s.rail.state = .sag) } ∧
      s.boundary.meter.tables = s.meter.tables := by
  obtain ⟨hroster, -, -, hparams, -, hreset, htables⟩ := beforeBias_frame s
  obtain ⟨t, ht, heq⟩ := boundary_biasCounted s
  rw [heq]
  exact ⟨rfl, ht.roster.trans hroster, ht.params.trans hparams, ht.inReset.trans hreset, rfl,
    ht.tables.trans htables⟩

/-- Outside a reset CYCLE_BOUNDARY takes the boundary, and then the arbiter looks at the line. -/
theorem exec_cycleBoundary {s : State} (h : s.inReset = none) :
    exec .cycleBoundary s = .next s.boundary.arbitrate :=
  event_alive State.boundary h

/-- Notices placed on an interface leave its input side. -/
theorem Interface.foldl_place_frame (ns : List Notice) (i : Interface) :
    (ns.foldl Interface.place i).buffer = i.buffer ∧ (ns.foldl Interface.place i).rx = i.rx := by
  induction ns generalizing i with
  | nil => exact ⟨rfl, rfl⟩
  | cons n ns ih =>
    obtain ⟨hbuffer, hrx⟩ := ih (i.place n)
    obtain ⟨hrx', hbuffer', -⟩ := i.place_frame n
    exact ⟨hbuffer.trans hbuffer', hrx.trans hrx'⟩

end Sys2Proof.Machine

open Sys2Proof Sys2Proof.Machine

/-- Settles O37: the blocks as the boundary's phases leave them, and each leg by its case of `AtBoundary`. -/
theorem everyLegBeginsItsCycle : Obligations.EveryLegBeginsItsCycle := by
  unfold Obligations.EveryLegBeginsItsCycle
  intro s hreset
  obtain ⟨hboundaries, hroster, hparams, hinReset, hrail, htables⟩ := boundary_frame s
  obtain ⟨hbuffer, hrx⟩ := Interface.foldl_place_frame (boundaryNotices s s.boundary) s.iface
  obtain ⟨hbuffer', hrx', -⟩ := Interface.arbitrate_frame s.boundary.iface
  have hexec := exec_cycleBoundary hreset
  have hiface := boundary_iface s
  have hcandidates := boundary_candidates s
  have hleg := boundary_leg s
  rw [← hiface] at hbuffer hrx
  generalize s.boundary = t at *
  refine ⟨t.arbitrate, hexec, hboundaries, hroster, hparams, hinReset.trans hreset, hrail, htables,
    hbuffer'.trans hbuffer, hrx'.trans hrx, hcandidates, congrArg Interface.arbitrate hiface, fun l => ?_⟩
  have hat := legsTaken_atBoundary s l
  rw [State.arbitrate_leg, hleg]
  generalize s.leg l = x at hat ⊢
  generalize s.legsTaken.leg l = y at hat ⊢
  obtain ⟨hsetup, hderived, hahead⟩ := hat.keeps
  refine ⟨hsetup, hderived, hahead, fun ha => ?_, fun ha => ⟨fun hbegins => ⟨?_, hat.state ha hbegins _, ?_,
    fun hs => ?_⟩, fun hs hf hp => ?_, fun hs hf => ?_, fun hs hf hp => ?_⟩⟩
  · rw [hat.eq_of_ahead ha]
    exact ⟨rfl, rfl⟩
  · obtain ⟨z, hz, hcount, -⟩ := hat.begins ha hbegins
    exact hz.count_eq.trans hcount
  · obtain ⟨z, hz, -, -, hzd, hqueue⟩ := hat.begins ha hbegins
    obtain ⟨c, d, hcal, hdown, hcycle, hmarker, hclosed, hsent, hgrants, hmuster, hlength⟩ := hz.content_sent
    refine ⟨c, d, hcal, hdown, hcycle.trans hz.count_eq.symm, hmarker, hclosed, hsent.trans hz.count_eq.symm, hgrants,
      by rw [hmuster, hzd], ?_⟩
    rw [hlength, hqueue, apply_ite (min 8), Nat.min_zero]
  · exact (hat.begins_of_started ha hs).departs
  · have hz := (hat.of_stopped ha hs).2.1 hf hp
    obtain ⟨-, hqueue, -⟩ := hz.departs
    exact ⟨congrArg Leg.startPending hz.frame, hqueue, congrArg Leg.allocCount hz.frame⟩
  · have hy := (hat.of_stopped ha hs).1 hf
    rw [Leg.wokenBy_eq_self (hy ▸ hs)]
    exact hy
  · have hy := (hat.of_stopped ha hs).2.2 hf hp
    rw [Leg.wokenBy_eq_self (hy ▸ hs)]
    exact hy

end

section
/-! SUPPORT. The round trips that a state holds (R18, R23, R25, R28): what one leg holds of them, and the steps that
keep them within their leg's Z. -/

namespace Sys2Proof.Machine

/-! ## Legs and candidates -/

/-- The round trips that one leg holds: R and E of a record sum to Z, that of an announce lies within Z, and a leg that
is STOPPED holds neither, and scans no window. -/
structure Leg.Equalized (x : Leg) : Prop where
  records : ∀ d r, x.record d = some r → r.r + r.e = x.derived.z
  announces : ∀ a ∈ x.receiver.announces, a.r ≤ x.derived.z
  stopped : x.state = .stopped →
    (∀ d, x.record d = none) ∧ x.receiver.announces = [] ∧ x.receiver.scan = none

/-- A round trip `r` heard on leg `l` may be held: the leg is started, and `r` lies within its Z. -/
def State.Reaches (s : State) (l : LegId) (r : Nat) : Prop :=
  (s.leg l).state ≠ .stopped ∧ r ≤ (s.leg l).derived.z

/-- The invariant, leg by leg and candidate by candidate. -/
theorem State.equalized_iff (s : State) :
    s.Equalized ↔ (∀ l, (s.leg l).Equalized) ∧ ∀ c ∈ s.candidates, s.Reaches c.leg c.r := by
  constructor
  · intro h
    refine ⟨fun l => ⟨h.records l, h.announces l, fun hs => ?_⟩, fun c hc => ⟨fun hs => ?_, h.candidates c hc⟩⟩
    · obtain ⟨hrecords, hannounces, hscan, -⟩ := h.stopped l hs
      exact ⟨hrecords, hannounces, hscan⟩
    · obtain ⟨-, -, -, hcandidates⟩ := h.stopped c.leg hs
      exact hcandidates c hc rfl
  · rintro ⟨hlegs, hcandidates⟩
    refine ⟨fun l => (hlegs l).records, fun l => (hlegs l).announces, fun c hc => (hcandidates c hc).2, fun l hs => ?_⟩
    obtain ⟨hrecords, hannounces, hscan⟩ := (hlegs l).stopped hs
    exact ⟨hrecords, hannounces, hscan, fun c hc hcl => (hcandidates c hc).1 (hcl ▸ hs)⟩

/-- A leg that becomes another keeps its round trips: Z stands, it is not stopped, and it holds no other round trips
than it may. -/
structure Leg.Keeps (x y : Leg) : Prop where
  derived : y.derived = x.derived
  state : y.state = .stopped → x.state = .stopped
  equalized : x.Equalized → y.Equalized

theorem Leg.Keeps.refl (x : Leg) : x.Keeps x := ⟨rfl, id, id⟩

theorem Leg.Keeps.trans {x y z : Leg} (h : x.Keeps y) (h' : y.Keeps z) : x.Keeps z :=
  ⟨h'.derived.trans h.derived, h.state ∘ h'.state, h'.equalized ∘ h.equalized⟩

/-- A change of a leg that leaves its records and announces, and begins no scan. -/
theorem Leg.Keeps.of_same {x y : Leg} (hderived : y.derived = x.derived)
    (hstate : y.state = .stopped → x.state = .stopped) (hdrops : y.drops = x.drops)
    (hannounces : y.receiver.announces = x.receiver.announces)
    (hscan : x.receiver.scan = none → y.receiver.scan = none) : x.Keeps y := by
  have hrecord : ∀ d, y.record d = x.record d := fun d => by simp only [Leg.record, hdrops]
  refine ⟨hderived, hstate, fun h => ⟨fun d r hr => ?_, fun a ha => ?_, fun hs => ?_⟩⟩
  · rw [hderived]; exact h.records d r (hrecord d ▸ hr)
  · rw [hderived]; exact h.announces a (hannounces ▸ ha)
  · obtain ⟨hrecords, hnone, hidle⟩ := h.stopped (hstate hs)
    exact ⟨fun d => (hrecord d).trans (hrecords d), hannounces.trans hnone, hscan hidle⟩

theorem Leg.keeps_mapScan (x : Leg) (f : WindowScan → WindowScan) : x.Keeps (x.mapScan f) :=
  .of_same rfl id rfl rfl fun h => by simp [Leg.mapScan, Leg.mapReceiver, h]

/-- A record of a drop table with one place replaced is one that stood, or the one put in its place. -/
theorem Leg.setRecord_record_cases {x : Leg} {d e : Nat} {o : Option DropRecord} {a : DropRecord}
    (h : (x.setRecord d o).record e = some a) : x.record e = some a ∨ e = d ∧ o = some a := by
  by_cases hed : e = d
  · subst hed
    have hlt : e < x.drops.length := by simpa using Leg.record_lt h
    exact .inr ⟨rfl, (Leg.setRecord_record_same x o hlt).symm.trans h⟩
  · exact .inl ((Leg.setRecord_record_other x o hed).symm.trans h)

/-- A record changes, and R + E stands as Z. -/
theorem Leg.keeps_setRecord {x : Leg} {d : Nat} {r r' : DropRecord} (hr : x.record d = some r)
    (hsum : r.r + r.e = x.derived.z → r'.r + r'.e = x.derived.z) : x.Keeps (x.setRecord d (some r')) := by
  refine ⟨rfl, id, fun h => ⟨fun e a ha => ?_, h.announces, fun hs => ?_⟩⟩
  · rcases Leg.setRecord_record_cases ha with ha | ⟨-, ha⟩
    · exact h.records e a ha
    · cases ha
      exact hsum (h.records d r hr)
  · obtain ⟨hrecords, -⟩ := h.stopped hs
    rw [hrecords d] at hr
    cases hr

/-- A record becomes FREE. -/
theorem Leg.keeps_free (x : Leg) (d : Nat) : x.Keeps (x.setRecord d none) := by
  have hstood : ∀ {e a}, (x.setRecord d none).record e = some a → x.record e = some a := fun ha =>
    (Leg.setRecord_record_cases ha).resolve_right fun h => nomatch h.2
  refine ⟨rfl, id, fun h => ⟨fun e a ha => h.records e a (hstood ha), h.announces, fun hs => ?_⟩⟩
  obtain ⟨hrecords, hrest⟩ := h.stopped hs
  refine ⟨fun e => Option.eq_none_iff_forall_ne_some.mpr fun a ha => ?_, hrest⟩
  cases (hrecords e).symm.trans (hstood ha)

/-! ## Steps that keep every round trip -/

/-- What admission and the invariant read of a candidate. -/
def Candidate.heard (c : Candidate) : FactoryTag × LegId × Nat := (c.tag, c.leg, c.r)

/-- A step keeps the round trips of every leg, and the Candidate List gets no new one. -/
structure State.Keeps (s t : State) : Prop where
  leg : ∀ l, (s.leg l).Keeps (t.leg l)
  candidates : (t.candidates.map Candidate.heard).Sublist (s.candidates.map Candidate.heard)

theorem State.Keeps.refl (s : State) : s.Keeps s := ⟨fun l => .refl (s.leg l), .refl _⟩

theorem State.Keeps.trans {s t u : State} (h : s.Keeps t) (h' : t.Keeps u) : s.Keeps u :=
  ⟨fun l => (h.leg l).trans (h'.leg l), h'.candidates.trans h.candidates⟩

/-- A step after one that keeps. -/
theorem State.Keeps.after {s t u : State} (h' : t.Keeps u) (h : s.Keeps t) : s.Keeps u := h.trans h'

theorem State.Keeps.reaches {s t : State} (h : s.Keeps t) {l : LegId} {r : Nat} (hr : s.Reaches l r) :
    t.Reaches l r :=
  ⟨fun hs => hr.1 ((h.leg l).state hs), by rw [(h.leg l).derived]; exact hr.2⟩

theorem State.Keeps.equalized {s t : State} (h : s.Keeps t) (hs : s.Equalized) : t.Equalized := by
  obtain ⟨hlegs, hcandidates⟩ := (State.equalized_iff s).mp hs
  refine (State.equalized_iff t).mpr ⟨fun l => (h.leg l).equalized (hlegs l), fun c hc => ?_⟩
  obtain ⟨c', hc', heard⟩ := List.mem_map.mp (h.candidates.subset (List.mem_map_of_mem hc))
  simp only [Candidate.heard, Prod.mk.injEq] at heard
  obtain ⟨-, hleg, hr⟩ := heard
  rw [← hleg, ← hr]
  exact h.reaches (hcandidates c' hc')

/-- A step that leaves the legs and the Candidate List. -/
theorem State.Keeps.of_same {s t : State} (hlegs : t.legs = s.legs) (hcandidates : t.candidates = s.candidates) :
    s.Keeps t :=
  ⟨fun l => by rw [State.leg, State.leg, hlegs]; exact .refl _, by rw [hcandidates]⟩

theorem State.Keeps.ite {s t u : State} {c : Prop} [Decidable c] (ht : s.Keeps t) (hu : s.Keeps u) :
    s.Keeps (if c then t else u) := by
  split
  · exact ht
  · exact hu

theorem State.keeps_foldl {α : Type} {f : State → α → State} (hf : ∀ (s : State) (a : α), s.Keeps (f s a))
    (as : List α) (s : State) : s.Keeps (as.foldl f s) := by
  induction as generalizing s with
  | nil => exact .refl s
  | cons a as ih => exact (hf s a).trans (ih (f s a))

theorem State.keeps_notify (s : State) (n : Notice) : s.Keeps (s.notify n) := .of_same rfl rfl

theorem State.keeps_setIface (s : State) (i : Interface) : s.Keeps (s.setIface i) := .of_same rfl rfl

theorem State.keeps_setRail (s : State) (r : Rail) : s.Keeps (s.setRail r) := .of_same rfl rfl

theorem State.keeps_setMeter (s : State) (m : Meter) : s.Keeps (s.setMeter m) := .of_same rfl rfl

theorem State.keeps_setBias (s : State) (b : Bias) : s.Keeps (s.setBias b) := .of_same rfl rfl

theorem State.keeps_setLeg {s : State} {l : LegId} {x : Leg} (h : (s.leg l).Keeps x) : s.Keeps (s.setLeg l x) := by
  refine ⟨fun k => ?_, .refl _⟩
  rw [State.setLeg_leg]
  split
  · next hk => rw [hk]; exact h
  · exact .refl _

theorem State.keeps_mapLeg {s : State} {l : LegId} {f : Leg → Leg} (h : (s.leg l).Keeps (f (s.leg l))) :
    s.Keeps (s.mapLeg l f) :=
  State.keeps_setLeg h

theorem State.keeps_mapScan (s : State) (l : LegId) (f : WindowScan → WindowScan) :
    s.Keeps (s.mapLeg l fun x => x.mapScan f) :=
  State.keeps_mapLeg (Leg.keeps_mapScan _ f)

/-- A record changes in a value other than R and E. -/
theorem State.keeps_setRecord {s : State} {l : LegId} {d : Nat} {r r' : DropRecord} (hr : s.record l d = some r)
    (hsame : r'.r = r.r) (hsame' : r'.e = r.e) : s.Keeps (s.setRecord l d (some r')) :=
  State.keeps_setLeg (Leg.keeps_setRecord hr fun h => by rw [hsame, hsame']; exact h)

theorem State.keeps_free (s : State) (l : LegId) (d : Nat) : s.Keeps (s.setRecord l d none) :=
  State.keeps_setLeg (Leg.keeps_free (s.leg l) d)

theorem State.keeps_setRosterAt (s : State) (i : Nat) (e : Option RosterEntry) : s.Keeps (s.setRosterAt i e) :=
  .of_same rfl rfl

theorem State.keeps_unlink (s : State) (i : Nat) : s.Keeps (s.unlink i) :=
  .of_same (s.unlink_frame i).2.2.1 (s.unlink_frame i).2.1

theorem State.keeps_heard (s : State) (tag : FactoryTag) (l : LegId) (n : Cycle) : s.Keeps (s.heard tag l n) :=
  .of_same (s.heard_frame tag l n).2.2.1 (s.heard_frame tag l n).2.1

theorem State.keeps_recordLight (s : State) (l : LegId) (light : BitVec 48) : s.Keeps (s.recordLight l light) :=
  State.keeps_mapLeg (.of_same rfl id rfl rfl id)

/-- Candidates that leave the list, whatever their legs. -/
theorem State.keeps_filterCandidates (s : State) (p : Candidate → Bool) :
    s.Keeps (s.setCandidates (s.candidates.filter p)) :=
  ⟨fun l => .refl (s.leg l), List.filter_sublist.map _⟩

theorem State.keeps_indexCandidate (s : State) (tag : FactoryTag) (i : Option Nat) :
    s.Keeps (s.indexCandidate tag i) := by
  refine ⟨fun l => .refl (s.leg l), ?_⟩
  have hheard : (s.indexCandidate tag i).candidates.map Candidate.heard = s.candidates.map Candidate.heard := by
    simp only [State.indexCandidate, State.setCandidates_candidates, List.map_map]
    refine List.map_congr_left fun c _ => ?_
    rw [Function.comp, apply_ite Candidate.heard]
    exact ite_self _
  rw [hheard]

/-! ## Directives and departures -/

theorem Leg.keeps_direct (x : Leg) (new : Directive) (ident : Identity) : x.Keeps (x.direct new ident) :=
  .of_same rfl id rfl rfl id

theorem State.keeps_direct (s : State) (l : LegId) (new : Directive) (ident : Identity) :
    s.Keeps (s.direct l new ident) :=
  State.keeps_mapLeg (Leg.keeps_direct _ new ident)

theorem Leg.keeps_park (x : Leg) (tag : FactoryTag) : x.Keeps (x.park tag) := by
  unfold Leg.park
  split
  · exact .refl x
  · split
    · exact .of_same rfl id rfl rfl id
    · exact .refl x

theorem State.keeps_park (s : State) (l : LegId) (tag : FactoryTag) : s.Keeps (s.mapLeg l fun x => x.park tag) :=
  State.keeps_mapLeg (Leg.keeps_park _ tag)

theorem DropRecord.recordDeparture_trip (r : DropRecord) (n : Cycle) (dir : Directive) :
    (r.recordDeparture n dir).r = r.r ∧ (r.recordDeparture n dir).e = r.e := by
  cases dir <;> exact ⟨rfl, rfl⟩

theorem Leg.keeps_departOne (n : Cycle) (x : Leg) (q : QueueEntry) : x.Keeps (x.departOne n q) := by
  cases h : queuedFor x q with
  | none => rw [Leg.departOne_none n h]; exact .refl x
  | some r =>
    obtain ⟨-, hr⟩ := queuedFor_eq_some.mp h
    obtain ⟨hsame, hsame'⟩ := r.recordDeparture_trip n q.dir
    rw [Leg.departOne_some n h]
    refine (Leg.keeps_setRecord hr (r' := r.recordDeparture n q.dir) fun h => by rw [hsame, hsame']; exact h).trans ?_
    exact .of_same rfl id rfl rfl id

theorem Leg.keeps_startRecords (x : Leg) (n : Cycle) : x.Keeps (x.startRecords n) := by
  refine ⟨rfl, id, fun h => ⟨fun d r hr => ?_, h.announces, fun hs => ?_⟩⟩
  · rw [Leg.startRecords_record, Option.map_eq_some_iff] at hr
    obtain ⟨r', hr', rfl⟩ := hr
    exact h.records d r' hr'
  · obtain ⟨hrecords, hrest⟩ := h.stopped hs
    exact ⟨fun d => by rw [Leg.startRecords_record, hrecords d]; rfl, hrest⟩

theorem Leg.keeps_depart (n : Cycle) (x : Leg) : x.Keeps (x.depart n).1 := by
  have hall : ∀ (qs : List QueueEntry) (y : Leg), y.Keeps (qs.foldl (Leg.departOne n) y) := fun qs => by
    induction qs with
    | nil => exact .refl
    | cons q qs ih => exact fun y => (Leg.keeps_departOne n y q).trans (ih _)
  simp only [Leg.depart, foldl_depart_eq]
  have htaken : x.Keeps { x with queue := x.queue.drop Config.directivesPerCycle } := .of_same rfl id rfl rfl id
  exact htaken.trans (hall _ _)

/-! ## Isolation turns and the ending of a record -/

theorem State.keeps_endRun (s : State) (l : LegId) (outcome : RunOutcome) (culprit : Option (Nat × FactoryTag)) :
    s.Keeps (s.endRun l outcome culprit) := by
  unfold State.endRun
  split
  · exact .refl s
  · exact (State.keeps_mapLeg (.of_same rfl id rfl rfl id)).trans (State.keeps_notify _ _)

theorem keeps_beginTurn (l : LegId) (run : IsolationRun) (ts : List Identity) (pos : Nat) (s : State) :
    s.Keeps (beginTurn l run ts pos s) := by
  induction ts generalizing pos with
  | nil => exact State.keeps_endRun s l .none none
  | cons t ts ih =>
    unfold beginTurn
    split
    · exact ih (pos + 1)
    · next r hr =>
      split
      · exact (State.keeps_direct _ _ _ _).after
          (.after (State.keeps_mapLeg (.of_same rfl id rfl rfl id)) (State.keeps_setRecord hr rfl rfl))
      · exact ih (pos + 1)

theorem State.keeps_nextTurn (s : State) (l : LegId) : s.Keeps (s.nextTurn l) := by
  unfold State.nextTurn
  split
  · exact .refl s
  · exact keeps_beginTurn l _ _ _ s

/-- The record of the current turn, in the cases of `endTurn` and `nameCulprit` that act on it. -/
theorem State.keeps_endTurn (s : State) (l : LegId) : s.Keeps (s.endTurn l) := by
  unfold State.endTurn
  split
  · exact .refl s
  · split
    · exact .refl s
    · split
      · exact .refl s
      · next r hr =>
        refine .ite ?_ (.refl s)
        have hflag := State.keeps_setRecord hr (r' := { r with isolated := false }) rfl rfl
        exact .ite hflag (hflag.trans (State.keeps_direct _ _ _ _))

theorem State.keeps_nameCulprit (s : State) (l : LegId) : s.Keeps (s.nameCulprit l) := by
  unfold State.nameCulprit
  split
  · exact .refl s
  · split
    · exact .refl s
    · split
      · exact .refl s
      · next hr => exact (State.keeps_endRun _ _ _ _).after (State.keeps_setRecord hr rfl rfl)

theorem State.keeps_endRecord (s : State) (l : LegId) (d : Nat) (reason : EndReason) (release : Bool) :
    s.Keeps (s.endRecord l d reason release) := by
  unfold State.endRecord
  split
  · exact .refl s
  · next r _ =>
    have hqueued : s.Keeps (if release then (s.unlink r.rosterIndex).direct l (.release d) r.ident
        else (s.unlink r.rosterIndex).mapLeg l fun x => x.clearFollow d) :=
      (s.keeps_unlink r.rosterIndex).trans
        (.ite (State.keeps_direct _ _ _ _) (State.keeps_mapLeg (.of_same rfl id rfl rfl id)))
    have hended := hqueued.trans (State.keeps_free _ l d)
    exact .ite ((State.keeps_nextTurn _ l).after ((State.keeps_notify _ _).after hended))
      ((State.keeps_notify _ _).after hended)

/-! ## Verdicts and power outcomes -/

theorem correctedE_le (z e : Nat) (drift : Int) : correctedE z e drift ≤ z := by
  simp only [correctedE, clampInt]
  omega

/-- A correction moves R and E together (R28). -/
theorem State.keeps_correctDrift (s : State) (l : LegId) (d : Nat) (drift : Int) :
    s.Keeps (s.correctDrift l d drift) := by
  unfold State.correctDrift
  split
  · exact .refl s
  · next r hr =>
    have hle := correctedE_le (s.leg l).derived.z r.e drift
    refine .ite (.refl s)
      (.trans (State.keeps_setLeg (Leg.keeps_setRecord hr fun _ => ?_)) (State.keeps_direct _ _ _ _))
    exact Nat.sub_add_cancel hle

section Record

variable {s : State} {l : LegId} {d : Nat} {r : DropRecord}

theorem State.keeps_enrolMiss (hr : s.record l d = some r) (grant : Cycle) : s.Keeps (s.enrolMiss l d grant r) := by
  unfold State.enrolMiss State.enrolAgain
  have again := State.keeps_setRecord hr (r' := { r with attempts := r.attempts + 1, echoes := 0, echoDue := none })
    rfl rfl
  have last := State.keeps_setRecord hr (r' := { r with echoes := 3 }) rfl rfl
  exact .ite (.ite (.ite (again.trans (State.keeps_direct _ _ _ _)) (last.trans (State.keeps_endRecord _ _ _ _ _)))
    (State.keeps_setRecord hr rfl rfl)) (.refl s)

theorem State.keeps_soakMiss (hr : s.record l d = some r) (streak : Nat) :
    s.Keeps (s.soakMiss l d { r with streak := streak }) := by
  have missed := State.keeps_setRecord hr (r' := { r with streak := streak, misses := r.misses + 1 }) rfl rfl
  exact .ite (missed.trans (State.keeps_endRecord _ _ _ _ _)) missed

theorem State.keeps_soakGood (hr : s.record l d = some r) : s.Keeps (s.soakGood l d r) :=
  .ite ((State.keeps_notify _ _).after (State.keeps_setRecord hr rfl rfl)) (State.keeps_setRecord hr rfl rfl)

theorem State.keeps_serviceMiss (hr : s.record l d = some r) : s.Keeps (s.serviceMiss l d r) := by
  have missed := State.keeps_setRecord hr (r' := { r with silentRun := r.silentRun + 1 }) rfl rfl
  exact .ite (missed.trans (State.keeps_endRecord _ _ _ _ _)) missed

theorem State.keeps_moveLaunch (hr : s.record l d = some r) {r' : DropRecord} (hsame : r'.r = r.r)
    (hsame' : r'.e = r.e) (launch : LaunchStep) : s.Keeps (s.moveLaunch l d r' launch) :=
  (State.keeps_direct _ _ _ _).after (State.keeps_setRecord hr hsame hsame')

theorem State.keeps_level (hr : s.record l d = some r) {r' : DropRecord} (hsame : r'.r = r.r) (hsame' : r'.e = r.e)
    (a : LevelAttrs) : s.Keeps (s.level l d r' a) := by
  have soak (flags : LevelFlags) := State.keeps_setRecord hr (r' := { r'.toSoak with flags := flags }) hsame hsame'
  have moved := State.keeps_moveLaunch hr hsame hsame'
  exact .ite (.ite (moved _) (soak _)) (.ite (.ite (moved _) (soak _)) (State.keeps_setRecord hr hsame hsame'))

theorem DropRecord.oneUnmeasured_trip (r : DropRecord) : r.oneUnmeasured.r = r.r ∧ r.oneUnmeasured.e = r.e := by
  unfold DropRecord.oneUnmeasured
  dsimp only
  split <;> exact ⟨rfl, rfl⟩

theorem State.keeps_levellingEntry (hr : s.record l d = some r) (grant : Cycle) (o : PowerOutcome) :
    s.Keeps (s.levellingEntry l d r grant o) := by
  have unmeasured (r' : DropRecord) (hsame : r'.r = r.r) (hsame' : r'.e = r.e) :=
    State.keeps_setRecord hr (r'.oneUnmeasured_trip.1.trans hsame) (r'.oneUnmeasured_trip.2.trans hsame')
  cases o with
  | unmeasured => exact unmeasured r rfl rfl
  | result v a =>
    have levelled := State.keeps_level hr (r' := { r with hint := r.hintAfter a, lastPower := some v }) rfl rfl a
    exact .ite (State.keeps_setRecord hr rfl rfl) (.ite (unmeasured _ rfl rfl) levelled)

theorem State.keeps_serviceEntry (hr : s.record l d = some r) (o : PowerOutcome) :
    s.Keeps (s.serviceEntry l d r o) := by
  cases o with
  | unmeasured => exact .refl s
  | result v a => exact .ite (State.keeps_setRecord hr rfl rfl) (State.keeps_setRecord hr rfl rfl)

end Record

theorem State.keeps_countVerdict (s : State) (l : LegId) (d : Nat) (v : Delivered) :
    s.Keeps (s.countVerdict l d v) := by
  unfold State.countVerdict
  split
  · exact .refl s
  · next r hr =>
    dsimp only
    split
    · exact .ite (State.keeps_setRecord hr rfl rfl) (State.keeps_enrolMiss hr _)
    · exact .ite (.refl s) (State.keeps_soakMiss hr r.streak)
    · exact .ite (State.keeps_soakGood hr) (State.keeps_soakMiss hr 0)
    · exact .ite (State.keeps_setRecord hr rfl rfl) (State.keeps_serviceMiss hr)
    · exact .refl s

theorem State.keeps_driftWork (s : State) (l : LegId) (d : Nat) (v : Delivered) : s.Keeps (s.driftWork l d v) := by
  unfold State.driftWork
  split
  · next r drift hr _ =>
    have hlast := State.keeps_setRecord hr (r' := { r with lastDrift := drift }) rfl rfl
    exact .ite (.ite (hlast.trans (State.keeps_correctDrift _ _ _ _)) hlast) (.refl s)
  · exact .refl s

theorem State.keeps_keepReport (s : State) (l : LegId) (d : Nat) (v : Delivered) : s.Keeps (s.keepReport l d v) := by
  unfold State.keepReport
  split
  · next hr _ => exact State.keeps_setRecord hr rfl rfl
  · exact .refl s

theorem State.keeps_takeVerdict (s : State) (l : LegId) (d : Nat) (v : Delivered) : s.Keeps (s.takeVerdict l d v) := by
  unfold State.takeVerdict
  split
  · exact .refl s
  · refine .ite (.refl s) ?_
    split
    · exact .refl s
    · exact State.keeps_endRecord _ _ _ _ _
    · exact ((State.keeps_keepReport _ _ _ _).trans (State.keeps_driftWork _ _ _ _)).trans
        (State.keeps_countVerdict _ _ _ _)
    · exact State.keeps_countVerdict _ _ _ _

theorem State.keeps_takeEntry (s : State) (l : LegId) (d : Nat) (grant : Cycle) (verdict : BurstVerdict)
    (o : PowerOutcome) : s.Keeps (s.takeEntry l d grant verdict o) := by
  unfold State.takeEntry
  split
  · exact .refl s
  · next hr =>
    refine .ite ?_ (.refl s)
    split
    · exact State.keeps_levellingEntry hr grant o
    · exact State.keeps_serviceEntry hr o
    · exact .refl s

theorem State.keeps_fillVerdict (s : State) (l : LegId) (d : Nat) (grant : Cycle) (verdict : BurstVerdict) :
    s.Keeps (s.fillVerdict l d grant verdict) := by
  unfold State.fillVerdict
  split
  · exact .refl s
  · next hr =>
    split
    · exact .refl s
    · split
      · exact State.keeps_setRecord hr rfl rfl
      · exact (State.keeps_takeEntry _ _ _ _ _ _).after (State.keeps_setRecord hr rfl rfl)

theorem State.keeps_deliverOutcome (s : State) (l : LegId) (ident : Identity) (grant : Cycle) (o : PowerOutcome) :
    s.Keeps (s.deliverOutcome l ident grant o) := by
  unfold State.deliverOutcome
  split
  · exact .refl s
  · next hr =>
    refine .ite ?_ (.refl s)
    split
    · exact .refl s
    · split
      · exact State.keeps_setRecord hr rfl rfl
      · exact (State.keeps_takeEntry _ _ _ _ _ _).after (State.keeps_setRecord hr rfl rfl)

theorem State.keeps_deliverVerdict (s : State) (l : LegId) (x : Expectation) (look : BurstLook) (judged : Bool) :
    s.Keeps (s.deliverVerdict l x look judged) := by
  unfold State.deliverVerdict
  split
  · exact .refl s
  · exact .ite ((State.keeps_takeVerdict _ _ _ _).trans (State.keeps_fillVerdict _ _ _ _ _)) (.refl s)

end Sys2Proof.Machine
end

section
/-! SUPPORT. The boundary, the Bias Supply, the converter and the receivers keep the round trips of every leg (R18, R23,
R25, R28). -/

namespace Sys2Proof.Machine

/-! ## A leg at the boundary -/

theorem State.keeps_requestSample (s : State) (l : LegId) (d : Nat) (q : SampleRequest) :
    s.Keeps (s.requestSample l d q) := by
  unfold State.requestSample
  split
  · exact .refl s
  · next hr =>
    exact .ite ((State.keeps_setMeter _ _).after (State.keeps_setRecord hr rfl rfl)) (State.keeps_setRecord hr rfl rfl)

theorem State.keeps_expect (s : State) (l : LegId) (e : Expectation) : s.Keeps (s.mapLeg l fun x => x.expect e) :=
  State.keeps_mapLeg (.of_same rfl id rfl rfl id)

theorem keeps_grantEcho (l : LegId) (n : Cycle) (marker : Nat) (s : State) (g : EchoGrant) :
    s.Keeps (State.grantEcho l n marker s g) := by
  cases h : s.record l g.drop with
  | none => rw [State.grantEcho_none n marker h]; exact .refl s
  | some r =>
    obtain ⟨due, e, q, t, rfl, heq | heq⟩ := State.grantEcho_cases n marker h <;> rw [heq]
    · exact (State.keeps_expect _ l e).after (State.keeps_setRecord h rfl rfl)
    · exact (State.keeps_requestSample _ l _ q).after
        ((State.keeps_expect _ l e).after (State.keeps_setRecord h rfl rfl))

theorem keeps_grantService (l : LegId) (n : Cycle) (marker : Nat) (s : State) (g : ServiceGrant) :
    s.Keeps (State.grantService l n marker s g) := by
  cases h : s.record l g.drop with
  | none => rw [State.grantService_none n marker h]; exact .refl s
  | some r =>
    obtain ⟨e, q, t, rfl, heq | heq⟩ := State.grantService_cases n marker h <;> rw [heq]
    · exact State.keeps_expect s l e
    · have hrec : (s.mapLeg l fun x => x.expect e).record l g.drop = some r := by
        rw [State.record, State.mapLeg_leg_same]
        exact h
      exact (State.keeps_requestSample _ l _ q).after
        (.after (State.keeps_setRecord hrec rfl rfl) (State.keeps_expect s l e))

theorem State.keeps_holdAtBuild (s : State) (l : LegId) (n : Cycle) : s.Keeps (s.holdAtBuild l n) := by
  rw [State.holdAtBuild_eq, State.foldl_notify]
  exact (State.keeps_setIface _ _).after (State.keeps_setLeg (.of_same rfl id rfl rfl id))

/-- A started leg takes its calendar: the scan that it may begin is a started leg's. -/
theorem Leg.keeps_takeCalendar {x : Leg} (hs : x.state ≠ .stopped) (c : Calendar) (ds : List Directive) :
    x.Keeps (x.takeCalendar c ds) :=
  ⟨rfl, id, fun h => ⟨h.records, h.announces, fun h => absurd h hs⟩⟩

theorem State.keeps_beginCycle {s : State} {l : LegId} (hs : (s.leg l).state ≠ .stopped) (marker : Nat) :
    s.Keeps (s.beginCycle l marker) := by
  unfold State.beginCycle
  dsimp only
  have hdeparted := State.keeps_setLeg (s := s)
    (((s.leg l).keeps_startRecords (s.leg l).count).trans (Leg.keeps_depart (s.leg l).count _))
  have hheld := hdeparted.trans (State.keeps_holdAtBuild _ l (s.leg l).count)
  have hstarted := mt (hheld.leg l).state hs
  exact (State.keeps_foldl (keeps_grantService l _ marker) _ _).after
    ((State.keeps_foldl (keeps_grantEcho l _ marker) _ _).after
      ((State.keeps_mapLeg (Leg.keeps_takeCalendar hstarted _ _)).after hheld))

theorem Leg.starting_started (x : Leg) (bias : BiasState) : (x.starting bias).state ≠ .stopped := by
  cases bias <;> simp [Leg.starting]

theorem State.keeps_beginLeg (s : State) (l : LegId) (marker : Nat) : s.Keeps (s.beginLeg l marker) := by
  by_cases hs : (s.leg l).state = .stopped
  · rw [State.beginLeg_stopped hs, State.startCycles_eq]
    have hstarts : s.Keeps (s.setLeg l ((s.leg l).starting s.bias.state)) :=
      State.keeps_setLeg (.of_same rfl (fun h => absurd h (Leg.starting_started _ _)) rfl rfl id)
    have hstarted : ((s.setLeg l ((s.leg l).starting s.bias.state)).leg l).state ≠ .stopped := by
      rw [State.setLeg_leg_same]
      exact Leg.starting_started _ _
    exact .ite (State.keeps_mapLeg (.of_same rfl id rfl rfl id))
      (.ite ((State.keeps_notify _ _).after ((State.keeps_beginCycle hstarted marker).after hstarts))
        (State.keeps_mapLeg (.of_same rfl id rfl rfl id)))
  · rw [State.beginLeg_started hs]
    have hstarted : ((s.mapLeg l fun x => { x with count := x.count + 1#32 }).leg l).state ≠ .stopped := by
      rw [State.mapLeg_leg_same]
      exact hs
    exact (State.keeps_beginCycle hstarted marker).after (State.keeps_mapLeg (.of_same rfl id rfl rfl id))

theorem keeps_boundaryLeg (marker : Nat) (s : State) (l : LegId) : s.Keeps (State.boundaryLeg marker s l) :=
  .ite (State.keeps_mapLeg (.of_same rfl id rfl rfl id)) (s.keeps_beginLeg l marker)

/-! ## The Bias Supply -/

theorem State.keeps_blindLeg (s : State) (l : LegId) : s.Keeps (s.blindLeg l) :=
  .ite ((State.keeps_notify _ _).after (State.keeps_mapLeg (.of_same rfl nofun rfl rfl id))) (.refl s)

theorem State.keeps_wakeLeg (s : State) (l : LegId) : s.Keeps (s.wakeLeg l) :=
  .ite ((State.keeps_notify _ _).after (State.keeps_mapLeg (.of_same rfl nofun rfl rfl id))) (.refl s)

theorem State.keeps_abandon (s : State) : s.Keeps s.abandon := by
  unfold State.abandon
  dsimp only
  split
  · exact .refl s
  · exact (State.keeps_deliverOutcome _ _ _ _ _).after (State.keeps_setMeter _ _)
  · exact (State.keeps_mapScan _ _ _).after (State.keeps_setMeter _ _)
  · exact (State.keeps_setMeter _ _).after (State.keeps_setMeter _ _)

theorem State.keeps_leaveReady (s : State) : s.Keeps s.leaveReady := by
  have habort (s : State) (l : LegId) : s.Keeps (s.abortRun l) := (s.keeps_endTurn l).trans (State.keeps_endRun _ _ _ _)
  have hdrop (s : State) (l : LegId) : s.Keeps (s.mapLeg l (Leg.dropAnnounces s.bias.readySince)) := s.keeps_mapScan l _
  have habandoned := ((State.keeps_foldl State.keeps_blindLeg Quad.all s).trans
    (State.keeps_foldl habort Quad.all _)).trans (State.keeps_abandon _)
  exact habandoned.trans (State.keeps_foldl hdrop Quad.all _)

theorem State.keeps_enterReady (s : State) (instant : Nat) : s.Keeps (s.enterReady instant) := by
  unfold State.enterReady
  have hset (b : Bias) (m : Meter) (n : Notice) : s.Keeps (((s.setBias b).setMeter m).notify n) := .of_same rfl rfl
  exact (hset _ _ _).trans (State.keeps_foldl State.keeps_wakeLeg Quad.all _)

theorem State.keeps_enterSettling (s : State) : s.Keeps s.enterSettling := .of_same rfl rfl

theorem State.keeps_countBias (s : State) (instant : Nat) : s.Keeps (s.countBias instant) := by
  unfold State.countBias
  split
  · exact .refl s
  · exact .refl s
  · exact .ite (s.keeps_enterReady instant) (s.keeps_setBias _)
  · exact .ite (.ite s.keeps_enterSettling (s.keeps_setBias _)) (s.keeps_setBias _)

theorem State.keeps_enterSag (s : State) : s.Keeps s.enterSag := by
  unfold State.enterSag
  dsimp only
  have hsag (b : Bias) : s.Keeps (((s.setRail { state := .sag, latch := true, sagSeen := true }).setBias b).notify
      (.railSag b.state)) := .of_same rfl rfl
  have htrip (b : Bias) (n : Notice) := (hsag b).trans (State.keeps_notify _ n)
  exact .ite (.ite ((State.keeps_leaveReady _).after (htrip _ _)) (htrip _ _)) (hsag _)

theorem State.keeps_biasOn (s : State) : s.Keeps s.biasOn := by
  unfold State.biasOn
  split
  · exact .of_same rfl rfl
  · exact .refl s

theorem State.keeps_biasOff (s : State) : s.Keeps s.biasOff := by
  unfold State.biasOff
  split
  · exact .refl s
  · exact (State.keeps_leaveReady _).after (s.keeps_setBias _)
  · exact .of_same rfl rfl

/-! ## The boundary, and what is taken ahead of it -/

theorem State.keeps_lapseCandidates (s : State) : s.Keeps s.lapseCandidates := by
  rw [State.lapseCandidates_eq]
  exact ⟨fun l => .refl (s.leg l), List.filter_sublist.map _⟩

theorem State.keeps_arbitrateCalibration (s : State) (instant : Nat) : s.Keeps (s.arbitrateCalibration instant) := by
  unfold State.arbitrateCalibration
  split
  · exact .refl s
  · split
    · exact .refl s
    · exact .of_same rfl rfl

theorem State.keeps_boundary (s : State) : s.Keeps s.boundary := by
  have hlegs : s.Keeps s.legsTaken := State.keeps_foldl (keeps_boundaryLeg s.comingInstant) Quad.all s
  have hmeter : s.Keeps s.beforeBias :=
    (State.keeps_setMeter _ _).after
      ((State.keeps_arbitrateCalibration _ _).after (hlegs.trans (State.keeps_lapseCandidates _)))
  have hbias (t : State) (instant : Nat) : t.Keeps (t.boundaryBias instant) :=
    (State.keeps_setRail _ _).after (.ite (t.keeps_setBias _) (t.keeps_countBias instant))
  have hcounted (t : State) (n : Nat) : t.Keeps { t with boundaries := n } := .of_same rfl rfl
  rw [State.boundary_eq_boundaryBias]
  exact (hcounted _ _).after ((hbias _ _).after hmeter)

/-! ## The converter and the receivers -/

theorem State.keeps_closing (s : State) (l : LegId) (n : Cycle) :
    s.Keeps (s.mapLeg l fun x => x.mapReceiver fun rx => rx.close n) :=
  State.keeps_mapLeg (.of_same rfl id rfl rfl id)

theorem State.keeps_settled (s : State) (l : LegId) (rest : List Expectation) :
    s.Keeps (s.mapLeg l fun x => x.mapReceiver fun rx => Receiver.prune { rx with expectations := rest }) :=
  State.keeps_mapLeg (.of_same rfl id rfl rfl id)

theorem State.keeps_updateLatch (s : State) (l : LegId) (n : Cycle) (k : CycleClass) :
    s.Keeps (s.updateLatch l n k) := by
  have hset (latch : Bool) (count : Nat) :
      s.Keeps (s.mapLeg l fun x => x.mapReceiver fun rx => { rx with latch := latch, cleanCount := count }) :=
    State.keeps_mapLeg (.of_same rfl id rfl rfl id)
  unfold State.updateLatch
  dsimp only
  split
  · exact (State.keeps_notify _ _).after (hset true 0)
  · exact .refl s
  · exact hset true 0
  · exact .ite ((State.keeps_notify _ _).after (hset false 0)) (hset true _)
  · exact .refl s

theorem State.keeps_setRun (s : State) (l : LegId) (run : IsolationRun) :
    s.Keeps (s.mapLeg l fun x => { x with run := some run }) :=
  State.keeps_mapLeg (.of_same rfl id rfl rfl id)

theorem State.keeps_watchTurn (s : State) (l : LegId) (run : IsolationRun) (k : CycleClass) :
    s.Keeps (s.watchTurn l run k) := by
  cases k with
  | neutral => exact .refl s
  | stray => exact (s.keeps_endTurn l).trans (State.keeps_nextTurn _ l)
  | clean => exact .ite ((State.keeps_nameCulprit _ l).after (s.keeps_setRun l _)) (s.keeps_setRun l _)

theorem State.keeps_updateRun (s : State) (l : LegId) (n : Cycle) (k : CycleClass) :
    s.Keeps (s.updateRun l n k) := by
  unfold State.updateRun
  split
  · exact .refl s
  · split
    · exact .refl s
    · exact .refl s
    · exact .ite (s.keeps_setRun l _) (.ite (s.keeps_watchTurn l _ k) (.refl s))

/-- An announce that is placed in the queue is the only new one. -/
theorem mem_insertAnnounce {a b : Announce} {q : List Announce} (h : b ∈ insertAnnounce a q) : b = a ∨ b ∈ q := by
  induction q with
  | nil => exact .inl (by simpa [insertAnnounce] using h)
  | cons c q ih =>
    unfold insertAnnounce at h
    split at h
    · rcases List.mem_cons.mp h with hb | hq
      · exact .inr (hb ▸ List.mem_cons_self)
      · exact (ih hq).imp_right (List.mem_cons_of_mem c)
    · exact List.mem_cons.mp h

/-- What is judged of an announce in hand: its round trip lies within Z (R23). -/
theorem State.judge_le {s : State} {l : LegId} {w : WindowScan} {f : AnnounceInHand} {content : List Byte}
    {a : Announce} (h : s.judge l w f content = .judged a) : a.r ≤ (s.leg l).derived.z := by
  unfold State.judge at h
  split at h
  · cases h
  · next c _ =>
    dsimp only at h
    generalize hr : roundTrip f.a (s.leg l).derived.am c.holdoff (s.leg l).setup.trim f.p.val = r at h
    split at h
    · cases h
    · cases h
    · next hbeyond =>
      have hle : r ≤ (s.leg l).derived.z := by
        by_contra hgt
        have hlate : ¬ r < 0 ∧ ((s.leg l).derived.z : Int) < r := by omega
        exact hbeyond (by simp [reachClass, hlate])
      split at h
      · cases h
      · split at h
        · cases h
          exact Int.toNat_le.mpr hle
        · cases h

theorem State.keeps_screen {s : State} {l : LegId} {a : Announce} (ha : s.Reaches l a.r) : s.Keeps (s.screen l a) := by
  refine .ite (.ite (State.keeps_mapLeg ⟨rfl, id, fun h => ⟨h.records, fun b hb => ?_, fun hs => absurd hs ha.1⟩⟩)
    (.refl s)) (s.keeps_heard _ _ _)
  rcases mem_insertAnnounce hb with rfl | hb
  · exact ha.2
  · exact h.announces b hb

end Sys2Proof.Machine
end

section
/-! SUPPORT. Allocation, and the decisions on the announces of a window (R81 to R94): a round trip that comes to be held
lies within its leg's Z. -/

namespace Sys2Proof.Machine

/-! ## Allocation -/

/-- A record allocated for a round trip within Z has R + E = Z (R99). -/
theorem State.keeps_allocate {s : State} {l : LegId} {d : Nat} {a : Admission} (ha : s.Reaches l a.r) :
    s.Keeps (s.allocate l d a) := by
  obtain ⟨hstarted, hle⟩ := ha
  have hleg : (s.leg l).Keeps
      { (s.leg l).setRecord d (some (allocated (s.leg l) d a)) with allocCount := (s.leg l).allocCount + 1#32 } := by
    refine ⟨rfl, id, fun h => ⟨fun e r hr => ?_, h.announces, fun hs => absurd hs hstarted⟩⟩
    rcases Leg.setRecord_record_cases hr with hr | ⟨-, hr⟩
    · exact h.records e r hr
    · cases hr
      exact Nat.add_sub_cancel' hle
  have hlink (t : State) : t.Keeps (match t.rosterAt a.index with
      | some e => t.setRosterAt a.index (some { e with state := .active, link := some (l, d) })
      | none => t) := by
    split
    · exact t.keeps_setRosterAt _ _
    · exact .refl t
  have hrecord : s.Keeps (s.mapLeg l fun x =>
      { x.setRecord d (some (allocated (s.leg l) d a)) with allocCount := x.allocCount + 1#32 }) :=
    State.keeps_mapLeg hleg
  exact (State.keeps_direct _ _ _ _).after (hrecord.trans (hlink _))

theorem State.keeps_takeIn {s : State} {l : LegId} {r : Nat} (hr : s.Reaches l r) (i : Nat) (e : RosterEntry)
    (launch : LaunchStep) (power : Option Int) (vector : AttrSet) : s.Keeps (s.takeIn l i e r launch power vector) := by
  unfold State.takeIn
  split
  · exact .refl s
  · exact State.keeps_allocate hr

theorem State.keeps_supersedeLinked (s : State) (e : RosterEntry) : s.Keeps (s.supersedeLinked e) := by
  unfold State.supersedeLinked
  split
  · exact s.keeps_endRecord _ _ _ _
  · exact .refl s

/-- A candidate taken in has its round trip within its leg's Z (R92). -/
theorem State.keeps_carryAdmit {s : State} {c : Candidate} (hc : s.Reaches c.leg c.r) (i : Nat) (e : RosterEntry) :
    s.Keeps (s.carryAdmit c i e) := by
  have hended := (s.keeps_setRosterAt i (some (e.correct c.leg))).trans
    (State.keeps_supersedeLinked _ (e.correct c.leg))
  have htaken := hended.trans (State.keeps_takeIn (hended.reaches hc) i (e.correct c.leg) c.launch c.power c.vector)
  exact htaken.trans (State.keeps_filterCandidates _ _)

/-! ## The announces of a window -/

/-- What the decisions on a window's announces keep: the round trips, and one candidate at the most for a tag. -/
structure State.Listed (s : State) : Prop where
  equalized : s.Equalized
  tags : (s.candidates.map Candidate.tag).Nodup

/-- A decision on an announce, from `s` to `t`. -/
structure State.Decided (s t : State) : Prop where
  leg : ∀ l, (s.leg l).Keeps (t.leg l)
  listed : s.Listed → t.Listed

theorem State.Decided.reaches {s t : State} (h : s.Decided t) {l : LegId} {r : Nat} (hr : s.Reaches l r) :
    t.Reaches l r :=
  ⟨fun hs => hr.1 ((h.leg l).state hs), by rw [(h.leg l).derived]; exact hr.2⟩

theorem State.Decided.trans {s t u : State} (h : s.Decided t) (h' : t.Decided u) : s.Decided u :=
  ⟨fun l => (h.leg l).trans (h'.leg l), h'.listed ∘ h.listed⟩

theorem State.Keeps.tags {s t : State} (h : s.Keeps t) :
    (t.candidates.map Candidate.tag).Sublist (s.candidates.map Candidate.tag) := by
  have htags (cs : List Candidate) : cs.map Candidate.tag = (cs.map Candidate.heard).map Prod.fst := by
    rw [List.map_map]
    rfl
  rw [htags, htags]
  exact h.candidates.map Prod.fst

theorem State.Keeps.decided {s t : State} (h : s.Keeps t) : s.Decided t :=
  ⟨h.leg, fun hs => ⟨h.equalized hs.equalized, hs.tags.sublist h.tags⟩⟩

theorem State.candidate_eq_none {s : State} {tag : FactoryTag} :
    s.candidate tag = none ↔ tag ∉ s.candidates.map Candidate.tag := by
  simp only [State.candidate, List.find?_eq_none, List.mem_map, decide_eq_true_eq]
  exact ⟨fun h ⟨c, hc, hct⟩ => h c hc hct, fun h c hc hct => h ⟨c, hc, hct⟩⟩

/-- A step that keeps brings no candidate for a tag that has none. -/
theorem State.Keeps.candidate_none {s t : State} (h : s.Keeps t) {tag : FactoryTag} (hc : s.candidate tag = none) :
    t.candidate tag = none :=
  State.candidate_eq_none.mpr fun hmem => State.candidate_eq_none.mp hc (h.tags.subset hmem)

section Decision

variable {s : State} {l : LegId} {a : Announce}

/-- An announce whose tag has no candidate is held, or finds the list full (R86, R88). -/
theorem State.decided_holdCandidate (ha : s.Reaches l a.r) (hc : s.candidate a.tag = none) (reason : HeldReason)
    (i : Option Nat) : s.Decided (s.holdCandidate l a reason i) := by
  unfold State.holdCandidate
  split
  · refine ⟨fun k => .refl (s.leg k), fun h => ⟨?_, ?_⟩⟩
    · obtain ⟨hlegs, hcandidates⟩ := s.equalized_iff.mp h.equalized
      refine (State.equalized_iff _).mpr ⟨hlegs, fun c hmem => ?_⟩
      rcases List.mem_append.mp hmem with hmem | hmem
      · exact hcandidates c hmem
      · rw [List.mem_singleton.mp hmem]
        exact ha
    · show ((s.candidates ++ [newCandidate l a reason i]).map Candidate.tag).Nodup
      rw [List.map_append]
      exact h.tags.append (List.nodup_singleton _)
        (List.disjoint_singleton.mpr (State.candidate_eq_none.mp hc))
  · exact (State.Keeps.refl s).decided

theorem State.decided_decideExpected (ha : s.Reaches l a.r) (hc : s.candidate a.tag = none) (i : Nat)
    (e : RosterEntry) : s.Decided (s.decideExpected l a i e) := by
  unfold State.decideExpected
  split
  · split
    · exact State.decided_holdCandidate ha hc _ _
    · exact (State.keeps_takeIn ha i e _ _ _).decided
  · exact State.decided_holdCandidate ha hc _ _

theorem State.decided_restarted (ha : s.Reaches l a.r) (hc : s.candidate a.tag = none) (i : Nat) (e : RosterEntry)
    (d : Nat) : s.Decided (s.restarted l a i e d) := by
  unfold State.restarted
  split
  · exact (State.Keeps.refl s).decided
  · split
    · exact (State.Keeps.refl s).decided
    · have hended := s.keeps_endRecord l d .superseded false
      exact hended.decided.trans (State.decided_decideExpected (hended.reaches ha) (hended.candidate_none hc) i _)

/-- The candidate of a tag, heard again on its own leg: with one candidate for the tag, no candidate of another leg
takes the round trip (R82). -/
theorem State.decided_refresh {c : Candidate} (ha : s.Reaches l a.r) (hc : s.candidate a.tag = some c)
    (hcl : c.leg = l) :
    s.Decided (s.setCandidates (s.candidates.map fun c => if c.tag = a.tag then c.refresh a else c)) := by
  obtain ⟨hmem, htag⟩ := State.candidate_spec hc
  refine ⟨fun k => .refl (s.leg k), fun h => ⟨?_, ?_⟩⟩
  · obtain ⟨hlegs, hcandidates⟩ := s.equalized_iff.mp h.equalized
    refine (State.equalized_iff _).mpr ⟨hlegs, fun b hb => ?_⟩
    obtain ⟨b', hb', rfl⟩ := List.mem_map.mp hb
    split
    · next hbt =>
      have hone : b' = c := List.inj_on_of_nodup_map h.tags hb' hmem (hbt.trans htag.symm)
      show s.Reaches b'.leg a.r
      rw [hone, hcl]
      exact ha
    · exact hcandidates b' hb'
  · have htags : (s.candidates.map fun c => if c.tag = a.tag then c.refresh a else c).map Candidate.tag =
        s.candidates.map Candidate.tag := by
      rw [List.map_map]
      refine List.map_congr_left fun b _ => ?_
      rw [Function.comp, apply_ite Candidate.tag]
      exact ite_self _
    show (List.map Candidate.tag _).Nodup
    rw [State.setCandidates_candidates, htags]
    exact h.tags

theorem State.decided_admission (ha : s.Reaches l a.r) : s.Decided (s.admission l a) := by
  unfold State.admission
  have hheard := s.keeps_heard a.tag l a.cycle
  refine hheard.decided.trans ?_
  replace ha := hheard.reaches ha
  clear hheard
  generalize s.heard a.tag l a.cycle = t at ha ⊢
  dsimp only
  split
  · next c hc =>
    split
    · next hcl => exact State.decided_refresh ha hc hcl
    · exact (State.Keeps.refl t).decided
  · next hc =>
    split
    · next i e _ =>
      split
      · exact (t.keeps_park l a.tag).decided
      · split
        · exact State.decided_restarted ha hc i e _
        · exact State.decided_holdCandidate ha hc _ _
      · exact State.decided_decideExpected ha hc i e
    · split
      · exact State.decided_holdCandidate ha hc _ _
      · exact (State.Keeps.refl t).decided

end Decision

/-- Decisions one after another. -/
theorem State.decided_foldl {l : LegId} (as : List Announce) {s : State} (has : ∀ a ∈ as, s.Reaches l a.r) :
    s.Decided (as.foldl (fun s a => s.admission l a) s) := by
  induction as generalizing s with
  | nil => exact (State.Keeps.refl s).decided
  | cons a as ih =>
    have hfirst := State.decided_admission (has a List.mem_cons_self)
    exact hfirst.trans (ih fun b hb => hfirst.reaches (has b (List.mem_cons_of_mem a hb)))

end Sys2Proof.Machine
end

section
/-! SUPPORT. Requests, the line and the resets keep R + E = Z and every round trip within Z, and so does every step. -/

namespace Sys2Proof.Machine

/-! ## The teardown of a leg (R152) -/

/-- A change of a leg that leaves its drop table leaves every record. -/
theorem State.mapLeg_record {s : State} {l : LegId} {f : Leg → Leg} (h : (f (s.leg l)).drops = (s.leg l).drops)
    (k : LegId) (d : Nat) : (s.mapLeg l f).record k d = s.record k d := by
  rw [State.record, State.mapLeg_leg]
  split
  · next hk => rw [hk]; simp only [State.record, Leg.record, h]
  · rfl

theorem State.direct_record (s : State) (l : LegId) (new : Directive) (ident : Identity) (k : LegId) (d : Nat) :
    (s.direct l new ident).record k d = s.record k d :=
  State.mapLeg_record rfl k d

theorem State.endRun_record (s : State) (l : LegId) (outcome : RunOutcome) (culprit : Option (Nat × FactoryTag))
    (k : LegId) (d : Nat) : (s.endRun l outcome culprit).record k d = s.record k d := by
  unfold State.endRun
  split
  · rfl
  · exact State.mapLeg_record (f := fun x => { x with run := none }) rfl k d

/-- A record that is FREE stays so as an isolation run moves on. -/
theorem beginTurn_free {l : LegId} {run : IsolationRun} {ts : List Identity} {pos : Nat} {s : State} {k : LegId}
    {d : Nat} (h : s.record k d = none) : (beginTurn l run ts pos s).record k d = none := by
  induction ts generalizing pos with
  | nil => exact (s.endRun_record l _ _ k d).trans h
  | cons t ts ih =>
    unfold beginTurn
    split
    · exact ih
    · next r hr =>
      split
      · have hother : k ≠ l ∨ d ≠ t.drop := by
          by_contra hsame
          obtain ⟨rfl, rfl⟩ : k = l ∧ d = t.drop := by simpa [not_or] using hsame
          rw [h] at hr
          cases hr
        rw [State.direct_record, State.mapLeg_record rfl, State.setRecord_record_other s _ hother, h]
      · exact ih

theorem State.unlink_record (s : State) (i : Nat) (k : LegId) (d : Nat) : (s.unlink i).record k d = s.record k d := by
  rw [State.record, State.leg, (s.unlink_frame i).2.2.1]
  rfl

/-- The ending of a record frees it, and makes no other live. -/
theorem State.endRecord_free (s : State) (l : LegId) {d e : Nat} (reason : EndReason) (release : Bool)
    (h : e = d ∨ s.record l e = none) : (s.endRecord l d reason release).record l e = none := by
  unfold State.endRecord
  split
  · next hnone =>
    rcases h with rfl | h
    · exact hnone
    · exact h
  · next r hr =>
    dsimp only
    generalize hu : (if release = true then _ else _ : State) = u
    have hurecord (c : Nat) : u.record l c = s.record l c := by
      rw [← hu]
      split
      · rw [State.direct_record, State.unlink_record]
      · rw [State.mapLeg_record rfl, State.unlink_record]
    have hfreed : (u.setRecord l d none).record l e = none := by
      by_cases hed : e = d
      · subst hed
        exact State.setRecord_record_same u l none (Leg.record_lt (r := r) ((hurecord e).trans hr))
      · rw [State.setRecord_record_other u _ (.inr hed), hurecord]
        exact h.resolve_left hed
    split
    · unfold State.nextTurn
      split
      · exact hfreed
      · exact beginTurn_free hfreed
    · exact hfreed

theorem mem_liveFrom_of_getElem? {t : List (Option DropRecord)} {d : Nat} {r : DropRecord} (h : t[d]? = some (some r))
    (i : Nat) : (i + d, r) ∈ liveFrom i t := by
  induction t generalizing d i with
  | nil => simp at h
  | cons o rest ih =>
    cases d with
    | zero =>
      obtain rfl : o = some r := by simpa using h
      exact List.mem_cons_self
    | succ d =>
      have hrest := ih (d := d) (by simpa using h) (i + 1)
      rw [Nat.add_assoc, Nat.add_comm 1] at hrest
      cases o with
      | none => exact hrest
      | some a => exact List.mem_cons_of_mem _ hrest

/-- Every record ends at the teardown of its leg. -/
theorem State.endAll_free (s : State) (l : LegId) (d : Nat) : (s.endAll l).record l d = none := by
  have hfold : ∀ (ps : List (Nat × DropRecord)) (t : State), (d ∈ ps.map Prod.fst ∨ t.record l d = none) →
      (ps.foldl (fun s p => s.endRecord l p.1 .stopped false) t).record l d = none := by
    intro ps
    induction ps with
    | nil => exact fun t h => h.resolve_left List.not_mem_nil
    | cons p ps ih =>
      intro t h
      refine ih _ ?_
      rcases h with hmem | hnone
      · rcases List.mem_cons.mp hmem with hd | hd
        · exact .inr (t.endRecord_free l _ _ (.inl hd))
        · exact .inl hd
      · exact .inr (t.endRecord_free l _ _ (.inr hnone))
  refine hfold _ s ?_
  cases h : s.record l d with
  | none => exact .inr rfl
  | some r =>
    have hget : (s.leg l).drops[d]? = some (some r) := Option.join_eq_some_iff.mp h
    have hlive := mem_liveFrom_of_getElem? hget 0
    rw [Nat.zero_add] at hlive
    exact .inl (List.mem_map_of_mem hlive)

theorem State.keeps_endHold (s : State) (l : LegId) (cause : HoldCause) : s.Keeps (s.endHold l cause) := by
  unfold State.endHold
  split
  · exact .refl s
  · exact (State.keeps_notify _ _).after (State.keeps_mapLeg (.of_same rfl id rfl rfl id))

theorem State.keeps_endAll (s : State) (l : LegId) : s.Keeps (s.endAll l) :=
  State.keeps_foldl (fun s (p : Nat × DropRecord) => s.keeps_endRecord l p.1 .stopped false) (s.leg l).live s

/-- A leg with no record, no announce and no scan holds no round trip. -/
theorem Leg.equalized_of_empty {x : Leg} (hrecords : ∀ d, x.record d = none) (hannounces : x.receiver.announces = [])
    (hscan : x.receiver.scan = none) : x.Equalized :=
  ⟨fun d r hr => (nomatch (hrecords d).symm.trans hr), fun a ha => by simp [hannounces] at ha,
    fun _ => ⟨hrecords, hannounces, hscan⟩⟩

/-- A leg that is torn down holds nothing, and the candidates heard on it are gone; what the other legs hold stands. -/
theorem State.teardown_equalized {s : State} (h : s.Equalized) (l : LegId) : (s.teardown l).Equalized := by
  generalize hstop : (s.mapLeg l fun x => { x with state := .stopped, finalPending := true }) = s0
  generalize hended : ((s0.endRun l .aborted none).endHold l .stopped).endAll l = u
  have hkeeps : s0.Keeps u := by
    rw [← hended]
    exact (State.keeps_endAll _ l).after ((State.keeps_endHold _ l _).after (s0.keeps_endRun l _ _))
  have hfree (d : Nat) : u.record l d = none := by
    rw [← hended]
    exact State.endAll_free _ l d
  have hleg (k : LegId) : (s.teardown l).leg k =
      if k = l then
        { u.leg l with
          queue := [{ dir := .releaseAll, ident := none, follow := FollowOn.empty }],
          receiver := (u.leg l).receiver.cleared, calendar := none }
      else u.leg k := by
    simp only [State.teardown, hstop, hended, State.notify_leg, State.mapLeg_leg, State.setMeter_leg,
      State.setCandidates_leg]
    by_cases hk : k = l <;> simp [hk, Leg.mapReceiver]
  have hcandidates : (s.teardown l).candidates = u.candidates.filter fun c => decide (c.leg ≠ l) := by
    simp only [State.teardown, hstop, hended]
    rfl
  have hother {k : LegId} (hk : k ≠ l) : s0.leg k = s.leg k := by rw [← hstop, State.mapLeg_leg_other s _ hk]
  obtain ⟨hlegs, hheld⟩ := s.equalized_iff.mp h
  refine (State.equalized_iff _).mpr ⟨fun k => ?_, fun c hc => ?_⟩
  · rw [hleg]
    split
    · exact Leg.equalized_of_empty hfree rfl rfl
    · next hk => exact (hkeeps.leg k).equalized (hother hk ▸ hlegs k)
  · rw [hcandidates, List.mem_filter, decide_eq_true_eq] at hc
    obtain ⟨hmem, hcl⟩ := hc
    obtain ⟨c', hc', heq⟩ := List.mem_map.mp (hkeeps.candidates.subset (List.mem_map_of_mem hmem))
    simp only [Candidate.heard, Prod.mk.injEq] at heq
    obtain ⟨-, hcleg, hcr⟩ := heq
    rw [← hstop] at hc'
    have hreach := hheld c' hc'
    rw [hcleg, hcr] at hreach
    have hreach0 : s0.Reaches c.leg c.r := by
      unfold State.Reaches
      rw [hother hcl]
      exact hreach
    have hreachu := hkeeps.reaches hreach0
    unfold State.Reaches
    rw [hleg, if_neg hcl]
    exact hreachu

/-! ## Requests -/

/-- A request answered from a state that meets the invariant leaves one that meets it. -/
def AnswersEqualized (act : State → Answer) : Prop := ∀ s, s.Equalized → (act s).state.Equalized

theorem answersEqualized_refuse (code : ReplyCode) : AnswersEqualized (refuse code) := fun _ h => h

/-- A request answered DONE with a state that keeps the round trips. -/
theorem State.Equalized.done {s t : State} (hs : s.Equalized) (h : s.Keeps t) (values : List Byte) :
    (done t values).state.Equalized :=
  h.equalized hs

theorem answersEqualized_parsed {α : Type} {parse : List Byte → Option α} {act : α → State → Answer}
    (hact : ∀ f, AnswersEqualized (act f)) (payload : List Byte) : AnswersEqualized (parsed parse act payload) := by
  intro s h
  unfold parsed
  split
  · exact h
  · exact hact _ s h

theorem answersEqualized_withLeg {act : LegId → State → Answer} (hact : ∀ l, AnswersEqualized (act l)) (n : Nat) :
    AnswersEqualized (withLeg n act) := by
  intro s h
  unfold withLeg
  split
  · exact h
  · exact hact _ s h

theorem answersEqualized_withDrop {act : LegId → Nat → State → Answer} (hact : ∀ l d, AnswersEqualized (act l d))
    (f : DropFields) : AnswersEqualized (withDrop f act) :=
  answersEqualized_withLeg (fun l s h => by split; exacts [hact l _ s h, h]) f.leg

theorem answersEqualized_status (payload : List Byte) : AnswersEqualized (answerStatus payload) :=
  answersEqualized_parsed (fun _ s => (State.keeps_setRail s _).equalized) payload

theorem answersEqualized_reset (payload : List Byte) : AnswersEqualized (answerReset payload) :=
  answersEqualized_parsed (fun _ s => (State.keeps_setIface s _).equalized) payload

theorem answersEqualized_bias (payload : List Byte) : AnswersEqualized (answerBias payload) :=
  answersEqualized_parsed (fun _ s => (State.Keeps.ite s.keeps_biasOn s.keeps_biasOff).equalized) payload

/-- A setup is replaced on a leg that is STOPPED, and so holds no round trip (R150). -/
theorem answersEqualized_setupLeg (payload : List Byte) : AnswersEqualized (answerSetupLeg payload) := by
  refine answersEqualized_parsed (fun f => answersEqualized_withLeg (fun l s h => ?_) _) payload
  split
  · exact h
  next hquiet =>
  have hstopped : (s.leg l).state = .stopped := by
    simp only [Leg.quiet, Bool.not_eq_true', Bool.not_eq_false, Bool.and_eq_true, decide_eq_true_eq] at hquiet
    exact hquiet.1.1
  repeat' split
  any_goals exact h
  next k _ =>
  obtain ⟨hrecords, hannounces, hscan, hcandidates⟩ := h.stopped l hstopped
  obtain ⟨hlegs, hheld⟩ := s.equalized_iff.mp h
  have hleg (k' : LegId) : (s.mapLeg l fun x => { x with setup := f.setup k, derived := (f.setup k).derived }).leg k' =
      if k' = l then { s.leg l with setup := f.setup k, derived := (f.setup k).derived } else s.leg k' :=
    State.mapLeg_leg s l k' _
  refine (State.equalized_iff _).mpr ⟨fun k' => ?_, fun c hc => ?_⟩
  · rw [done, hleg]
    split
    · exact Leg.equalized_of_empty hrecords hannounces hscan
    · exact hlegs k'
  · unfold State.Reaches
    rw [done, hleg, if_neg (hcandidates c hc)]
    exact hheld c hc

theorem answersEqualized_startLeg (payload : List Byte) : AnswersEqualized (answerStartLeg payload) := by
  refine answersEqualized_parsed (fun f => answersEqualized_withLeg (fun l s h => ?_) _) payload
  split
  · exact h
  · exact h.done (State.keeps_mapLeg (.of_same rfl id rfl rfl id)) _

theorem answersEqualized_stopLeg (payload : List Byte) : AnswersEqualized (answerStopLeg payload) := by
  refine answersEqualized_parsed (fun f => answersEqualized_withLeg (fun l s h => ?_) _) payload
  split
  · exact State.teardown_equalized h l
  · exact h

theorem answersEqualized_legMuster (payload : List Byte) : AnswersEqualized (answerLegMuster payload) :=
  answersEqualized_parsed (fun _ => answersEqualized_withLeg
    (fun _ _ h => h.done (State.keeps_mapLeg (.of_same rfl id rfl rfl id)) _) _) payload

theorem answersEqualized_holdLeg (payload : List Byte) : AnswersEqualized (answerHoldLeg payload) := by
  refine answersEqualized_parsed (fun f => answersEqualized_withLeg (fun l s h => ?_) _) payload
  dsimp only
  split
  · exact h
  · split
    · exact h
    · exact h.done (State.keeps_mapLeg (.of_same rfl id rfl rfl id)) _

theorem answersEqualized_unholdLeg (payload : List Byte) : AnswersEqualized (answerUnholdLeg payload) := by
  refine answersEqualized_parsed (fun f => answersEqualized_withLeg (fun l s h => ?_) _) payload
  split
  · exact h.done (s.keeps_endHold l _) _
  · exact h

theorem answersEqualized_isolateLeg (payload : List Byte) : AnswersEqualized (answerIsolateLeg payload) := by
  refine answersEqualized_parsed (fun f => answersEqualized_withLeg (fun l s h => ?_) _) payload
  dsimp only
  split
  · exact h.done ((keeps_beginTurn l _ _ 0 _).after (s.keeps_setRun l _)) _
  · exact h

theorem State.keeps_relabel (s : State) (link : Option (LegId × Nat)) (plot share : Nat) :
    s.Keeps (s.relabel link plot share) := by
  unfold State.relabel
  split
  · exact .refl s
  · split
    · exact .refl s
    · next hr => exact State.keeps_setRecord hr rfl rfl

theorem answersEqualized_rosterPut (payload : List Byte) : AnswersEqualized (answerRosterPut payload) := by
  refine answersEqualized_parsed (fun f s h => ?_) payload
  split
  · split
    · unfold State.putNew
      split
      · exact h
      · exact h.done ((State.keeps_indexCandidate _ _ _).after (s.keeps_setRosterAt _ _)) _
    · unfold State.putOver
      split
      · split
        · exact h
        · exact h.done ((State.keeps_relabel _ _ _ _).after (s.keeps_setRosterAt _ _)) _
      · exact h.done (s.keeps_setRosterAt _ _) _
  · exact h

theorem answersEqualized_rosterRemove (payload : List Byte) : AnswersEqualized (answerRosterRemove payload) := by
  refine answersEqualized_parsed (fun f s h => ?_) payload
  split
  · exact h
  · split
    · exact h
    · exact h.done ((State.keeps_indexCandidate _ _ _).after (s.keeps_setRosterAt _ _)) _

theorem answersEqualized_verdict (payload : List Byte) : AnswersEqualized (answerVerdict payload) := by
  refine answersEqualized_parsed (fun f s h => ?_) payload
  split
  · exact h
  · next c hc =>
    split
    · exact h.done ((State.keeps_park _ _ _).after (s.keeps_filterCandidates _)) _
    · split
      · exact h
      · have hreach := (s.equalized_iff.mp h).2 c (State.candidate_spec hc).1
        exact h.done (State.keeps_carryAdmit hreach _ _) _

theorem answersEqualized_setActivation (payload : List Byte) : AnswersEqualized (answerSetActivation payload) := by
  refine answersEqualized_parsed (fun f s h => ?_) payload
  split
  · exact h
  · split
    · exact h.done (State.Keeps.of_same (t := s.setParams f.params) rfl rfl) _
    · exact h

theorem answersEqualized_dropSilence (payload : List Byte) : AnswersEqualized (answerDropSilence payload) := by
  refine answersEqualized_parsed (fun f => answersEqualized_withDrop (fun l d s h => ?_) f) payload
  split
  · exact h
  · next hr =>
    split
    · exact h
    · refine h.done ?_ _
      exact (State.keeps_direct _ _ _ _).after (State.keeps_setRecord hr rfl rfl)

theorem answersEqualized_dropResume (payload : List Byte) : AnswersEqualized (answerDropResume payload) := by
  refine answersEqualized_parsed (fun f => answersEqualized_withDrop (fun l d s h => ?_) f) payload
  split
  · exact h
  · next hr =>
    split
    · refine h.done ?_ _
      exact (State.keeps_direct _ _ _ _).after (State.keeps_setRecord hr rfl rfl)
    · exact h

theorem answersEqualized_dropRetire (payload : List Byte) : AnswersEqualized (answerDropRetire payload) := by
  refine answersEqualized_parsed (fun f => answersEqualized_withDrop (fun l d s h => ?_) f) payload
  split
  · exact h
  · exact h.done (s.keeps_endRecord l d _ _) _

theorem answersEqualized_calLoad (payload : List Byte) : AnswersEqualized (answerCalLoad payload) := by
  refine answersEqualized_parsed (fun f s h => ?_) payload
  split
  · exact h
  · split
    · exact h.done (s.keeps_setMeter _) _
    · exact h

/-- The reads change nothing. -/
theorem answersEqualized_candidateRead (payload : List Byte) : AnswersEqualized (answerCandidateRead payload) := by
  refine answersEqualized_parsed (fun k s h => ?_) payload
  dsimp only
  repeat' split
  all_goals exact h

theorem answersEqualized_rosterRead (payload : List Byte) : AnswersEqualized (answerRosterRead payload) := by
  refine answersEqualized_parsed (fun k s h => ?_) payload
  repeat' split
  all_goals exact h

theorem answersEqualized_calRead (payload : List Byte) : AnswersEqualized (answerCalRead payload) := by
  refine answersEqualized_parsed (fun n s h => ?_) payload
  split <;> exact h

theorem answersEqualized_answerFor (code : Byte) (payload : List Byte) : AnswersEqualized (answerFor code payload) := by
  unfold answerFor
  split
  · exact answersEqualized_status payload
  · exact answersEqualized_reset payload
  · exact answersEqualized_bias payload
  · exact answersEqualized_setupLeg payload
  · exact answersEqualized_startLeg payload
  · exact answersEqualized_stopLeg payload
  · exact answersEqualized_legMuster payload
  · exact answersEqualized_parsed (fun _ => answersEqualized_withLeg (fun _ _ h => h) _) payload
  · exact answersEqualized_holdLeg payload
  · exact answersEqualized_unholdLeg payload
  · exact answersEqualized_isolateLeg payload
  · exact answersEqualized_rosterPut payload
  · exact answersEqualized_rosterRemove payload
  · exact answersEqualized_rosterRead payload
  · exact answersEqualized_verdict payload
  · exact answersEqualized_candidateRead payload
  · exact answersEqualized_setActivation payload
  · exact answersEqualized_parsed (fun _ _ h => h) payload
  · exact answersEqualized_dropSilence payload
  · exact answersEqualized_dropResume payload
  · exact answersEqualized_dropRetire payload
  · exact answersEqualized_parsed (fun f => answersEqualized_withDrop (fun _ _ _ h => h) f) payload
  · exact answersEqualized_calLoad payload
  · exact answersEqualized_calRead payload
  · exact answersEqualized_refuse _

/-! ## The line and the resets -/

theorem State.takeRequest_equalized {tag code : Byte} {act : State → Answer} (hact : AnswersEqualized act) {s : State}
    (h : s.Equalized) : (takeRequest tag code act s).Equalized := by
  unfold takeRequest
  split
  · exact h
  · split
    · split
      · exact (s.keeps_setIface _).equalized h
      · exact h
    · exact (State.keeps_setIface _ _).equalized (hact _ ((s.keeps_setIface _).equalized h))

theorem State.hunt_equalized {s : State} (h : s.Equalized) : s.hunt.Equalized := (s.keeps_setIface _).equalized h

theorem State.deliverFrame_equalized {s : State} (h : s.Equalized) (bytes : List Byte) :
    (s.deliverFrame bytes).Equalized := by
  unfold State.deliverFrame
  split
  · split
    · exact State.takeRequest_equalized (answersEqualized_answerFor _ _) h
    · exact h
  · exact h

theorem State.arbitrate_equalized {s : State} (h : s.Equalized) : s.arbitrate.Equalized :=
  (s.keeps_setIface _).equalized h

theorem State.readBytes_equalized (bytes : List Byte) {s : State} (h : s.Equalized) :
    (s.readBytes bytes).1.Equalized := by
  induction bytes generalizing s with
  | nil => exact h
  | cons b rest ih =>
    unfold State.readBytes
    split
    · exact ih ((s.keeps_setIface _).equalized h)
    · exact State.hunt_equalized h
    · exact ih (State.arbitrate_equalized (State.deliverFrame_equalized (State.hunt_equalized h) _))

theorem State.rescan_equalized (n : Nat) (bytes : List Byte) {s : State} (h : s.Equalized) :
    (State.rescan n bytes s).Equalized := by
  induction n generalizing bytes s with
  | zero => exact h
  | succ n ih =>
    have hread := State.readBytes_equalized bytes h
    unfold State.rescan
    split
    · next heq => rw [heq] at hread; exact hread
    · next heq => rw [heq] at hread; exact ih _ hread

theorem State.receive_equalized (b : Byte) {s : State} (h : s.Equalized) : (s.receive b).Equalized := by
  have hread := State.readBytes_equalized [b] h
  unfold State.receive
  split
  · next heq => rw [heq] at hread; exact hread
  · next heq => rw [heq] at hread; exact State.rescan_equalized _ _ hread

theorem State.Equalized.of_same {s t : State} (h : s.Equalized) (hlegs : t.legs = s.legs)
    (hcandidates : t.candidates = s.candidates) : t.Equalized :=
  (State.Keeps.of_same hlegs hcandidates).equalized h

/-- A part whose legs are all as after a reset, but for their setups, and whose Candidate List is empty. -/
theorem State.equalized_of_fresh {s : State} (hlegs : ∀ l, ∃ x : Leg, s.leg l = x.afterRequest)
    (hcandidates : s.candidates = []) : s.Equalized := by
  refine s.equalized_iff.mpr ⟨fun l => ?_, fun c hc => by simp [hcandidates] at hc⟩
  obtain ⟨x, hx⟩ := hlegs l
  rw [hx]
  refine Leg.equalized_of_empty (fun d => ?_) rfl rfl
  by_cases hd : d < Config.dropsPerLeg <;> simp [Leg.record, Leg.afterRequest, Leg.reset, hd]

theorem State.fullReset_equalized (s : State) : s.fullReset.Equalized :=
  State.equalized_of_fresh (fun l => ⟨Leg.reset, by cases l <;> rfl⟩) rfl

theorem State.requestReset_equalized (s : State) : s.requestReset.Equalized :=
  State.equalized_of_fresh (fun l => ⟨s.leg l, Four.get_map _ _ _⟩) rfl

theorem State.holdInReset_equalized (s : State) (cause : ResetCause) (pin rail : Bool) :
    (s.holdInReset cause pin rail).Equalized :=
  s.fullReset_equalized.of_same rfl rfl

theorem State.leaveReset_equalized {blocks : State} (h : blocks.Equalized) (cause : ResetCause) (railMv : Nat) :
    (blocks.leaveReset cause railMv).Equalized :=
  h.of_same rfl rfl

theorem State.sent_equalized {s : State} (h : s.Equalized) (railMv : Nat) : (s.sent railMv).Equalized := by
  unfold State.sent
  split
  · exact h
  · split
    · split
      · exact State.leaveReset_equalized s.requestReset_equalized _ _
      · exact (s.keeps_setIface _).equalized h
    · exact (s.keeps_setIface _).equalized h

theorem execLeaveReset_equalized {s t : State} (h : s.Equalized) {pinReleased : Bool} {railMv : Nat}
    (ht : execLeaveReset pinReleased railMv s = .next t) : t.Equalized := by
  obtain rfl := Host.Outcome.next.inj ht
  split
  · exact h
  · dsimp only
    split
    · exact h.of_same rfl rfl
    · exact State.leaveReset_equalized s.fullReset_equalized _ _

/-! ## Every command -/

section Command

variable {s t : State}

/-- An event whose effect meets the invariant. -/
theorem event_equalized {act : State → State} (h : s.Equalized) (hact : (act s).Equalized)
    (ht : event act s = .next t) : t.Equalized := by
  obtain rfl := Host.Outcome.next.inj ht
  split
  · exact h
  · exact State.arbitrate_equalized hact

theorem event_keeps {act : State → State} (hact : s.Keeps (act s)) (h : s.Equalized) (ht : event act s = .next t) :
    t.Equalized :=
  event_equalized h (hact.equalized h) ht

/-- A request frame, whatever its code. -/
theorem request_equalized (tag code : Byte) {act : State → Answer} (hact : AnswersEqualized act) (h : s.Equalized)
    (ht : event (frameRequest tag code act) s = .next t) : t.Equalized := by
  have htaken : (frameRequest tag code act s).Equalized :=
    State.takeRequest_equalized (s := s.hunt) hact (State.hunt_equalized h)
  exact event_equalized h htaken ht

theorem execUnknownRequest_equalized (tag code : Byte) (payload : List Byte) (h : s.Equalized)
    (ht : execUnknownRequest tag code payload s = .next t) : t.Equalized := by
  refine event_equalized h ?_ ht
  split
  · exact h
  · exact State.takeRequest_equalized (answersEqualized_refuse _) (State.hunt_equalized h)

theorem execOffsetFieldExpiry_equalized (l : LegId) (d : Nat) (h : s.Equalized)
    (ht : execOffsetFieldExpiry l d s = .next t) : t.Equalized := by
  refine event_keeps ?_ h ht
  split
  · exact .refl s
  · next hr => exact State.keeps_setRecord hr rfl rfl

theorem execLaunchFieldExpiry_equalized (l : LegId) (d : Nat) (h : s.Equalized)
    (ht : execLaunchFieldExpiry l d s = .next t) : t.Equalized := by
  refine event_keeps ?_ h ht
  split
  · exact .refl s
  · next hr => exact State.keeps_setRecord hr rfl rfl

theorem execCandidateLapsed_equalized (tag : FactoryTag) (h : s.Equalized) (ht : execCandidateLapsed tag s = .next t) :
    t.Equalized := by
  refine event_keeps ?_ h ht
  split
  · exact .refl s
  · exact .ite ((State.keeps_notify _ _).after (s.keeps_filterCandidates _)) (.refl s)

theorem execHoldExpiry_equalized (l : LegId) (h : s.Equalized) (ht : execHoldExpiry l s = .next t) : t.Equalized :=
  event_keeps (.ite (.after (State.keeps_mapLeg (.of_same rfl id rfl rfl id)) (s.keeps_beginLeg l _)) (.refl s)) h ht

theorem execSettleComplete_equalized (h : s.Equalized) (ht : execSettleComplete s = .next t) : t.Equalized :=
  event_keeps (.ite ((State.keeps_setBias _ _).after (s.keeps_enterReady _)) (.refl s)) h ht

theorem execRecoveryComplete_equalized (h : s.Equalized) (ht : execRecoveryComplete s = .next t) : t.Equalized :=
  event_keeps (.ite ((State.keeps_setBias _ _).after s.keeps_enterSettling) (.refl s)) h ht

theorem execSampleIntegrationStart_equalized (l : LegId) (h : s.Equalized)
    (ht : execSampleIntegrationStart l s = .next t) : t.Equalized := by
  refine event_keeps ?_ h ht
  split
  · exact .refl s
  · dsimp only
    split
    · exact s.keeps_setMeter _
    · exact (State.keeps_deliverOutcome _ _ _ _ _).after (s.keeps_setMeter _)

theorem execSampleResult_equalized (code : BitVec 12) (h : s.Equalized) (ht : execSampleResult code s = .next t) :
    t.Equalized := by
  refine event_keeps ?_ h ht
  split
  · dsimp only
    split
    · exact (State.keeps_deliverOutcome _ _ _ _ _).after (s.keeps_setMeter _)
    · exact (State.keeps_mapScan _ _ _).after (s.keeps_setMeter _)
  · exact .refl s

theorem execCalibrationInstant_equalized (h : s.Equalized) (ht : execCalibrationInstant s = .next t) : t.Equalized := by
  refine event_keeps ?_ h ht
  split
  · exact .refl s
  · exact .ite (s.keeps_setMeter _) (s.keeps_setMeter _)

theorem execCalibrationResult_equalized (code : BitVec 12) (light : BitVec 32) (h : s.Equalized)
    (ht : execCalibrationResult code light s = .next t) : t.Equalized := by
  refine event_keeps ?_ h ht
  split
  · exact .ite (s.keeps_setMeter _) (s.keeps_setMeter _)
  · exact .refl s

theorem execGrantedBurstVerdict_equalized (l : LegId) (look : BurstLook) (h : s.Equalized)
    (ht : execGrantedBurstVerdict l look s = .next t) : t.Equalized := by
  refine event_keeps ?_ h ht
  split
  · exact .refl s
  · exact (State.keeps_deliverVerdict _ _ _ _ _).after (s.keeps_settled l _)

theorem execAnnounceDelimiterFound_equalized (l : LegId) (a : Nat) (p : Fin 20) (light : BitVec 48)
    (rivals : List LegId) (h : s.Equalized) (ht : execAnnounceDelimiterFound l a p light rivals s = .next t) :
    t.Equalized := by
  refine event_keeps ?_ h ht
  refine (s.keeps_recordLight l light).trans ?_
  generalize s.recordLight l light = u
  dsimp only
  split
  · exact .refl u
  · exact .ite ((State.keeps_mapScan _ _ _).after (u.keeps_setMeter _)) (.refl u)

theorem execGarbled_equalized (l : LegId) (what : Garble) (h : s.Equalized) (ht : execGarbled l what s = .next t) :
    t.Equalized := by
  refine event_keeps ?_ h ht
  split
  · exact .ite (s.keeps_mapScan l _) (.refl s)
  · exact s.keeps_mapScan l _
  · exact .refl s

/-- An announce is judged on a leg that scans, and so is started; what is queued lies within its Z (R23). -/
theorem execAnnounceJudgementComplete_equalized (l : LegId) (a : Nat) (content : List Byte) (h : s.Equalized)
    (ht : execAnnounceJudgementComplete l a content s = .next t) : t.Equalized := by
  refine event_equalized h ?_ ht
  split
  · exact h
  · next w hscan =>
    split
    · exact h
    · next f _ =>
      have hgone := s.keeps_mapScan l fun w => { w with found := w.found.filter fun f => decide (f.a ≠ a) }
      dsimp only
      split
      · exact (s.keeps_mapScan l _).equalized h
      · exact hgone.equalized h
      · next x hx =>
        have hstarted : (s.leg l).state ≠ .stopped := fun hs => by
          obtain ⟨-, -, hnone, -⟩ := h.stopped l hs
          rw [hnone] at hscan
          cases hscan
        exact (hgone.trans (State.keeps_screen (hgone.reaches ⟨hstarted, State.judge_le hx⟩))).equalized h

/-- The announces of a window are decided on a leg that scans, and with one candidate at the most for a tag. -/
theorem execWindowScanEnd_equalized (l : LegId) (h : s.Equalized) (htags : (s.candidates.map Candidate.tag).Nodup)
    (ht : execWindowScanEnd l s = .next t) : t.Equalized := by
  refine event_equalized h ?_ ht
  split
  · exact h
  · next w hscan =>
    split
    · have hstarted : (s.leg l).state ≠ .stopped := fun hs => by
        obtain ⟨-, -, hnone, -⟩ := h.stopped l hs
        rw [hnone] at hscan
        cases hscan
      have hended : s.Keeps (s.mapLeg l fun x =>
          x.mapReceiver fun rx => Receiver.prune { rx with scan := none, announces := [] }) :=
        State.keeps_mapLeg ⟨rfl, id, fun hx =>
          ⟨hx.records, fun a ha => (nomatch ha), fun hs => ⟨(hx.stopped hs).1, rfl, rfl⟩⟩⟩
      have hdecided := State.decided_foldl (s.leg l).receiver.announces fun a ha =>
        hended.reaches ⟨hstarted, h.announces l a ha⟩
      exact ((hended.decided.trans hdecided).listed ⟨h, htags⟩).equalized
    · exact h

theorem execCalendarClose_equalized (l : LegId) (lit : List (Nat × Nat)) (h : s.Equalized)
    (ht : execCalendarClose l lit s = .next t) : t.Equalized := by
  refine event_keeps ?_ h ht
  refine (s.keeps_recordLight l (historyAtClose lit)).trans ?_
  generalize s.recordLight l (historyAtClose lit) = u
  dsimp only
  split
  · exact .refl u
  · exact (State.keeps_updateRun _ _ _ _).after ((State.keeps_updateLatch _ _ _ _).after (u.keeps_closing l _))

/-- Every command keeps R + E = Z and every round trip within Z, from a state with one candidate at the most for a
tag. -/
theorem exec_equalized (c : Instr) (h : s.Equalized) (htags : (s.candidates.map Candidate.tag).Nodup)
    (ht : exec c s = .next t) : t.Equalized := by
  have answered (tag code : Byte) (payload : List Byte)
      (ht : event (frameRequest tag code (answerFor code payload)) s = .next t) : t.Equalized :=
    request_equalized tag code (answersEqualized_answerFor code payload) h ht
  have hunted : s.Keeps s.hunt := s.keeps_setIface _
  cases c with
  | status tag payload => exact answered tag 0x01#8 payload ht
  | reset tag payload => exact answered tag 0x02#8 payload ht
  | bias tag payload => exact answered tag 0x03#8 payload ht
  | setupLeg tag payload => exact answered tag 0x10#8 payload ht
  | startLeg tag payload => exact answered tag 0x11#8 payload ht
  | stopLeg tag payload => exact answered tag 0x12#8 payload ht
  | legMuster tag payload => exact answered tag 0x13#8 payload ht
  | legRead tag payload => exact answered tag 0x14#8 payload ht
  | holdLeg tag payload => exact answered tag 0x15#8 payload ht
  | unholdLeg tag payload => exact answered tag 0x16#8 payload ht
  | isolateLeg tag payload => exact answered tag 0x17#8 payload ht
  | rosterPut tag payload => exact answered tag 0x20#8 payload ht
  | rosterRemove tag payload => exact answered tag 0x21#8 payload ht
  | rosterRead tag payload => exact answered tag 0x22#8 payload ht
  | verdict tag payload => exact answered tag 0x23#8 payload ht
  | candidateRead tag payload => exact answered tag 0x24#8 payload ht
  | setActivation tag payload => exact answered tag 0x30#8 payload ht
  | activationRead tag payload => exact answered tag 0x31#8 payload ht
  | dropSilence tag payload => exact answered tag 0x32#8 payload ht
  | dropResume tag payload => exact answered tag 0x33#8 payload ht
  | dropRetire tag payload => exact answered tag 0x34#8 payload ht
  | dropRead tag payload => exact answered tag 0x35#8 payload ht
  | calLoad tag payload => exact answered tag 0x38#8 payload ht
  | calRead tag payload => exact answered tag 0x39#8 payload ht
  | unknownRequest tag code payload => exact execUnknownRequest_equalized tag code payload h ht
  | lineBusy tag code payload =>
    refine event_equalized h ?_ ht
    split
    · exact State.takeRequest_equalized (answersEqualized_refuse _) (State.hunt_equalized h)
    · exact h
  | requestDiscardedResetPending tag code payload => exact event_keeps (.ite hunted (.refl s)) h ht
  | frameDiscarded bytes =>
    refine event_equalized h ?_ ht
    split
    · exact State.rescan_equalized _ _ (State.hunt_equalized h)
    · exact h
  | replyOrNoticeFrameDropped control tag code payload => exact event_keeps (.ite hunted (.refl s)) h ht
  | frameTimeout => exact event_keeps hunted h ht
  | frameTransmitted railMv =>
    exact event_equalized (act := fun s => s.sent railMv) h (State.sent_equalized h railMv) ht
  | characterReceived byte =>
    exact event_equalized (act := fun s => s.receive byte) h (State.receive_equalized byte h) ht
  | resetPinAsserted => exact Host.Outcome.next.inj ht ▸ s.holdInReset_equalized _ _ _
  | powerApplied => exact Host.Outcome.next.inj ht ▸ s.holdInReset_equalized _ _ _
  | leaveReset pinReleased railMv => exact execLeaveReset_equalized h ht
  | railSag => exact event_keeps (.ite s.keeps_enterSag (.refl s)) h ht
  | railRecovery => exact event_keeps (.ite (s.keeps_setRail _) (.refl s)) h ht
  | brownout => exact Host.Outcome.next.inj ht ▸ s.holdInReset_equalized _ _ _
  | cycleBoundary => exact event_keeps s.keeps_boundary h ht
  | offsetFieldExpiry leg drop => exact execOffsetFieldExpiry_equalized leg drop h ht
  | launchFieldExpiry leg drop => exact execLaunchFieldExpiry_equalized leg drop h ht
  | darkOffsetExpiry leg range => exact event_keeps (.ite (s.keeps_setMeter _) (.refl s)) h ht
  | candidateLapsed tag => exact execCandidateLapsed_equalized tag h ht
  | holdExpiry leg => exact execHoldExpiry_equalized leg h ht
  | settleComplete => exact execSettleComplete_equalized h ht
  | recoveryComplete => exact execRecoveryComplete_equalized h ht
  | grantedBurstVerdict leg look => exact execGrantedBurstVerdict_equalized leg look h ht
  | announceDelimiterFound leg a p light rivals => exact execAnnounceDelimiterFound_equalized leg a p light rivals h ht
  | garbled leg what => exact execGarbled_equalized leg what h ht
  | announceJudgementComplete leg a content => exact execAnnounceJudgementComplete_equalized leg a content h ht
  | windowScanEnd leg => exact execWindowScanEnd_equalized leg h htags ht
  | calendarClose leg lit => exact execCalendarClose_equalized leg lit h ht
  | sampleIntegrationStart leg => exact execSampleIntegrationStart_equalized leg h ht
  | sampleResult code => exact execSampleResult_equalized code h ht
  | calibrationInstant => exact execCalibrationInstant_equalized h ht
  | calibrationResult code light => exact execCalibrationResult_equalized code light h ht

end Command

end Sys2Proof.Machine

open Sys2Proof Sys2Proof.Machine

/-- Settles O59: the command at the front of the queue keeps the invariant, which reads nothing of the queue. -/
theorem everyStepKeepsTheEqualization : Obligations.EveryStepKeepsTheEqualization := by
  unfold Obligations.EveryStepKeepsTheEqualization
  intro s t hlinked h ht
  unfold step at ht
  split at ht
  · exact Host.Outcome.next.inj ht ▸ h
  · next c rest _ =>
    exact exec_equalized c (s := { s with pending := rest }) (h.of_same rfl rfl) hlinked.candidates.2 ht
end

section
/-! SUPPORT. What the verdict of a granted burst does (R58 to R61, R100 to R113), on the one record, directive queue and
interface that it acts on. -/

namespace Sys2Proof.Machine

/-! ## One record, its leg's directive queue and the interface -/

/-- The state with the record of drop `d`, the directive queue of leg `l` and the interface as given. -/
def State.holding (s : State) (l : LegId) (d : Nat) (o : Option DropRecord) (queue : List QueueEntry) (i : Interface) :
    State :=
  { s with legs := s.legs.set l { s.leg l with drops := (s.leg l).drops.set d o, queue := queue }, iface := i }

section Holding

variable (s : State) (l : LegId) (d : Nat) (o : Option DropRecord) (queue : List QueueEntry) (i : Interface)

@[simp] theorem State.holding_leg :
    (s.holding l d o queue i).leg l = { s.leg l with drops := (s.leg l).drops.set d o, queue := queue } :=
  Four.get_set_same _ _ _

@[simp] theorem State.holding_params : (s.holding l d o queue i).params = s.params := rfl

@[simp] theorem State.holding_rosterAt (j : Nat) : (s.holding l d o queue i).rosterAt j = s.rosterAt j := rfl

variable {d} in
@[simp] theorem State.holding_record (hd : d < (s.leg l).drops.length) : (s.holding l d o queue i).record l d = o := by
  simp [State.record, Leg.record, hd]

/-- Every state holds its own record, queue and interface. -/
theorem State.holding_self {s : State} {l : LegId} {d : Nat} {r : DropRecord} (hr : s.record l d = some r) :
    s.holding l d (some r) (s.leg l).queue s.iface = s := by
  have hget : (s.leg l).drops[d]? = some (some r) := Option.join_eq_some_iff.mp hr
  obtain ⟨hlt, hval⟩ := List.getElem?_eq_some_iff.mp hget
  have hdrops : (s.leg l).drops.set d (some r) = (s.leg l).drops := by rw [← hval, List.set_getElem_self]
  have hlegs : s.legs.set l (s.leg l) = s.legs := Four.set_get s.legs l
  rw [State.holding, hdrops, hlegs]

@[simp] theorem State.holding_setRecord (o' : Option DropRecord) :
    (s.holding l d o queue i).setRecord l d o' = s.holding l d o' queue i := by
  simp only [State.setRecord, State.setLeg, State.holding_leg, Leg.setRecord, List.set_set]
  simp [State.holding]

@[simp] theorem State.holding_direct (new : Directive) (ident : Identity) :
    (s.holding l d o queue i).direct l new ident =
      s.holding l d o (enqueue ident.drop new (some ident) queue) i := by
  simp only [State.direct, State.mapLeg, State.setLeg, State.holding_leg, Leg.direct]
  simp [State.holding]

@[simp] theorem State.holding_notify (n : Notice) :
    (s.holding l d o queue i).notify n = s.holding l d o queue (i.place n) := rfl

@[simp] theorem State.holding_setRosterAt (j : Nat) (e : Option RosterEntry) :
    (s.holding l d o queue i).setRosterAt j e = (s.setRosterAt j e).holding l d o queue i := rfl

end Holding

/-! ## What a burst's content is worth (R59, R60) -/

theorem readEcho_eq_some_iff {drop : Nat} {sequence : Byte} {content : List Byte} {p : LaunchStep × Int} :
    readEcho drop sequence content = some p ↔
      ∃ step hi lo tail, content = echoContent drop sequence step hi lo ++ tail ∧
        p = (launchOf step, signed16 hi lo) := by
  constructor
  · intro h
    unfold readEcho at h
    split at h
    · next b q st hi lo c1 c0 tail =>
      split at h
      · next hgood =>
        obtain ⟨hcrc, rfl, rfl⟩ := hgood
        cases h
        exact ⟨st, hi, lo, tail, by simp [echoContent, hcrc], rfl⟩
      · cases h
    · cases h
  · rintro ⟨step, hi, lo, tail, rfl, rfl⟩
    simp [readEcho, echoContent, crcBytes]

theorem serviceGood_iff {share : Nat} {content : List Byte} :
    serviceGood share content = true ↔
      ∃ payload tail, payload.length = 2 * share ∧ content = payload ++ crcBytes payload ++ tail := by
  simp only [serviceGood, Bool.and_eq_true, decide_eq_true_eq]
  constructor
  · rintro ⟨hlength, hcrc⟩
    refine ⟨content.take (2 * share), (content.drop (2 * share)).drop 2, hlength, ?_⟩
    rw [hcrc, List.append_assoc, List.take_append_drop, List.take_append_drop]
  · rintro ⟨payload, tail, hlength, rfl⟩
    rw [← hlength, List.append_assoc, List.take_left, List.drop_left]
    exact ⟨rfl, rfl⟩

/-- The model reads a burst's content as the rules do. -/
theorem Expectation.content_eq_some_iff (x : Expectation) (content : List Byte) (report : Option (LaunchStep × Int)) :
    x.content content = some report ↔ GoodBurst x content report := by
  unfold Expectation.content GoodBurst
  cases x.kind with
  | echo =>
    simp only [Option.map_eq_some_iff, readEcho_eq_some_iff, true_and, reduceCtorEq, false_and, or_false]
    constructor
    · rintro ⟨p, ⟨step, hi, lo, tail, hcontent, rfl⟩, rfl⟩
      exact ⟨step, hi, lo, tail, hcontent, rfl⟩
    · rintro ⟨step, hi, lo, tail, hcontent, rfl⟩
      exact ⟨_, ⟨step, hi, lo, tail, hcontent, rfl⟩, rfl⟩
  | service =>
    have hservice : x.length - Config.serviceOverhead = x.length - 40 := rfl
    simp only [reduceCtorEq, false_and, false_or, true_and, ← serviceGood_iff, hservice, Option.ite_none_right_eq_some,
      Option.some.injEq]
    exact ⟨fun ⟨hgood, hreport⟩ => ⟨hreport.symm, hgood⟩, fun ⟨hreport, hgood⟩ => ⟨hgood, hreport.symm⟩⟩

/-! ## The verdict that settles an expectation (R61) -/

theorem settle_unjudged (r : DropRecord) (x : Expectation) (look : BurstLook) :
    (settle r x look false).verdict = .unjudged := rfl

theorem settle_bad {x : Expectation} {look : BurstLook} {v : BurstVerdict} (h : BadBurst x look v) (r : DropRecord) :
    (settle r x look true).verdict = v := by
  rcases h with ⟨rfl, rfl⟩ | ⟨k, p, content, rfl, hbad, rfl⟩
  · rfl
  · have hcontent : x.content content = none :=
      Option.eq_none_iff_forall_ne_some.mpr fun report h => hbad report ((x.content_eq_some_iff _ _).mp h)
    simp [settle, hcontent]

/-- A bad burst is MISSING or CORRUPT. -/
theorem badBurst_verdict {x : Expectation} {look : BurstLook} {v : BurstVerdict} (h : BadBurst x look v) :
    v = .missing ∨ v = .corrupt := by
  rcases h with ⟨-, rfl⟩ | ⟨_, _, _, -, -, rfl⟩
  · exact .inl rfl
  · exact .inr rfl

/-- A good burst as it is delivered. -/
def goodBurst (r : DropRecord) (x : Expectation) (k : Fin 6) (p : Fin 20) (report : Option (LaunchStep × Int)) :
    Delivered :=
  { cycle := x.cycle, kind := x.kind, verdict := .good, full := r.inFull x.cycle, drift := some (driftOf k p),
    report := report }

theorem settle_good {x : Expectation} {content : List Byte} {report : Option (LaunchStep × Int)}
    (h : GoodBurst x content report) (r : DropRecord) (k : Fin 6) (p : Fin 20) :
    settle r x (.delimiter k p content) true =
      if r.inFull x.cycle = true ∧ driftClass (driftOf k p) = .fault then
        { goodBurst r x k p none with verdict := .driftFault }
      else goodBurst r x k p report := by
  simp [settle, (x.content_eq_some_iff _ _).mpr h, goodBurst]

theorem DropRecord.inFull_iff {r : DropRecord} {n : Cycle} (hfrozen : r.frozen = false) :
    r.inFull n = true ↔ JudgedInFull r n := by
  unfold DropRecord.inFull JudgedInFull
  cases r.offsetField <;> simp [hfrozen, cyclesSince]

theorem DropRecord.frozen_eq_false {r : DropRecord} (hi : r.isolated = false) (hs : r.state ≠ .silenced) :
    r.frozen = false := by
  simp [DropRecord.frozen, hi, hs]

theorem DropRecord.frozen_eq_true {r : DropRecord} (h : r.isolated = true ∨ r.state = .silenced) : r.frozen = true := by
  simpa [DropRecord.frozen] using h

theorem driftClass_eq_fault_iff {d : Int} : driftClass d = .fault ↔ 40 < d.natAbs := by
  unfold driftClass
  split
  · simp; omega
  · split <;> simp <;> omega

theorem driftClass_eq_correctable_iff {d : Int} : driftClass d = .correctable ↔ 2 < d.natAbs ∧ d.natAbs ≤ 40 := by
  unfold driftClass
  split
  · simp; omega
  · split <;> simp <;> omega

/-! ## The power outcome that a record has in hand -/

/-- The power outcome of a grant cycle that has come to a record before the verdict. -/
def DropRecord.outcomeOf (r : DropRecord) (n : Cycle) : Option PowerOutcome :=
  (r.measures.find? fun m => decide (m.cycle = n)).bind Measure.outcome

section Verdict

variable {s : State} {l : LegId} {d : Nat} {r : DropRecord} {queue : List QueueEntry} {i : Interface}

/-- An entry that is used for nothing: its verdict is not GOOD, or its record is isolated, or neither in LEVELLING nor
in service (R101). -/
def DropRecord.Unused (r : DropRecord) (v : BurstVerdict) : Prop :=
  v ≠ .good ∨ r.isolated = true ∨ r.state ≠ .levelling ∧ r.state ≠ .inService

theorem takeEntry_unused (hd : d < (s.leg l).drops.length) {v : BurstVerdict} (h : r.Unused v) (n : Cycle)
    (o : PowerOutcome) :
    (s.holding l d (some r) queue i).takeEntry l d n v o = s.holding l d (some r) queue i := by
  simp only [State.takeEntry, State.holding_record s l _ _ _ hd]
  split
  · next hgood =>
    obtain ⟨hv, hi⟩ := hgood
    obtain ⟨hl, hs⟩ := (h.resolve_left (not_not.mpr hv)).resolve_left hi
    cases hst : r.state with
    | levelling => exact absurd hst hl
    | inService => exact absurd hst hs
    | enrolling | soak | silenced => rfl
  · rfl

/-- A verdict fills its slot, and an entry that it completes is taken out (R101). -/
theorem fillVerdict_holding (hd : d < (s.leg l).drops.length) (n : Cycle) (v : BurstVerdict) :
    (s.holding l d (some r) queue i).fillVerdict l d n v =
      match r.outcomeOf n with
      | none => s.holding l d (some (filled r n v)) queue i
      | some o => (s.holding l d (some (filled r n v)) queue i).takeEntry l d n v o := by
  simp only [State.fillVerdict, State.holding_record s l _ _ _ hd, DropRecord.measure, DropRecord.outcomeOf, filled]
  cases hm : r.measures.find? fun m => decide (m.cycle = n) with
  | none =>
    have hnone : ∀ m ∈ r.measures, m.cycle ≠ n := by simpa using List.find?_eq_none.mp hm
    have hsame : (r.measures.map fun m => if m.cycle = n then { m with verdict := some v } else m) = r.measures := by
      conv_rhs => rw [← List.map_id r.measures]
      exact List.map_congr_left fun m hmem => if_neg (hnone m hmem)
    simp [hsame]
  | some m =>
    cases ho : m.outcome with
    | none => simp [ho, DropRecord.mapMeasure]
    | some o => simp [ho, DropRecord.dropMeasure]

theorem fillVerdict_unused (hd : d < (s.leg l).drops.length) {n : Cycle} {v : BurstVerdict}
    (h : r.outcomeOf n = none ∨ (filled r n v).Unused v) :
    (s.holding l d (some r) queue i).fillVerdict l d n v = s.holding l d (some (filled r n v)) queue i := by
  rw [fillVerdict_holding hd]
  cases ho : r.outcomeOf n with
  | none => rfl
  | some o => exact takeEntry_unused hd (h.resolve_left (by simp [ho])) n o

end Verdict

/-! ## GRANTED_BURST_VERDICT (R61) -/

/-- The state with the oldest expectation of a leg settled, `rest` being those left. -/
def State.settling (s : State) (l : LegId) (rest : List Expectation) : State := s.setLeg l (settledLeg (s.leg l) rest)

theorem State.settling_record (s : State) (l : LegId) (rest : List Expectation) (d : Nat) :
    (s.settling l rest).record l d = s.record l d := by
  rw [State.settling, State.record, State.setLeg_leg_same]
  rfl

/-- What a verdict leaves, as the statements write it. -/
theorem State.settling_holding (s : State) (l : LegId) (rest : List Expectation) (d : Nat) (o : Option DropRecord)
    (queue : List QueueEntry) (i : Interface) :
    ((s.settling l rest).holding l d o queue i).arbitrate =
      { s with
        legs := s.legs.set l
          { settledLeg (s.leg l) rest with drops := (s.leg l).drops.set d o, queue := queue },
        iface := i.arbitrate } := by
  simp [State.holding, State.settling, State.setLeg, State.leg, State.arbitrate, State.setIface, settledLeg]

theorem readyThrough_eq_true {s : State} {instant : Nat} (hb : s.bias.state = .ready)
    (hsince : s.bias.readySince ≤ instant) : s.readyThrough instant = true := by
  simp [State.readyThrough, hb, hsince]

theorem readyThrough_eq_false {s : State} {instant : Nat}
    (h : s.bias.state ≠ .ready ∨ instant < s.bias.readySince) : s.readyThrough instant = false := by
  rcases h with h | h
  · simp [State.readyThrough, h]
  · simp [State.readyThrough, Nat.not_le.mpr h]

section Settling

variable {s : State} {l : LegId} {x : Expectation} {rest : List Expectation} (look : BurstLook)

theorem exec_grantedBurstVerdict (hreset : s.inReset = none) (hx : (s.leg l).receiver.expectations = x :: rest) :
    exec (.grantedBurstVerdict l look) s =
      .next ((s.settling l rest).deliverVerdict l x look (s.readyThrough (x.arrives + 29))).arbitrate := by
  have halive := event_alive (fun s => match (s.leg l).receiver.expectations with
    | [] => s
    | x :: rest =>
      (s.mapLeg l fun l => l.mapReceiver fun rx => Receiver.prune { rx with expectations := rest }).deliverVerdict
        l x look (s.readyThrough (x.arrives + 29))) hreset
  rw [hx] at halive
  exact halive

/-- A verdict of an allocation that has ended is discarded (R97). -/
theorem deliverVerdict_ended {s : State} (h : s.record l x.ident.drop = none ∨
      ∃ r, s.record l x.ident.drop = some r ∧ r.ident ≠ x.ident) (judged : Bool) :
    s.deliverVerdict l x look judged = s := by
  rcases h with h | ⟨r, hr, hi⟩
  · simp [State.deliverVerdict, h]
  · simp [State.deliverVerdict, hr, hi]

/-- A verdict to the record of its identity is taken, and then fills its slot (R100, R101). -/
theorem deliverVerdict_live {s : State} {r : DropRecord} (hr : s.record l x.ident.drop = some r)
    (hi : r.ident = x.ident) (judged : Bool) :
    s.deliverVerdict l x look judged =
      (s.takeVerdict l x.ident.drop (settle r x look judged)).fillVerdict l x.ident.drop x.cycle
        (settle r x look judged).verdict := by
  simp [State.deliverVerdict, hr, hi]

/-- A verdict to a live record, on the record, queue and interface that it acts on. -/
theorem exec_verdict_live {r : DropRecord} (hreset : s.inReset = none)
    (hx : (s.leg l).receiver.expectations = x :: rest) (hr : s.record l x.ident.drop = some r) (hi : r.ident = x.ident)
    {judged : Bool} (hjudged : s.readyThrough (x.arrives + 29) = judged) :
    exec (.grantedBurstVerdict l look) s =
      .next ((((s.settling l rest).holding l x.ident.drop (some r) (s.leg l).queue s.iface).takeVerdict l x.ident.drop
        (settle r x look judged)).fillVerdict l x.ident.drop x.cycle (settle r x look judged).verdict).arbitrate := by
  have hsettling : (s.settling l rest).record l x.ident.drop = some r := by rw [State.settling_record, hr]
  have hqueue : ((s.settling l rest).leg l).queue = (s.leg l).queue := by
    rw [State.settling, State.setLeg_leg_same]
    rfl
  have hself := State.holding_self hsettling
  rw [hqueue, show (s.settling l rest).iface = s.iface from rfl] at hself
  rw [exec_grantedBurstVerdict look hreset hx, deliverVerdict_live look hsettling hi, hjudged, hself]

end Settling

theorem State.settling_lt {s : State} {l : LegId} {d : Nat} {r : DropRecord} (hr : s.record l d = some r)
    (rest : List Expectation) : d < ((s.settling l rest).leg l).drops.length :=
  Leg.record_lt (r := r) ((s.settling_record l rest d).trans hr)

/-- A verdict that is UNJUDGED, or to a record that is SILENCED or isolation-silenced, moves nothing (R33, R100). -/
theorem takeVerdict_idle {s : State} {l : LegId} {d : Nat} {r : DropRecord} (hr : s.record l d = some r) {v : Delivered}
    (h : v.verdict = .unjudged ∨ r.frozen = true) : s.takeVerdict l d v = s := by
  simp only [State.takeVerdict, hr]
  rcases h with h | h
  · simp [h]
  · simp [h]

/-- To a record that is SILENCED or isolation-silenced a good burst is GOOD, whatever its drift (R33). -/
theorem settle_good_frozen {x : Expectation} {content : List Byte} {report : Option (LaunchStep × Int)}
    (h : GoodBurst x content report) {r : DropRecord} (hr : r.frozen = true) (k : Fin 6) (p : Fin 20) :
    (settle r x (.delimiter k p content) true).verdict = .good := by
  rw [settle_good h, if_neg (by simp [DropRecord.inFull, hr])]
  rfl

/-- A record that is SILENCED or isolation-silenced uses no entry (R101). -/
theorem DropRecord.unused_of_frozen {r : DropRecord} (h : r.frozen = true) (n : Cycle) (v : BurstVerdict) :
    (filled r n v).Unused v := by
  simp only [DropRecord.frozen, Bool.or_eq_true, decide_eq_true_eq] at h
  refine .inr (h.imp_right fun hs => ?_)
  rw [show (filled r n v).state = r.state from rfl, hs]
  exact ⟨nofun, nofun⟩

end Sys2Proof.Machine

open Sys2Proof Sys2Proof.Machine

/-- Settles O43: the verdict is delivered to no record, or moves nothing of its record but the measurement entry. -/
theorem aVerdictOutOfPlaceMovesNothing : Obligations.AVerdictOutOfPlaceMovesNothing := by
  unfold Obligations.AVerdictOutOfPlaceMovesNothing
  intro l look s x rest hreset hx
  refine ⟨fun hended => ?_, fun r v hr hi hv => ?_⟩
  · have hsettling : (s.settling l rest).record l x.ident.drop = s.record l x.ident.drop :=
      s.settling_record l rest x.ident.drop
    rw [← hsettling] at hended
    rw [exec_grantedBurstVerdict look hreset hx, deliverVerdict_ended look hended]
    rfl
  · have hd := State.settling_lt hr rest
    have hjudged : ∃ judged, s.readyThrough (x.arrives + 29) = judged ∧ (settle r x look judged).verdict = v ∧
        (v = .unjudged ∨ r.frozen = true) := by
      rcases hv with ⟨hbias, rfl⟩ | ⟨hb, hsince, hfrozen, hlook⟩
      · exact ⟨false, readyThrough_eq_false hbias, settle_unjudged r x look, .inl rfl⟩
      · have hfrozen := DropRecord.frozen_eq_true hfrozen
        refine ⟨true, readyThrough_eq_true hb hsince, ?_, .inr hfrozen⟩
        rcases hlook with hbad | ⟨⟨k, p, content, report, rfl, hgood⟩, rfl⟩
        · exact settle_bad hbad r
        · exact settle_good_frozen hgood hfrozen k p
    obtain ⟨judged, hthrough, hverdict, hidle⟩ := hjudged
    have hunused : (filled r x.cycle v).Unused v := by
      rcases hidle with rfl | hfrozen
      · exact .inl nofun
      · exact DropRecord.unused_of_frozen hfrozen _ v
    rw [exec_verdict_live look hreset hx hr hi hthrough, takeVerdict_idle (State.holding_record _ _ _ _ _ hd)
      (hverdict.symm ▸ hidle), hverdict, fillVerdict_unused hd (.inr hunused), State.settling_holding]
    rfl
end

section
/-! SUPPORT. How a record counts a verdict and takes a power outcome (R26 to R28, R100 to R113), each function of the
model on the one record, queue and interface that it acts on. -/

namespace Sys2Proof.Machine

section Holding

variable {s : State} {l : LegId} {d : Nat} {r : DropRecord} {queue : List QueueEntry} {i : Interface}

/-! ## The ending of a record (R98) -/

/-- The state in which the record of a drop has ended, its queue and interface as given: its roster entry `e` is
EXPECTED without a link. -/
def State.ended (s : State) (l : LegId) (d j : Nat) (e : RosterEntry) (queue : List QueueEntry) (i : Interface) :
    State :=
  (s.setRosterAt j (some { e with state := .expected, link := none })).holding l d none queue i

theorem endRecord_holding (hd : d < (s.leg l).drops.length) (hi : r.isolated = false) (hdrop : r.ident.drop = d)
    {e : RosterEntry} (he : s.rosterAt r.rosterIndex = some e) (reason : EndReason) :
    (s.holding l d (some r) queue i).endRecord l d reason true =
      s.ended l d r.rosterIndex e (enqueue d (.release d) (some r.ident) queue)
        (i.place (.dropEnded l d r.tag r.plot r.rosterIndex reason r.state r.attempts r.misses (s.leg l).count)) := by
  simp only [State.endRecord, State.holding_record s l _ _ _ hd, State.unlink, State.holding_rosterAt, he,
    State.holding_setRosterAt, State.holding_direct, State.holding_setRecord, State.holding_notify, hi, hdrop,
    State.holding_leg, if_true, Bool.false_eq_true, if_false]
  rfl

theorem fillVerdict_ended (hd : d < (s.leg l).drops.length) (j : Nat) (e : RosterEntry) (n : Cycle)
    (v : BurstVerdict) : (s.ended l d j e queue i).fillVerdict l d n v = s.ended l d j e queue i := by
  have hended : (s.ended l d j e queue i).record l d = none := State.holding_record (s.setRosterAt j _) l _ _ _ hd
  rw [State.fillVerdict, hended]

/-! ## Bad bursts (R104, R106, R109, R111) -/

/-- A verdict of a record that is neither SILENCED nor isolation-silenced, MISSING or CORRUPT, is counted. -/
theorem takeVerdict_bad (hd : d < (s.leg l).drops.length) (hf : r.frozen = false) {v : Delivered}
    (hv : v.verdict = .missing ∨ v.verdict = .corrupt) :
    (s.holding l d (some r) queue i).takeVerdict l d v = (s.holding l d (some r) queue i).countVerdict l d v := by
  simp only [State.takeVerdict, State.holding_record s l _ _ _ hd, hf]
  rcases hv with hv | hv <;> simp [hv]

theorem bad_ne_good {v : BurstVerdict} (h : v = .missing ∨ v = .corrupt) : v ≠ .good := by
  rcases h with rfl | rfl <;> nofun

/-- A bad service burst of a record in service (R111). -/
theorem countVerdict_serviceMiss (hd : d < (s.leg l).drops.length) {v : Delivered} (hv : v.verdict ≠ .good)
    (hs : r.state = .inService) (hk : v.kind = .service) :
    (s.holding l d (some r) queue i).countVerdict l d v =
      if 64 ≤ r.silentRun + 1 then
        (s.holding l d (some { r with silentRun := r.silentRun + 1 }) queue i).endRecord l d .lapsed true
      else s.holding l d (some { r with silentRun := r.silentRun + 1 }) queue i := by
  simp [State.countVerdict, hd, hs, hk, hv, State.serviceMiss, Config.lapseRun]

/-- A bad echo of a record in LEVELLING or SOAK (R106, R109). -/
theorem countVerdict_soakMiss (hd : d < (s.leg l).drops.length) {v : Delivered} (hv : v.verdict ≠ .good)
    (hs : r.state = .levelling ∨ r.state = .soak) (hk : v.kind = .echo) :
    (s.holding l d (some r) queue i).countVerdict l d v =
      (let missed : DropRecord :=
        { r with streak := if r.state = .soak then 0 else r.streak, misses := r.misses + 1 }
      if s.params.missLim ≤ r.misses + 1 then
        (s.holding l d (some missed) queue i).endRecord l d .soakFailed true
      else s.holding l d (some missed) queue i) := by
  rcases hs with hs | hs <;> simp [State.countVerdict, hd, hs, hk, hv, State.soakMiss]

/-- A bad echo in ENROLLING counts: no Enrol of the drop is queued, and the grant is later than the Enrol's transmission
(R104). -/
def MissCounts (queue : List QueueEntry) (d : Nat) (r : DropRecord) (n : Cycle) : Prop :=
  (∀ q ∈ queue, ∀ tag e launch, q.dir ≠ .enrol tag d e launch) ∧
    ∃ sent, r.enrolTx = some sent ∧ 0 < (n - sent).toInt

theorem Directive.enrols_iff (dir : Directive) (d : Nat) :
    (dir.isEnrol && decide (dir.drop? = some d)) = true ↔ ∃ tag e launch, dir = .enrol tag d e launch := by
  cases dir <;> simp [Directive.isEnrol, Directive.drop?]

theorem Leg.enrolQueued_eq_false {x : Leg} :
    x.enrolQueued d = false ↔ ∀ q ∈ x.queue, ∀ tag e launch, q.dir ≠ .enrol tag d e launch := by
  unfold Leg.enrolQueued
  rw [List.any_eq_false]
  refine forall₂_congr fun q _ => ?_
  rw [Directive.enrols_iff]
  push Not
  rfl

theorem enrolMiss_counts {n : Cycle} (h : MissCounts (s.leg l).queue d r n) :
    s.enrolMiss l d n r =
      if 3 ≤ r.echoes + 1 then s.enrolAgain l d r else s.setRecord l d (some { r with echoes := r.echoes + 1 }) := by
  obtain ⟨hqueued, sent, hsent, hlater⟩ := h
  have hlater : 0 < cyclesSince n sent := hlater
  simp [State.enrolMiss, Leg.enrolQueued_eq_false.mpr hqueued, hsent, hlater]

theorem enrolMiss_idle {n : Cycle} (h : ¬ MissCounts (s.leg l).queue d r n) : s.enrolMiss l d n r = s := by
  cases hq : (s.leg l).enrolQueued d with
  | true => simp [State.enrolMiss, hq]
  | false =>
    cases hsent : r.enrolTx with
    | none => simp [State.enrolMiss, hsent]
    | some sent =>
      have hlater : ¬ 0 < cyclesSince n sent := fun hlater =>
        h ⟨Leg.enrolQueued_eq_false.mp hq, sent, hsent, hlater⟩
      simp [State.enrolMiss, hsent, hlater]

/-- A bad echo of a record in ENROLLING (R104, R105). -/
theorem countVerdict_enrolMiss (hd : d < (s.leg l).drops.length) {v : Delivered} (hv : v.verdict ≠ .good)
    (hs : r.state = .enrolling) (hk : v.kind = .echo) :
    (¬ MissCounts queue d r v.cycle →
      (s.holding l d (some r) queue i).countVerdict l d v = s.holding l d (some r) queue i) ∧
    (MissCounts queue d r v.cycle →
      (s.holding l d (some r) queue i).countVerdict l d v =
        if 3 ≤ r.echoes + 1 then (s.holding l d (some r) queue i).enrolAgain l d r
        else s.holding l d (some { r with echoes := r.echoes + 1 }) queue i) := by
  have hcount : (s.holding l d (some r) queue i).countVerdict l d v =
      (s.holding l d (some r) queue i).enrolMiss l d v.cycle r := by
    simp [State.countVerdict, hd, hs, hk, hv]
  have hqueue : ((s.holding l d (some r) queue i).leg l).queue = queue := by rw [State.holding_leg]
  rw [hcount]
  constructor
  · intro h
    exact enrolMiss_idle (hqueue.symm ▸ h)
  · intro h
    rw [enrolMiss_counts (hqueue.symm ▸ h), State.holding_setRecord]

theorem enrolAgain_holding :
    (s.holding l d (some r) queue i).enrolAgain l d r =
      if r.attempts < 3 then
        s.holding l d (some { r with attempts := r.attempts + 1, echoes := 0, echoDue := none })
          (enqueue r.ident.drop (.enrol r.tag d r.e r.launch) (some r.ident) queue) i
      else (s.holding l d (some { r with echoes := 3 }) queue i).endRecord l d .noAnswer true := by
  simp only [State.enrolAgain, State.holding_setRecord, State.holding_direct]

/-- A burst of the other kind counts nothing, good or bad. -/
theorem countVerdict_otherKind (hd : d < (s.leg l).drops.length) {v : Delivered}
    (h : r.state = .inService ∧ v.kind = .echo ∨ r.state ≠ .inService ∧ v.kind = .service) :
    (s.holding l d (some r) queue i).countVerdict l d v = s.holding l d (some r) queue i := by
  simp only [State.countVerdict, State.holding_record s l _ _ _ hd]
  rcases h with ⟨hst, hk⟩ | ⟨hst, hk⟩
  · rw [hst, hk]
  · rw [hk]
    cases hrs : r.state with
    | inService => exact absurd hrs hst
    | enrolling | levelling | soak | silenced => rfl

/-! ## Good bursts (R27, R28, R100, R106, R110) -/

theorem keepReport_holding (hd : d < (s.leg l).drops.length) (v : Delivered) :
    (s.holding l d (some r) queue i).keepReport l d v =
      s.holding l d (some { r with reported := v.report.or r.reported }) queue i := by
  simp only [State.keepReport, State.holding_record s l _ _ _ hd]
  cases v.report <;> simp

theorem correctsTo_iff {z e e' : Nat} {drift : Int} : CorrectsTo z e drift e' ↔ e' = correctedE z e drift := by
  unfold CorrectsTo correctedE clampInt
  omega

/-- The drift work of a good burst, as the rules give it. -/
theorem driftWork_holding (hd : d < (s.leg l).drops.length) {v : Delivered} {drift : Int} {n : Cycle}
    (hdrop : r.ident.drop = d) (hdrift : v.drift = some drift) (hfull : v.full = true ↔ JudgedInFull r n)
    {r' : DropRecord} {queue' : List QueueEntry} (h : Drifted (s.leg l).derived.z queue n drift r r' queue') :
    (s.holding l d (some r) queue i).driftWork l d v = s.holding l d (some r') queue' i := by
  simp only [State.driftWork, State.holding_record s l _ _ _ hd, hdrift]
  rcases h with ⟨hpart, rfl, rfl⟩ | ⟨hjudged, hsmall, rfl, rfl⟩ | ⟨hjudged, hlow, hhigh, e, he, hcorrected⟩
  · rw [if_neg (mt hfull.mp hpart)]
  · have hclass : driftClass drift ≠ .correctable := fun h => by
      have := (driftClass_eq_correctable_iff.mp h).1
      omega
    rw [if_pos (hfull.mpr hjudged), if_neg hclass, State.holding_setRecord]
  · rw [if_pos (hfull.mpr hjudged), if_pos (driftClass_eq_correctable_iff.mpr ⟨hlow, hhigh⟩), State.holding_setRecord]
    rw [correctsTo_iff] at he
    simp only [State.correctDrift, State.holding_record s l _ _ _ hd, State.holding_leg, ← he, State.holding_setRecord,
      State.holding_direct]
    rcases hcorrected with ⟨hsame, rfl, rfl⟩ | ⟨hmoved, rfl, rfl⟩
    · rw [if_pos hsame]
    · rw [if_neg hmoved, hdrop]

/-- The interface once a good burst has been counted: DROP-LIVE is placed as the streak reaches S (R110). -/
def liveNotices (s : State) (l : LegId) (d : Nat) (kind : BurstKind) (r : DropRecord) (i : Interface) : Interface :=
  if goesLive s.params.streak kind r then
    i.place (.dropLive l d r.tag r.plot r.rosterIndex r.r r.lastPower r.launch r.flags (s.leg l).count)
  else i

theorem countVerdict_good (hd : d < (s.leg l).drops.length) {v : Delivered} (hv : v.verdict = .good) :
    (s.holding l d (some r) queue i).countVerdict l d v =
      s.holding l d (some (afterGood s.params.streak v.kind r)) queue (liveNotices s l d v.kind r i) := by
  simp only [State.countVerdict, State.holding_record s l _ _ _ hd, hv, decide_true]
  unfold afterGood liveNotices goesLive
  cases hk : v.kind with
  | service => cases hs : r.state <;> simp
  | echo =>
    cases hs : r.state with
    | enrolling => simp [DropRecord.toLevelling]
    | soak =>
      by_cases hlive : s.params.streak ≤ r.streak + 1 <;> simp [State.soakGood, DropRecord.toService, hlive, hs]
    | levelling | inService | silenced => simp

theorem drifted_not_fault {z : Nat} {n : Cycle} {drift : Int} {r' : DropRecord} {queue' : List QueueEntry}
    (h : Drifted z queue n drift r r' queue') (hfull : JudgedInFull r n) : driftClass drift ≠ .fault := by
  rw [Ne, driftClass_eq_fault_iff]
  rcases h with ⟨hpart, -⟩ | ⟨-, hsmall, -⟩ | ⟨-, -, hhigh, -⟩
  · exact absurd hfull hpart
  · omega
  · omega

/-- A good burst to a record that is neither SILENCED nor isolation-silenced: the report, the drift work and the
count. -/
theorem takeVerdict_good (hd : d < (s.leg l).drops.length) (hf : r.frozen = false) (hdrop : r.ident.drop = d)
    {x : Expectation} {k : Fin 6} {p : Fin 20} {report : Option (LaunchStep × Int)} {r' : DropRecord}
    {queue' : List QueueEntry}
    (h : Drifted (s.leg l).derived.z queue x.cycle (driftOf k p) { r with reported := report.or r.reported } r'
      queue') :
    (s.holding l d (some r) queue i).takeVerdict l d (goodBurst r x k p report) =
      s.holding l d (some (afterGood s.params.streak x.kind r')) queue' (liveNotices s l d x.kind r' i) := by
  have hfull : (goodBurst r x k p report).full = true ↔
      JudgedInFull { r with reported := report.or r.reported } x.cycle := DropRecord.inFull_iff hf
  have htaken : (s.holding l d (some r) queue i).takeVerdict l d (goodBurst r x k p report) =
      (((s.holding l d (some r) queue i).keepReport l d (goodBurst r x k p report)).driftWork l d
        (goodBurst r x k p report)).countVerdict l d (goodBurst r x k p report) := by
    simp [State.takeVerdict, hd, hf, goodBurst]
  have hkept : (s.holding l d (some r) queue i).keepReport l d (goodBurst r x k p report) =
      s.holding l d (some { r with reported := report.or r.reported }) queue i := keepReport_holding hd _
  rw [htaken, hkept, driftWork_holding (r := { r with reported := report.or r.reported }) hd hdrop rfl hfull h,
    countVerdict_good hd rfl]
  rfl

/-! ## The power outcome (R101 to R103, R107, R108, R112) -/

theorem takeEntry_levelling (hd : d < (s.leg l).drops.length) (hi : r.isolated = false) (hs : r.state = .levelling)
    (n : Cycle) (o : PowerOutcome) :
    (s.holding l d (some r) queue i).takeEntry l d n .good o =
      (s.holding l d (some r) queue i).levellingEntry l d r n o := by
  simp [State.takeEntry, hd, hi, hs]

theorem takeEntry_inService (hd : d < (s.leg l).drops.length) (hi : r.isolated = false) (hs : r.state = .inService)
    (n : Cycle) (o : PowerOutcome) :
    (s.holding l d (some r) queue i).takeEntry l d n .good o =
      (s.holding l d (some r) queue i).serviceEntry l d r o := by
  simp [State.takeEntry, hd, hi, hs]

theorem DropRecord.oneUnmeasured_few (h : r.unmeasured + 1 < 8) :
    r.oneUnmeasured = { r with unmeasured := r.unmeasured + 1 } :=
  if_neg (Nat.not_le.mpr h)

theorem DropRecord.oneUnmeasured_last (h : 8 ≤ r.unmeasured + 1) :
    r.oneUnmeasured =
      { r with unmeasured := r.unmeasured + 1, state := .soak, streak := 0,
               flags := { r.flags with unknown := true } } :=
  if_pos h

theorem DropRecord.stale_iff {n : Cycle} : r.stale n = true ↔ IsStale r n := by
  unfold DropRecord.stale IsStale
  cases r.launchField <;> simp [cyclesSince]

/-- A result outside one end of its range moves the hint, unless it stands at that end (R102). -/
theorem DropRecord.hintAfter_ne_iff {a : LevelAttrs} (ha : a.overRange = false ∨ a.underRange = false) :
    r.hintAfter a ≠ r.hint ↔ reRanges r a := by
  unfold DropRecord.hintAfter reRanges
  cases ho : a.overRange with
  | true => cases hh : r.hint <;> simp [ha.resolve_left (by simp [ho]), Quad.up]
  | false => cases hu : a.underRange <;> cases hh : r.hint <;> simp [Quad.down]

theorem levellingEntry_stale {n : Cycle} (h : IsStale r n) (v : Int) (a : LevelAttrs) :
    (s.holding l d (some r) queue i).levellingEntry l d r n (.result v a) =
      s.holding l d (some { r with hint := r.hintAfter a }) queue i := by
  simp [State.levellingEntry, DropRecord.stale_iff.mpr h]

theorem levellingEntry_reRanged {n : Cycle} (h : ¬ IsStale r n) (v : Int) {a : LevelAttrs}
    (hr : r.hintAfter a ≠ r.hint) :
    (s.holding l d (some r) queue i).levellingEntry l d r n (.result v a) =
      s.holding l d (some ({ r with hint := r.hintAfter a } : DropRecord).oneUnmeasured) queue i := by
  simp [State.levellingEntry, mt DropRecord.stale_iff.mp h, hr]

theorem levellingEntry_level {n : Cycle} (h : ¬ IsStale r n) (v : Int) {a : LevelAttrs} (hr : r.hintAfter a = r.hint) :
    (s.holding l d (some r) queue i).levellingEntry l d r n (.result v a) =
      (s.holding l d (some r) queue i).level l d { r with lastPower := some v } a := by
  simp [State.levellingEntry, mt DropRecord.stale_iff.mp h, hr]

/-- The record that levelling leaves in SOAK, with its flags. -/
def DropRecord.levelled (r : DropRecord) (flags : LevelFlags) : DropRecord :=
  { r with state := .soak, streak := 0, flags := flags }

/-- The record that levelling leaves at another launch step. -/
def DropRecord.relaunched (r : DropRecord) (launch : LaunchStep) : DropRecord :=
  { r with launch := launch, adjustments := r.adjustments + 1, launchField := .pending }

section Level

variable {r' : DropRecord} {a : LevelAttrs}

theorem level_inWindow (hs : a.strong = false) (hw : a.weak = false) :
    (s.holding l d (some r) queue i).level l d r' a = s.holding l d (some (r'.levelled r'.flags)) queue i := by
  simp [State.level, hs, hw, DropRecord.toSoak, DropRecord.levelled]

theorem level_strong (hs : a.strong = true) :
    (s.holding l d (some r) queue i).level l d r' a =
      if r'.launch = .q3 ∨ 3 ≤ r'.adjustments then
        s.holding l d (some (r'.levelled { r'.flags with fault := true })) queue i
      else
        s.holding l d (some (r'.relaunched r'.launch.up))
          (enqueue r'.ident.drop (.launch d r'.launch.up) (some r'.ident) queue) i := by
  by_cases hl : r'.launch = .q3 <;> by_cases ha : 3 ≤ r'.adjustments <;>
    simp [State.level, State.moveLaunch, DropRecord.toSoak, DropRecord.levelled, DropRecord.relaunched, hs, hl, ha]

theorem level_weak (hs : a.strong = false) (hw : a.weak = true) :
    (s.holding l d (some r) queue i).level l d r' a =
      if r'.launch = .q0 ∨ 3 ≤ r'.adjustments then
        s.holding l d (some (r'.levelled { r'.flags with fault := true })) queue i
      else
        s.holding l d (some (r'.relaunched r'.launch.down))
          (enqueue r'.ident.drop (.launch d r'.launch.down) (some r'.ident) queue) i := by
  by_cases hl : r'.launch = .q0 <;> by_cases ha : 3 ≤ r'.adjustments <;>
    simp [State.level, State.moveLaunch, DropRecord.toSoak, DropRecord.levelled, DropRecord.relaunched, hs, hw, hl, ha]

end Level

theorem serviceEntry_reRanged (v : Int) {a : LevelAttrs} (hr : r.hintAfter a ≠ r.hint) :
    (s.holding l d (some r) queue i).serviceEntry l d r (.result v a) =
      s.holding l d (some { r with hint := r.hintAfter a }) queue i := by
  simp [State.serviceEntry, hr]

theorem serviceEntry_result (v : Int) {a : LevelAttrs} (hr : r.hintAfter a = r.hint) :
    (s.holding l d (some r) queue i).serviceEntry l d r (.result v a) =
      s.holding l d (some { r with lastPower := some v, flags := { r.flags with drift := a.weak || a.strong } }) queue
        i := by
  simp [State.serviceEntry, hr]

end Holding

/-! ## What a good burst leaves of its record -/

/-- A record that a power outcome finds as `r` was before the verdict: in its identity, its launch step and field, its
range hint and its flags, and outside isolation. -/
structure DropRecord.LevelsAs (r r' : DropRecord) : Prop where
  ident : r'.ident = r.ident
  launch : r'.launch = r.launch
  launchField : r'.launchField = r.launchField
  hint : r'.hint = r.hint
  flags : r'.flags = r.flags
  isolated : r'.isolated = r.isolated

/-- A good burst, counted, moves the state of a record and its counters alone. -/
theorem afterGood_frame (streakLim : Nat) (kind : BurstKind) (r : DropRecord) :
    r.LevelsAs (afterGood streakLim kind r) ∧ (afterGood streakLim kind r).measures = r.measures := by
  unfold afterGood
  split
  · exact ⟨⟨rfl, rfl, rfl, rfl, rfl, rfl⟩, rfl⟩
  · split <;> exact ⟨⟨rfl, rfl, rfl, rfl, rfl, rfl⟩, rfl⟩
  · exact ⟨⟨rfl, rfl, rfl, rfl, rfl, rfl⟩, rfl⟩
  · exact ⟨⟨rfl, rfl, rfl, rfl, rfl, rfl⟩, rfl⟩

/-- The drift work moves the drift, R, E and the offset field, and nothing else of a record. -/
theorem drifted_frame {z : Nat} {queue queue' : List QueueEntry} {n : Cycle} {drift : Int} {r r' : DropRecord}
    (h : Drifted z queue n drift r r' queue') :
    r' = { r with lastDrift := r'.lastDrift, e := r'.e, r := r'.r, offsetField := r'.offsetField } := by
  rcases h with ⟨-, rfl, -⟩ | ⟨-, -, rfl, -⟩ | ⟨-, -, -, e, -, ⟨-, rfl, -⟩ | ⟨-, rfl, -⟩⟩ <;> rfl

section LevelsAs

variable {z streakLim : Nat} {queue queue' : List QueueEntry} {n : Cycle} {drift : Int} {r r' : DropRecord}
  {report : Option (LaunchStep × Int)} {kind : BurstKind} {a : LevelAttrs}

theorem drifted_levelsAs (h : Drifted z queue n drift { r with reported := report } r' queue') :
    r.LevelsAs (filled (afterGood streakLim kind r') n .good) := by
  obtain ⟨⟨hident, hlaunch, hfield, hhint, hflags, hisolated⟩, -⟩ := afterGood_frame streakLim kind r'
  have hframe := drifted_frame h
  have hsame : r.LevelsAs r' := by
    rw [hframe]
    exact ⟨rfl, rfl, rfl, rfl, rfl, rfl⟩
  exact ⟨hident.trans hsame.ident, hlaunch.trans hsame.launch, hfield.trans hsame.launchField,
    hhint.trans hsame.hint, hflags.trans hsame.flags, hisolated.trans hsame.isolated⟩

theorem drifted_outcomeOf (h : Drifted z queue n drift { r with reported := report } r' queue') :
    (afterGood streakLim kind r').outcomeOf n = r.outcomeOf n := by
  rw [DropRecord.outcomeOf, (afterGood_frame streakLim kind r').2, drifted_frame h]
  rfl

theorem DropRecord.LevelsAs.isStale_iff (h : r.LevelsAs r') : IsStale r' n ↔ IsStale r n := by
  rw [IsStale, h.launchField, ← IsStale]

theorem DropRecord.LevelsAs.hintAfter (h : r.LevelsAs r') :
    r'.hintAfter a = hintWith r a.overRange a.underRange := by
  rw [DropRecord.hintAfter, h.hint]
  rfl

theorem DropRecord.LevelsAs.hintAfter_ne_iff (h : r.LevelsAs r') (ha : a.overRange = false ∨ a.underRange = false) :
    r'.hintAfter a ≠ r'.hint ↔ reRanges r a := by
  rw [DropRecord.hintAfter_ne_iff ha, reRanges, h.hint, ← reRanges]

end LevelsAs

end Sys2Proof.Machine
end

section
/-! SUPPORT. The verdict of a burst whose record is judged with the bias READY throughout: what the command leaves
in each state, with each power outcome that came before (R58 to R61, R100 to R113). -/

namespace Sys2Proof.Machine

/-! ## A burst judged with the bias READY throughout -/

/-- The oldest expectation of leg `l` is for a burst of record `r`, which counts its verdicts, and the bias is READY
throughout the look (R57, R61, R100). -/
structure Expected (s : State) (l : LegId) (x : Expectation) (rest : List Expectation) (r : DropRecord) : Prop where
  alive : s.inReset = none
  oldest : (s.leg l).receiver.expectations = x :: rest
  record : s.record l x.ident.drop = some r
  ident : r.ident = x.ident
  counting : r.isolated = false
  speaking : r.state ≠ .silenced
  ready : s.readyThrough (x.arrives + 29) = true

/-- The state with the expectation settled, and with the record, queue and interface as a verdict leaves them. -/
abbrev State.settledTo (s : State) (l : LegId) (x : Expectation) (rest : List Expectation) (r : DropRecord)
    (queue : List QueueEntry) (i : Interface) : State :=
  (s.settling l rest).holding l x.ident.drop (some r) queue i

/-- What a verdict of leg `l` leaves: its record, queue and interface. -/
def Leaves (s : State) (l : LegId) (look : BurstLook) (x : Expectation) (rest : List Expectation) (r : DropRecord)
    (queue : List QueueEntry) (i : Interface) : Prop :=
  Machine.exec (.grantedBurstVerdict l look) s = .next
    { s with
      legs := s.legs.set l
        { settledLeg (s.leg l) rest with drops := (s.leg l).drops.set x.ident.drop (some r), queue := queue },
      iface := i.arbitrate }

/-- The interface of a good burst: the streak that reaches S places DROP-LIVE, with the R of the corrected record `r0`
(R110). -/
def goodNotices (s : State) (l : LegId) (x : Expectation) (r r0 : DropRecord) : Interface :=
  if goesLive s.params.streak x.kind r then
    s.iface.place
      (.dropLive l x.ident.drop r.tag r.plot r.rosterIndex r0.r r.lastPower r.launch r.flags (s.leg l).count)
  else s.iface

section Expected

variable {s : State} {l : LegId} {x : Expectation} {rest : List Expectation} {r : DropRecord} {look : BurstLook}

theorem Expected.drop_lt (h : Expected s l x rest r) : x.ident.drop < ((s.settling l rest).leg l).drops.length :=
  State.settling_lt h.record rest

theorem Expected.frozen (h : Expected s l x rest r) : r.frozen = false :=
  DropRecord.frozen_eq_false h.counting h.speaking

theorem Expected.drop (h : Expected s l x rest r) : r.ident.drop = x.ident.drop := congrArg Identity.drop h.ident

theorem Expected.exec (h : Expected s l x rest r) (look : BurstLook) :
    exec (.grantedBurstVerdict l look) s =
      .next (((s.settledTo l x rest r (s.leg l).queue s.iface).takeVerdict l x.ident.drop
        (settle r x look true)).fillVerdict l x.ident.drop x.cycle (settle r x look true).verdict).arbitrate :=
  exec_verdict_live look h.alive h.oldest h.record h.ident h.ready

/-- What is counted leaves the record, the queue and the interface. -/
theorem Expected.leaves (h : Expected s l x rest r) {r' : DropRecord} {queue : List QueueEntry} {i : Interface}
    (hleft : ((s.settledTo l x rest r (s.leg l).queue s.iface).takeVerdict l x.ident.drop
      (settle r x look true)).fillVerdict l x.ident.drop x.cycle (settle r x look true).verdict =
        s.settledTo l x rest r' queue i) :
    Leaves s l look x rest r' queue i := by
  rw [Leaves, h.exec, hleft, State.settling_holding]

/-- The ending of a record that a verdict has counted against: what its notice says (R98). -/
theorem Expected.ends (h : Expected s l x rest r) {reason : EndReason} {echoes streak misses silentRun : Nat}
    (hended : (s.settledTo l x rest r (s.leg l).queue s.iface).takeVerdict l x.ident.drop (settle r x look true) =
      (s.settledTo l x rest
        { r with echoes := echoes, streak := streak, misses := misses, silentRun := silentRun } (s.leg l).queue
        s.iface).endRecord l x.ident.drop reason true)
    {e : RosterEntry} (he : s.rosterAt r.rosterIndex = some e) :
    Machine.exec (.grantedBurstVerdict l look) s = .next
      { s with
        roster := s.roster.set r.rosterIndex (some { e with state := .expected, link := none }),
        legs := s.legs.set l
          { settledLeg (s.leg l) rest with
            drops := (s.leg l).drops.set x.ident.drop none,
            queue := enqueue x.ident.drop (.release x.ident.drop) (some r.ident) (s.leg l).queue },
        iface := Interface.arbitrate
          (s.iface.place (.dropEnded l x.ident.drop r.tag r.plot r.rosterIndex reason r.state r.attempts misses
            (s.leg l).count)) } := by
  have hcount : ((s.settling l rest).leg l).count = (s.leg l).count := by
    rw [State.settling, State.setLeg_leg_same]
    rfl
  rw [h.exec, hended, endRecord_holding
    (r := { r with echoes := echoes, streak := streak, misses := misses, silentRun := silentRun })
    h.drop_lt h.counting h.drop he, fillVerdict_ended h.drop_lt, hcount]
  exact congrArg _ (State.settling_holding (s.setRosterAt r.rosterIndex _) l rest _ _ _ _)

/-! ## Bad bursts -/

theorem settle_kind (r : DropRecord) (x : Expectation) (look : BurstLook) (judged : Bool) :
    (settle r x look judged).kind = x.kind ∧ (settle r x look judged).cycle = x.cycle := by
  unfold settle
  dsimp only
  repeat' split
  all_goals exact ⟨rfl, rfl⟩

section Bad

variable {v : BurstVerdict}

theorem Expected.takeVerdict_bad (h : Expected s l x rest r) (hbad : BadBurst x look v) :
    (s.settledTo l x rest r (s.leg l).queue s.iface).takeVerdict l x.ident.drop (settle r x look true) =
      (s.settledTo l x rest r (s.leg l).queue s.iface).countVerdict l x.ident.drop (settle r x look true) :=
  Machine.takeVerdict_bad h.drop_lt h.frozen (settle_bad hbad r ▸ badBurst_verdict hbad)

/-- A bad burst that does not end its record leaves what its count leaves, with its slot filled. -/
theorem Expected.missed (h : Expected s l x rest r) (hbad : BadBurst x look v) {r' : DropRecord}
    {queue : List QueueEntry}
    (hcount : (s.settledTo l x rest r (s.leg l).queue s.iface).countVerdict l x.ident.drop (settle r x look true) =
      s.settledTo l x rest r' queue s.iface) :
    Leaves s l look x rest (filled r' x.cycle v) queue s.iface := by
  refine h.leaves ?_
  rw [h.takeVerdict_bad hbad, hcount, settle_bad hbad r]
  exact fillVerdict_unused h.drop_lt (.inr (.inl (bad_ne_good (badBurst_verdict hbad))))

end Bad

/-! ## Good bursts -/

section Good

variable {k : Fin 6} {p : Fin 20} {content : List Byte} {report : Option (LaunchStep × Int)} {r0 : DropRecord}
  {queue : List QueueEntry}

/-- The interface once a good burst has been counted, as the statements write it. -/
theorem liveNotices_eq
    (hdrift : Drifted (s.leg l).derived.z (s.leg l).queue x.cycle (driftOf k p)
      { r with reported := report.or r.reported } r0 queue) :
    liveNotices (s.settling l rest) l x.ident.drop x.kind r0 s.iface = goodNotices s l x r r0 := by
  have hcount : ((s.settling l rest).leg l).count = (s.leg l).count := by
    rw [State.settling, State.setLeg_leg_same]
    rfl
  rw [liveNotices, goodNotices, hcount, drifted_frame hdrift]
  rfl

theorem Expected.takeVerdict_good (h : Expected s l x rest r) (hgood : GoodBurst x content report)
    (hdrift : Drifted (s.leg l).derived.z (s.leg l).queue x.cycle (driftOf k p)
      { r with reported := report.or r.reported } r0 queue) :
    (s.settledTo l x rest r (s.leg l).queue s.iface).takeVerdict l x.ident.drop
        (settle r x (.delimiter k p content) true) =
      s.settledTo l x rest (afterGood s.params.streak x.kind r0) queue
        (liveNotices (s.settling l rest) l x.ident.drop x.kind r0 s.iface) ∧
    (settle r x (.delimiter k p content) true).verdict = .good := by
  have hfault : ¬ (r.inFull x.cycle = true ∧ driftClass (driftOf k p) = .fault) := fun ⟨hfull, hfault⟩ =>
    drifted_not_fault hdrift ((DropRecord.inFull_iff h.frozen).mp hfull) hfault
  have hz : ((s.settling l rest).leg l).derived = (s.leg l).derived := by
    rw [State.settling, State.setLeg_leg_same]
    rfl
  rw [settle_good hgood, if_neg hfault]
  exact ⟨Machine.takeVerdict_good h.drop_lt h.frozen h.drop (hz.symm ▸ hdrift), rfl⟩

/-- A good burst whose power outcome has not come, or is used for nothing. -/
theorem Expected.good_idle (h : Expected s l x rest r) (hgood : GoodBurst x content report)
    (hdrift : Drifted (s.leg l).derived.z (s.leg l).queue x.cycle (driftOf k p)
      { r with reported := report.or r.reported } r0 queue)
    (hidle : r.outcomeOf x.cycle = none ∨ (afterGood s.params.streak x.kind r0).state ≠ .levelling ∧
      (afterGood s.params.streak x.kind r0).state ≠ .inService) :
    Leaves s l (.delimiter k p content) x rest (filled (afterGood s.params.streak x.kind r0) x.cycle .good) queue
      (goodNotices s l x r r0) := by
  obtain ⟨htaken, hverdict⟩ := h.takeVerdict_good hgood hdrift
  refine h.leaves ?_
  rw [htaken, hverdict, liveNotices_eq hdrift]
  exact fillVerdict_unused h.drop_lt
    (hidle.imp (fun hnone => (drifted_outcomeOf hdrift).trans hnone) fun hstate => .inr (.inr hstate))

/-- A good burst whose power outcome has come: what the outcome makes of the record and the queue. -/
theorem Expected.good_taken (h : Expected s l x rest r) (hgood : GoodBurst x content report)
    (hdrift : Drifted (s.leg l).derived.z (s.leg l).queue x.cycle (driftOf k p)
      { r with reported := report.or r.reported } r0 queue)
    {o : PowerOutcome} (ho : r.outcomeOf x.cycle = some o) {r' : DropRecord} {queue' : List QueueEntry}
    (htaken : ∀ i, (s.settledTo l x rest (filled (afterGood s.params.streak x.kind r0) x.cycle .good) queue
        i).takeEntry l x.ident.drop x.cycle .good o =
      s.settledTo l x rest r' queue' i) :
    Leaves s l (.delimiter k p content) x rest r' queue' (goodNotices s l x r r0) := by
  obtain ⟨hgiven, hverdict⟩ := h.takeVerdict_good hgood hdrift
  refine h.leaves ?_
  rw [hgiven, hverdict, liveNotices_eq hdrift, fillVerdict_holding h.drop_lt, (drifted_outcomeOf hdrift).trans ho]
  exact htaken _

/-- A good burst of a record left in LEVELLING, whose power outcome has come (R107, R108). -/
theorem Expected.good_levelling (h : Expected s l x rest r) (hgood : GoodBurst x content report)
    (hdrift : Drifted (s.leg l).derived.z (s.leg l).queue x.cycle (driftOf k p)
      { r with reported := report.or r.reported } r0 queue)
    (hs : (afterGood s.params.streak x.kind r0).state = .levelling) {o : PowerOutcome}
    (ho : r.outcomeOf x.cycle = some o) {r' : DropRecord} {queue' : List QueueEntry}
    (htaken : ∀ i, (s.settledTo l x rest (filled (afterGood s.params.streak x.kind r0) x.cycle .good) queue
        i).levellingEntry l x.ident.drop (filled (afterGood s.params.streak x.kind r0) x.cycle .good) x.cycle o =
      s.settledTo l x rest r' queue' i) :
    Leaves s l (.delimiter k p content) x rest r' queue' (goodNotices s l x r r0) := by
  refine h.good_taken hgood hdrift ho fun i => ?_
  rw [takeEntry_levelling h.drop_lt ((drifted_levelsAs hdrift).isolated.trans h.counting) hs]
  exact htaken i

/-- A good burst of a record in service, whose power outcome has come (R112). -/
theorem Expected.good_inService (h : Expected s l x rest r) (hgood : GoodBurst x content report)
    (hdrift : Drifted (s.leg l).derived.z (s.leg l).queue x.cycle (driftOf k p)
      { r with reported := report.or r.reported } r0 queue)
    (hs : (afterGood s.params.streak x.kind r0).state = .inService) {o : PowerOutcome}
    (ho : r.outcomeOf x.cycle = some o) {r' : DropRecord} {queue' : List QueueEntry}
    (htaken : ∀ i, (s.settledTo l x rest (filled (afterGood s.params.streak x.kind r0) x.cycle .good) queue
        i).serviceEntry l x.ident.drop (filled (afterGood s.params.streak x.kind r0) x.cycle .good) o =
      s.settledTo l x rest r' queue' i) :
    Leaves s l (.delimiter k p content) x rest r' queue' (goodNotices s l x r r0) := by
  refine h.good_taken hgood hdrift ho fun i => ?_
  rw [takeEntry_inService h.drop_lt ((drifted_levelsAs hdrift).isolated.trans h.counting) hs]
  exact htaken i

end Good

end Expected

/-! ## Each state's counts -/

section Counts

variable {s : State} {l : LegId} {x : Expectation} {rest : List Expectation} {r : DropRecord} {look : BurstLook}
  {v : BurstVerdict}

/-- What the verdict of leg `l` leaves when it ends the record (R98). -/
def Ends (s : State) (l : LegId) (look : BurstLook) (x : Expectation) (rest : List Expectation) (r : DropRecord)
    (reason : EndReason) (misses : Nat) : Prop :=
  ∀ e, s.rosterAt r.rosterIndex = some e →
    Machine.exec (.grantedBurstVerdict l look) s = .next
      { s with
        roster := s.roster.set r.rosterIndex (some { e with state := .expected, link := none }),
        legs := s.legs.set l
          { settledLeg (s.leg l) rest with
            drops := (s.leg l).drops.set x.ident.drop none,
            queue := enqueue x.ident.drop (.release x.ident.drop) (some r.ident) (s.leg l).queue },
        iface := Interface.arbitrate
          (s.iface.place (.dropEnded l x.ident.drop r.tag r.plot r.rosterIndex reason r.state r.attempts misses
            (s.leg l).count)) }

/-- A bad burst that ends its record. -/
theorem Expected.fails (h : Expected s l x rest r) (hbad : BadBurst x look v) {reason : EndReason}
    {echoes streak misses silentRun : Nat}
    (hcount : (s.settledTo l x rest r (s.leg l).queue s.iface).countVerdict l x.ident.drop (settle r x look true) =
      (s.settledTo l x rest
        { r with echoes := echoes, streak := streak, misses := misses, silentRun := silentRun } (s.leg l).queue
        s.iface).endRecord l x.ident.drop reason true) :
    Ends s l look x rest r reason misses := fun _ he => h.ends ((h.takeVerdict_bad hbad).trans hcount) he

theorem settle_bad_ne_good (hbad : BadBurst x look v) : (settle r x look true).verdict ≠ .good :=
  settle_bad hbad r ▸ bad_ne_good (badBurst_verdict hbad)

/-- The misses of a record in service (R111). -/
theorem Expected.serviceMiss (h : Expected s l x rest r) (hbad : BadBurst x look v) (hs : r.state = .inService)
    (hk : x.kind = .service) :
    (r.silentRun + 1 < 64 →
      Leaves s l look x rest (filled { r with silentRun := r.silentRun + 1 } x.cycle v) (s.leg l).queue s.iface) ∧
    (64 ≤ r.silentRun + 1 → Ends s l look x rest r .lapsed r.misses) := by
  have hcount := countVerdict_serviceMiss (queue := (s.leg l).queue) (i := s.iface) h.drop_lt
    (settle_bad_ne_good hbad) hs ((settle_kind r x look true).1.trans hk)
  refine ⟨fun hfew => h.missed hbad ?_, fun hlast =>
    h.fails hbad (echoes := r.echoes) (streak := r.streak) (silentRun := r.silentRun + 1) ?_⟩
  · rw [hcount, if_neg (Nat.not_le.mpr hfew)]
  · rw [hcount, if_pos hlast]

/-- The misses of a record in LEVELLING or SOAK (R106, R109). -/
theorem Expected.soakMiss (h : Expected s l x rest r) (hbad : BadBurst x look v)
    (hs : r.state = .levelling ∨ r.state = .soak) (hk : x.kind = .echo) :
    (r.misses + 1 < s.params.missLim →
      Leaves s l look x rest
        (filled { r with streak := if r.state = .soak then 0 else r.streak, misses := r.misses + 1 } x.cycle v)
        (s.leg l).queue s.iface) ∧
    (s.params.missLim ≤ r.misses + 1 → Ends s l look x rest r .soakFailed (r.misses + 1)) := by
  have hcount := countVerdict_soakMiss (queue := (s.leg l).queue) (i := s.iface) h.drop_lt
    (settle_bad_ne_good hbad) hs ((settle_kind r x look true).1.trans hk)
  refine ⟨fun hfew => h.missed hbad ?_, fun hlast =>
    h.fails hbad (echoes := r.echoes) (streak := if r.state = .soak then 0 else r.streak)
      (silentRun := r.silentRun) ?_⟩
  · exact hcount.trans (if_neg (Nat.not_le.mpr hfew))
  · exact hcount.trans (if_pos hlast)

/-- The misses of a record in ENROLLING (R104, R105). -/
theorem Expected.enrolMiss (h : Expected s l x rest r) (hbad : BadBurst x look v) (hs : r.state = .enrolling)
    (hk : x.kind = .echo) :
    (¬ MissCounts (s.leg l).queue x.ident.drop r x.cycle →
      Leaves s l look x rest (filled r x.cycle v) (s.leg l).queue s.iface) ∧
    (MissCounts (s.leg l).queue x.ident.drop r x.cycle → r.echoes + 1 < 3 →
      Leaves s l look x rest (filled { r with echoes := r.echoes + 1 } x.cycle v) (s.leg l).queue s.iface) ∧
    (MissCounts (s.leg l).queue x.ident.drop r x.cycle → 3 ≤ r.echoes + 1 → 3 ≤ r.attempts →
      Ends s l look x rest r .noAnswer r.misses) ∧
    (MissCounts (s.leg l).queue x.ident.drop r x.cycle → 3 ≤ r.echoes + 1 → r.attempts < 3 →
      Leaves s l look x rest
        (filled { r with attempts := r.attempts + 1, echoes := 0, echoDue := none } x.cycle v)
        (enqueue x.ident.drop (.enrol r.tag x.ident.drop r.e r.launch) (some r.ident) (s.leg l).queue) s.iface) := by
  obtain ⟨hkind, hcycle⟩ := settle_kind r x look true
  obtain ⟨hidle, hcount⟩ := countVerdict_enrolMiss (queue := (s.leg l).queue) (i := s.iface) h.drop_lt
    (settle_bad_ne_good hbad) hs (hkind.trans hk)
  rw [hcycle] at hidle hcount
  refine ⟨fun hc => h.missed hbad (hidle hc), fun hc hfew => h.missed hbad ?_, fun hc hlast hattempts =>
    h.fails hbad (echoes := 3) (streak := r.streak) (silentRun := r.silentRun) ?_, fun hc hlast hattempts =>
    h.missed hbad ?_⟩
  · exact (hcount hc).trans (if_neg (Nat.not_le.mpr hfew))
  · rw [hcount hc, if_pos hlast, enrolAgain_holding, if_neg (Nat.not_lt.mpr hattempts)]
  · rw [hcount hc, if_pos hlast, enrolAgain_holding, if_pos hattempts, h.drop]

/-- A bad burst of the other kind. -/
theorem Expected.otherMiss (h : Expected s l x rest r) (hbad : BadBurst x look v)
    (hother : r.state = .inService ∧ x.kind = .echo ∨ r.state ≠ .inService ∧ x.kind = .service) :
    Leaves s l look x rest (filled r x.cycle v) (s.leg l).queue s.iface := by
  rw [← (settle_kind r x look true).1] at hother
  exact h.missed hbad (countVerdict_otherKind h.drop_lt hother)

end Counts

/-! ## Each power outcome -/

section Outcome

variable {s : State} {l : LegId} {x : Expectation} {rest : List Expectation} {r r0 : DropRecord} {k : Fin 6}
  {p : Fin 20} {content : List Byte} {report : Option (LaunchStep × Int)} {queue : List QueueEntry}

/-- The record of a good burst once its verdict has counted and its entry is taken out. -/
abbrev goodRecord (s : State) (x : Expectation) (r0 : DropRecord) : DropRecord :=
  filled (afterGood s.params.streak x.kind r0) x.cycle .good

/-- One unmeasured result more, the eighth of which ends LEVELLING (R107). -/
theorem Expected.unmeasured (h : Expected s l x rest r) (hgood : GoodBurst x content report)
    (hdrift : Drifted (s.leg l).derived.z (s.leg l).queue x.cycle (driftOf k p)
      { r with reported := report.or r.reported } r0 queue)
    (hs : (goodRecord s x r0).state = .levelling) {o : PowerOutcome} (ho : r.outcomeOf x.cycle = some o)
    {r2 : DropRecord} (hunmeasured : ∀ i, (s.settledTo l x rest (goodRecord s x r0) queue i).levellingEntry l
      x.ident.drop (goodRecord s x r0) x.cycle o = s.settledTo l x rest r2.oneUnmeasured queue i) :
    (r2.unmeasured + 1 < 8 →
      Leaves s l (.delimiter k p content) x rest { r2 with unmeasured := r2.unmeasured + 1 } queue
        (goodNotices s l x r r0)) ∧
    (8 ≤ r2.unmeasured + 1 →
      Leaves s l (.delimiter k p content) x rest
        { r2 with unmeasured := r2.unmeasured + 1, state := .soak, streak := 0,
                  flags := { r2.flags with unknown := true } } queue (goodNotices s l x r r0)) := by
  refine ⟨fun hfew => h.good_levelling hgood hdrift hs ho fun i => ?_, fun hlast =>
    h.good_levelling hgood hdrift hs ho fun i => ?_⟩
  · rw [hunmeasured, DropRecord.oneUnmeasured_few hfew]
  · rw [hunmeasured, DropRecord.oneUnmeasured_last hlast]

/-- A fresh result that moves no range hint: LEVELLING takes it (R107, R108). -/
theorem Expected.level (h : Expected s l x rest r) (hgood : GoodBurst x content report)
    (hdrift : Drifted (s.leg l).derived.z (s.leg l).queue x.cycle (driftOf k p)
      { r with reported := report.or r.reported } r0 queue)
    (hs : (goodRecord s x r0).state = .levelling) {v : Int} {a : LevelAttrs}
    (ho : r.outcomeOf x.cycle = some (.result v a)) (ha : a.overRange = false ∨ a.underRange = false)
    (hfresh : ¬ IsStale r x.cycle) (hrange : ¬ reRanges r a) {r' : DropRecord} {queue' : List QueueEntry}
    (hlevel : ∀ i, (s.settledTo l x rest (goodRecord s x r0) queue i).level l x.ident.drop
      { goodRecord s x r0 with lastPower := some v } a = s.settledTo l x rest r' queue' i) :
    Leaves s l (.delimiter k p content) x rest r' queue' (goodNotices s l x r r0) := by
  have hr1 : r.LevelsAs (goodRecord s x r0) := drifted_levelsAs hdrift
  refine h.good_levelling hgood hdrift hs ho fun i => ?_
  rw [levellingEntry_level (mt hr1.isStale_iff.mp hfresh) v (not_ne_iff.mp (mt (hr1.hintAfter_ne_iff ha).mp hrange))]
  exact hlevel i

/-- A step that is at its end, or a third adjustment made, ends LEVELLING with the FAULT flag; else the launch moves
(R108). -/
theorem Expected.level_step (h : Expected s l x rest r) (hgood : GoodBurst x content report)
    (hdrift : Drifted (s.leg l).derived.z (s.leg l).queue x.cycle (driftOf k p)
      { r with reported := report.or r.reported } r0 queue)
    (hs : (goodRecord s x r0).state = .levelling) {v : Int} {a : LevelAttrs}
    (ho : r.outcomeOf x.cycle = some (.result v a)) (ha : a.overRange = false ∨ a.underRange = false)
    (hfresh : ¬ IsStale r x.cycle) (hrange : ¬ reRanges r a) {stop : LaunchStep} {next : LaunchStep → LaunchStep}
    (hstep : ∀ i, (s.settledTo l x rest (goodRecord s x r0) queue i).level l x.ident.drop
        { goodRecord s x r0 with lastPower := some v } a =
      if (goodRecord s x r0).launch = stop ∨ 3 ≤ (goodRecord s x r0).adjustments then
        s.settledTo l x rest (DropRecord.levelled { goodRecord s x r0 with lastPower := some v }
          { (goodRecord s x r0).flags with fault := true }) queue i
      else
        s.settledTo l x rest (DropRecord.relaunched { goodRecord s x r0 with lastPower := some v }
            (next (goodRecord s x r0).launch))
          (enqueue (goodRecord s x r0).ident.drop (.launch x.ident.drop (next (goodRecord s x r0).launch))
            (some (goodRecord s x r0).ident) queue) i) :
    (r.launch = stop ∨ 3 ≤ (goodRecord s x r0).adjustments →
      Leaves s l (.delimiter k p content) x rest
        { goodRecord s x r0 with lastPower := some v, state := .soak, streak := 0,
                                 flags := { r.flags with fault := true } } queue (goodNotices s l x r r0)) ∧
    ((goodRecord s x r0).adjustments < 3 → ∀ launch, launch ≠ stop → r.launch = launch →
      Leaves s l (.delimiter k p content) x rest
        { goodRecord s x r0 with lastPower := some v, launch := next launch,
                                 adjustments := (goodRecord s x r0).adjustments + 1, launchField := .pending }
        (enqueue x.ident.drop (.launch x.ident.drop (next launch)) (some r.ident) queue) (goodNotices s l x r r0)) := by
  have hr1 : r.LevelsAs (goodRecord s x r0) := drifted_levelsAs hdrift
  rw [hr1.launch, hr1.flags, hr1.ident, h.drop] at hstep
  refine ⟨fun hlimit => h.level hgood hdrift hs ho ha hfresh hrange fun i => ?_,
    fun hfew launch hmoves hlaunch => h.level hgood hdrift hs ho ha hfresh hrange fun i => ?_⟩
  · exact (hstep i).trans (if_pos hlimit)
  · subst hlaunch
    exact (hstep i).trans (if_neg (not_or.mpr ⟨hmoves, Nat.not_le.mpr hfew⟩))

end Outcome

end Sys2Proof.Machine

open Sys2Proof Sys2Proof.Machine

/-- Settles O44: the counts by the record's state and the burst's kind, then the power outcome that came before. -/
theorem verdictsCountByTheRecordsState : Obligations.VerdictsCountByTheRecordsState := by
  unfold Obligations.VerdictsCountByTheRecordsState
  intro l look s x rest r d n hreset hx hr hident hdrop hcycle hisolated hstate hbias hsince
  subst hdrop hcycle
  have h : Expected s l x rest r := ⟨hreset, hx, hr, hident, hisolated, hstate, readyThrough_eq_true hbias hsince⟩
  refine ⟨fun v hbad => ⟨h.serviceMiss hbad, h.soakMiss hbad, h.enrolMiss hbad, h.otherMiss hbad⟩, ?_⟩
  intro k p content report r0 queue hlook hgood hdrift r1 i
  subst hlook
  have hr1 : r.LevelsAs r1 := drifted_levelsAs hdrift
  refine ⟨h.good_idle hgood hdrift,
    fun hs => ⟨fun ho => h.unmeasured hgood hdrift hs ho fun i => State.holding_setRecord _ _ _ _ _ _ _,
      fun v a ho ha =>
        ⟨fun hstale => ?stale, fun hfresh hrange => ?reRanged, fun hfresh hrange => ?level⟩⟩,
    fun hs => ⟨fun ho => h.good_inService hgood hdrift hs ho fun i => rfl, fun v a ho ha =>
      ⟨fun hrange => ?serviceReRanged, fun hrange => ?serviceResult⟩⟩⟩
  case stale =>
    refine h.good_levelling hgood hdrift hs ho fun i => ?_
    rw [levellingEntry_stale (hr1.isStale_iff.mpr hstale), hr1.hintAfter]
  case reRanged =>
    refine h.unmeasured (r2 := { r1 with hint := hintWith r a.overRange a.underRange }) hgood hdrift hs ho fun i => ?_
    rw [levellingEntry_reRanged (mt hr1.isStale_iff.mp hfresh) v ((hr1.hintAfter_ne_iff ha).mpr hrange), hr1.hintAfter]
  case level =>
    refine ⟨fun hstrong hweak => ?_, fun hstrong => ?_, fun hstrong hweak => ?_⟩
    · refine h.level hgood hdrift hs ho ha hfresh hrange fun i => ?_
      rw [level_inWindow hstrong hweak, ← hr1.flags]
      rfl
    · obtain ⟨hends, hmoves⟩ := h.level_step hgood hdrift hs ho ha hfresh hrange fun i => level_strong hstrong
      exact ⟨hends, fun hfew => ⟨hmoves hfew .q0 nofun, hmoves hfew .q1 nofun, hmoves hfew .q2 nofun⟩⟩
    · obtain ⟨hends, hmoves⟩ := h.level_step hgood hdrift hs ho ha hfresh hrange fun i => level_weak hstrong hweak
      exact ⟨hends, fun hfew => ⟨hmoves hfew .q3 nofun, hmoves hfew .q2 nofun, hmoves hfew .q1 nofun⟩⟩
  case serviceReRanged =>
    refine h.good_inService hgood hdrift hs ho fun i => ?_
    rw [serviceEntry_reRanged v ((hr1.hintAfter_ne_iff ha).mpr hrange), hr1.hintAfter]
  case serviceResult =>
    refine h.good_inService hgood hdrift hs ho fun i => ?_
    rw [serviceEntry_result v (not_ne_iff.mp (mt (hr1.hintAfter_ne_iff ha).mp hrange)), ← hr1.flags]
end

section
/-! SUPPORT. The drift of a good burst, corrected or ending its record (R26 to R28, R106, R113). -/

namespace Sys2Proof.Machine

/-- A good burst that does not take the streak to S places no notice (R110). -/
theorem goodNotices_of_short {s : State} {l : LegId} {x : Expectation} {r r0 : DropRecord}
    (h : r.state ≠ .soak ∨ x.kind = .service ∨ r.streak + 1 < s.params.streak) :
    goodNotices s l x r r0 = s.iface := by
  have hshort : ¬ (r.state = .soak ∧ x.kind = .echo ∧ s.params.streak ≤ r.streak + 1) := by
    rintro ⟨hs, hk, hlast⟩
    rcases h with h | h | h
    · exact h hs
    · exact absurd (hk.symm.trans h) nofun
    · omega
  exact if_neg (by simpa [goesLive] using hshort)

theorem goodNotices_of_last {s : State} {l : LegId} {x : Expectation} {r r0 : DropRecord} (hs : r.state = .soak)
    (hk : x.kind = .echo) (hlast : s.params.streak ≤ r.streak + 1) :
    goodNotices s l x r r0 =
      s.iface.place
        (.dropLive l x.ident.drop r.tag r.plot r.rosterIndex r0.r r.lastPower r.launch r.flags (s.leg l).count) :=
  if_pos (by simp [goesLive, hs, hk, hlast])

/-- In SOAK an echo makes the streak longer, the S-th into service (R109, R110). -/
theorem afterGood_soak {streakLim : Nat} {r : DropRecord} (hs : r.state = .soak) :
    afterGood streakLim .echo r =
      if streakLim ≤ r.streak + 1 then
        { r with state := .inService, streak := r.streak + 1, echoDue := none, silentRun := 0, lastSample := none }
      else { r with streak := r.streak + 1 } := by
  simp [afterGood, hs]

/-- A drift within 40 bits that leaves E where it is moves the last drift alone (R27, R28). -/
theorem drifted_settled {z e : Nat} {queue : List QueueEntry} {n : Cycle} {drift : Int} {r : DropRecord}
    (hfull : JudgedInFull r n) (hcorrectable : drift.natAbs ≤ 40) (he : CorrectsTo z r.e drift e)
    (hstays : e = r.e ∨ drift.natAbs ≤ 2) : Drifted z queue n drift r { r with lastDrift := drift } queue := by
  by_cases hsmall : drift.natAbs ≤ 2
  · exact .inr (.inl ⟨hfull, hsmall, rfl, rfl⟩)
  · exact .inr (.inr ⟨hfull, by omega, hcorrectable, e, he, .inl ⟨hstays.resolve_right hsmall, rfl, rfl⟩⟩)

/-- A burst judged in full that drifts by more than 40 bits is a fault, and ends its record (R28, R113). -/
theorem Expected.faults {s : State} {l : LegId} {x : Expectation} {rest : List Expectation} {r : DropRecord}
    {k : Fin 6} {p : Fin 20} {content : List Byte} {report : Option (LaunchStep × Int)} (h : Expected s l x rest r)
    (hgood : GoodBurst x content report) (hfull : JudgedInFull r x.cycle) (hfault : 40 < (driftOf k p).natAbs) :
    Ends s l (.delimiter k p content) x rest r .driftFault r.misses := by
  intro e he
  refine h.ends (echoes := r.echoes) (streak := r.streak) (silentRun := r.silentRun) ?_ he
  rw [settle_good hgood, if_pos ⟨(DropRecord.inFull_iff h.frozen).mpr hfull, driftClass_eq_fault_iff.mpr hfault⟩]
  simp [State.takeVerdict, h.drop_lt, h.frozen]

/-- A verdict before its power outcome fills its slot and takes no entry out (R101). -/
theorem filled_of_waiting {r : DropRecord} {n : Cycle} (h : r.outcomeOf n = none) (v : BurstVerdict) :
    filled r n v =
      { r with measures := r.measures.map fun m => if m.cycle = n then { m with verdict := some v } else m } := by
  rw [DropRecord.outcomeOf] at h
  simp [filled, h]

end Sys2Proof.Machine

open Sys2Proof Sys2Proof.Machine

/-- Settles O45: the drift's class gives the record and the queue, and the burst then counts by its state and kind. -/
theorem driftIsCorrectedOrEndsTheRecord : Obligations.DriftIsCorrectedOrEndsTheRecord := by
  unfold Obligations.DriftIsCorrectedOrEndsTheRecord
  intro l k p content report s x rest r d drift e hreset hx hgood hr hident hdrop hstate hisolated hfull hbias hsince
    hdrift he command leg leaves
  subst hdrop
  have h : Expected s l x rest r := ⟨hreset, hx, hr, hident, hisolated, hstate, readyThrough_eq_true hbias hsince⟩
  refine ⟨fun hlarge => h.faults hgood hfull (by rw [driftOf]; omega), fun hnone => ?_⟩
  have hidle : r.outcomeOf x.cycle = none := Option.bind_eq_none_iff.mpr hnone
  have hleaves : ∀ r0 queue, Drifted (s.leg l).derived.z (s.leg l).queue x.cycle (driftOf k p)
      { r with reported := report.or r.reported } r0 queue → leaves (filled r0 x.cycle .good) queue := by
    intro r0 queue hdrifted
    have hleft := h.good_idle hgood hdrifted (.inl hidle)
    have hr0 : r0.state = r.state ∧ r0.streak = r.streak := by
      rw [drifted_frame hdrifted]
      exact ⟨rfl, rfl⟩
    refine ⟨fun hshort => ?_, fun hs hk hlast => ?_⟩
    · rw [goodNotices_of_short hshort] at hleft
      refine hleft.trans ?_
      cases hs : r.state with
      | soak =>
        cases hk : x.kind with
        | echo =>
          have hfew : ¬ s.params.streak ≤ r.streak + 1 := by simpa [hs, hk] using hshort
          rw [afterGood_soak (hr0.1.trans hs), hr0.2, if_neg hfew]
          rfl
        | service => simp only [afterGood, filled, hr0.1, hs]; rfl
      | enrolling | levelling | inService | silenced =>
        cases hk : x.kind <;> simp only [afterGood, filled, hr0.1, hs] <;> rfl
    · rw [goodNotices_of_last hs hk hlast, hk, afterGood_soak (hr0.1.trans hs), hr0.2, if_pos hlast] at hleft
      refine hleft.trans ?_
      simp only [hs, hk]
      rfl
  have hdrift : driftOf k p = drift := hdrift.symm
  rw [hdrift] at hleaves
  have hfilled : ∀ r0 queue, r0.measures = r.measures →
      Drifted (s.leg l).derived.z (s.leg l).queue x.cycle drift { r with reported := report.or r.reported } r0 queue →
      leaves
        { r0 with
          measures := r0.measures.map fun m => if m.cycle = x.cycle then { m with verdict := some .good } else m }
        queue := by
    intro r0 queue hmeasures hdrifted
    have hleft := hleaves r0 queue hdrifted
    rwa [filled_of_waiting (by rw [DropRecord.outcomeOf, hmeasures]; exact hidle)] at hleft
  have hkept : e = r.e ∨ drift.natAbs ≤ 2 → drift.natAbs ≤ 40 → leaves
      { r with
        reported := report.or r.reported, lastDrift := drift,
        measures := r.measures.map fun m => if m.cycle = x.cycle then { m with verdict := some .good } else m }
      (s.leg l).queue := by
    exact fun hstays hcorrectable =>
      hfilled { r with reported := report.or r.reported, lastDrift := drift } _ rfl
        (drifted_settled hfull hcorrectable he hstays)
  refine ⟨fun hlow hhigh => hkept (.inr (by omega)) (by omega), fun hclass =>
    ⟨fun hsame => hkept (.inl hsame) (by omega), fun hmoved => ?_⟩⟩
  have hcorrected := hfilled
    { r with
      reported := report.or r.reported, lastDrift := drift, e := e, r := (s.leg l).derived.z - e,
      offsetField := .pending }
    _ rfl (.inr (.inr ⟨hfull, by omega, by omega, e, he, .inr ⟨hmoved, rfl, rfl⟩⟩))
  rwa [h.drop] at hcorrected
end

section
/-! SUPPORT. What falls due at the coming boundary: cycle fields, dark offsets and candidates (R30, R89, R103, R126). -/

namespace Sys2Proof.Machine

/-! ## Cycle fields (R30, R103) -/

theorem InFlight.expire_due {f : InFlight} {n : Cycle} (h : ∃ c, f = .cycle c ∧ 3 ≤ (n - c).toInt) :
    f.expire n = .absent := by
  obtain ⟨c, rfl, hdue⟩ := h
  exact if_pos hdue

theorem InFlight.expire_early {f : InFlight} {n : Cycle} (h : ∀ c, f = .cycle c → (n - c).toInt < 3) :
    f.expire n = f := by
  cases f with
  | absent | pending => rfl
  | cycle c => exact if_neg (Int.not_le.mpr (h c rfl))

/-- Before its boundary the leg's coming cycle is the one after its count. -/
theorem Leg.coming_of_behind {x : Leg} (h : x.ahead = false) : x.coming = x.count + 1#32 := by
  simp [Leg.coming, h]

/-- A record put back as it stands leaves the state. -/
theorem State.setRecord_self {s : State} {l : LegId} {d : Nat} {r : DropRecord} (h : s.record l d = some r) :
    s.setRecord l d (some r) = s := by
  have hself := State.holding_self h
  rw [State.holding] at hself
  exact hself

section Fields

variable {s : State} {l : LegId} {d : Nat} {r : DropRecord}

theorem exec_offsetFieldExpiry (hreset : s.inReset = none) (hr : s.record l d = some r) (ha : (s.leg l).ahead = false) :
    exec (.offsetFieldExpiry l d) s = .next (s.setRecord l d
      (some { r with offsetField := r.offsetField.expire ((s.leg l).count + 1#32) })).arbitrate := by
  rw [← Leg.coming_of_behind ha]
  change execOffsetFieldExpiry l d s = _
  rw [execOffsetFieldExpiry, event_alive _ hreset, hr]

theorem exec_launchFieldExpiry (hreset : s.inReset = none) (hr : s.record l d = some r) (ha : (s.leg l).ahead = false) :
    exec (.launchFieldExpiry l d) s = .next (s.setRecord l d
      (some { r with launchField := r.launchField.expire ((s.leg l).count + 1#32) })).arbitrate := by
  rw [← Leg.coming_of_behind ha]
  change execLaunchFieldExpiry l d s = _
  rw [execLaunchFieldExpiry, event_alive _ hreset, hr]

end Fields

/-! ## Dark offsets (R126, R127) -/

section Offsets

variable {m : Meter} {l : LegId} {k : RangeId}

theorem addWant_eq (m : Meter) (l : LegId) (k : RangeId) :
    m.addWant l k =
      { m with
        wants := m.wants.set l
          (if ∀ w ∈ m.wants.get l, w.range ≠ k then m.wants.get l ++ [{ range := k, scheduled := false }]
          else m.wants.get l) } := by
  unfold Meter.addWant
  by_cases h : (m.wants.get l).any (fun w : Want => decide (w.range = k)) = true
  · have hwanted : ¬ ∀ w ∈ m.wants.get l, w.range ≠ k := by simpa using h
    rw [if_pos h, if_neg hwanted, Four.set_get]
  · have hnone : ∀ w ∈ m.wants.get l, w.range ≠ k := by simpa using h
    rw [if_neg h, if_pos hnone]

/-- A valid entry that becomes invalid, and the want of a range that a queued sample names. -/
theorem invalidate_valid (h : ((m.offsets.get l).get k).valid = true) :
    m.invalidate l k =
      { m with
        offsets := m.offsets.set l ((m.offsets.get l).set k OffsetEntry.invalid),
        wants := m.wants.set l
          (if (∃ q ∈ m.queues.get l, q.range = k) ∧ ∀ w ∈ m.wants.get l, w.range ≠ k then
            m.wants.get l ++ [{ range := k, scheduled := false }]
          else m.wants.get l) } := by
  unfold Meter.invalidate
  by_cases hq : (m.queues.get l).any (fun q : SampleRequest => decide (q.range = k)) = true
  · have hqueued : ∃ q ∈ m.queues.get l, q.range = k := by simpa using hq
    rw [if_pos h, if_pos hq, addWant_eq]
    rw [if_congr (and_iff_right hqueued) rfl rfl]
    rfl
  · have hqueued : ¬ ∃ q ∈ m.queues.get l, q.range = k := by simpa using hq
    rw [if_pos h, if_neg hq, if_neg (fun h => hqueued h.1), Four.set_get]
    rfl

end Offsets

/-! ## Candidates (R89) -/

theorem Leg.started_iff {x : Leg} : x.started = true ↔ x.state ≠ .stopped := decide_eq_true_iff

theorem Candidate.lapsed_iff {c : Candidate} {n : Cycle} {q : Nat} :
    c.lapsed n q = true ↔ (q : Int) ≤ (n - c.lastHeard).toInt :=
  decide_eq_true_iff

end Sys2Proof.Machine

open Sys2Proof Sys2Proof.Machine

/-- Settles O40: each command finds what is due at the coming boundary, and leaves what is not. -/
theorem whatIsDueExpires : Obligations.WhatIsDueExpires := by
  unfold Obligations.WhatIsDueExpires
  refine ⟨fun l d r s hreset hr ha => ⟨fun hdue => ?_, fun hearly => ?_, fun hdue => ?_, fun hearly => ?_⟩,
    fun l k s hreset => ⟨fun hearly => ?_, fun hvalid hdue => ?_⟩,
    fun c s hreset hc ha => ⟨fun hearly => ?_, fun hstarted hdue => ?_⟩⟩
  · rw [exec_offsetFieldExpiry hreset hr ha, InFlight.expire_due hdue]
    rfl
  · rw [exec_offsetFieldExpiry hreset hr ha, InFlight.expire_early hearly, State.setRecord_self hr]
    rfl
  · rw [exec_launchFieldExpiry hreset hr ha, InFlight.expire_due hdue]
    rfl
  · rw [exec_launchFieldExpiry hreset hr ha, InFlight.expire_early hearly, State.setRecord_self hr]
    rfl
  · refine (event_alive _ hreset).trans ?_
    rw [if_neg]
    · rfl
    · rw [Bool.and_eq_true]
      rintro ⟨hvalid, hdue⟩
      have hdue : 40000 ≤ (s.offset l k).age + 1 := of_decide_eq_true hdue
      exact absurd hdue (Nat.not_le.mpr (hearly.resolve_left (ne_false_of_eq_true hvalid)))
  · refine (event_alive _ hreset).trans ?_
    rw [if_pos (by simp [hvalid, Config.offsetLife, hdue]), invalidate_valid hvalid]
    rfl
  · change execCandidateLapsed c.tag s = _
    rw [execCandidateLapsed, event_alive _ hreset, hc]
    dsimp only
    rw [if_neg]
    · rfl
    · rw [Bool.and_eq_true, Leg.coming_of_behind ha, Leg.started_iff, Candidate.lapsed_iff]
      rintro ⟨hstarted, hdue⟩
      exact absurd hdue (Int.not_le.mpr (hearly.resolve_left hstarted))
  · change execCandidateLapsed c.tag s = _
    rw [execCandidateLapsed, event_alive _ hreset, hc]
    dsimp only
    rw [if_pos]
    · rfl
    · rw [Bool.and_eq_true, Leg.coming_of_behind ha, Leg.started_iff, Candidate.lapsed_iff]
      exact ⟨hstarted, hdue⟩
end

section
/-! SUPPORT. The finding of an announce in the window, its sample request and the light history (R56, R63, R65, R66,
R132). -/

namespace Sys2Proof.Machine

/-! ## Light (R56, R65) -/

/-- The number whose bit i, for i below n, is `bit i`. -/
def bitSum (bit : Nat → Bool) (n : Nat) : Nat := (List.range n).foldr (fun i acc => acc + if bit i then 2 ^ i else 0) 0

theorem foldr_add_eq (f : Nat → Nat) (xs : List Nat) (a : Nat) :
    xs.foldr (fun i acc => acc + f i) a = xs.foldr (fun i acc => acc + f i) 0 + a := by
  induction xs with
  | nil => simp
  | cons x xs ih => simp only [List.foldr_cons, ih, Nat.add_right_comm]

theorem bitSum_succ (bit : Nat → Bool) (n : Nat) : bitSum bit (n + 1) = 2 ^ n * (bit n).toNat + bitSum bit n := by
  rw [bitSum, List.range_succ, List.foldr_append, foldr_add_eq fun i => if bit i then 2 ^ i else 0, ← bitSum,
    Nat.add_comm]
  cases h : bit n <;> simp [h]

theorem bitSum_lt (bit : Nat → Bool) (n : Nat) : bitSum bit n < 2 ^ n := by
  induction n with
  | zero => simp [bitSum]
  | succ n ih =>
    rw [bitSum_succ, Nat.pow_succ]
    cases bit n <;> simp <;> omega

theorem testBit_bitSum {bit : Nat → Bool} {n i : Nat} (h : i < n) : (bitSum bit n).testBit i = bit i := by
  induction n with
  | zero => exact absurd h (Nat.not_lt_zero i)
  | succ n ih =>
    rw [bitSum_succ, Nat.testBit_two_pow_mul_add _ (bitSum_lt bit n)]
    rcases Nat.lt_or_eq_of_le (Nat.le_of_lt_succ h) with hlt | rfl
    · rw [if_pos hlt, ih hlt]
    · rw [if_neg (Nat.lt_irrefl i), Nat.sub_self]
      cases bit i <;> rfl

theorem litAt_iff {lit : List (Nat × Nat)} {x : Nat} : litAt lit x = true ↔ Lit lit x := by
  simp [litAt, Lit]

/-- The light history that the rules describe is the model's (R65). -/
theorem historyAtClose_eq {lit : List (Nat × Nat)} {history : BitVec 48} (h : HistoryIs lit history) :
    historyAtClose lit = history := by
  refine BitVec.eq_of_getLsbD_eq fun i hi => ?_
  have hbit : (historyAtClose lit).getLsbD i = litAt lit (31249 - i) := by
    change (BitVec.ofNat 48 (bitSum (fun i => litAt lit (31249 - i)) 48)).getLsbD i = _
    rw [BitVec.getLsbD_ofNat, testBit_bitSum hi]
    simp [hi]
  rw [Bool.eq_iff_iff, hbit, litAt_iff, h i hi]

theorem crowdedBy_eq {light : BitVec 48} {crowded : Bool}
    (h : crowded = true ↔ ∃ i, 32 ≤ i ∧ i < 48 ∧ light.getLsbD i = true) : crowdedBy light = crowded := by
  rw [Bool.eq_iff_iff, h, crowdedBy, decide_eq_true_iff, Ne, BitVec.eq_of_getLsbD_eq_iff]
  simp only [BitVec.getLsbD_extractLsb', BitVec.getLsbD_zero]
  push Not
  constructor
  · rintro ⟨i, hi, hbit⟩
    exact ⟨32 + i, by omega, by omega, by simpa [hi] using hbit⟩
  · rintro ⟨i, hlow, hhigh, hbit⟩
    refine ⟨i - 32, by omega, ?_⟩
    rw [Nat.add_sub_cancel' hlow, hbit]
    simp
    omega

/-! ## The arbiter (R125) -/

/-- No claim but an announce reaches the converter at an instant. -/
theorem claims_announce {m : Meter} {instant : Nat} (announcing : List LegId)
    (hqueued : ∀ k q rest, m.queues.get k = q :: rest → q.start ≠ instant)
    (hscheduled : ∀ c ∈ m.scheduled, c.instant ≠ instant) :
    m.claims instant announcing = (.announce, announcing) := by
  have hnone : m.queuedAt instant = [] := by
    refine List.filter_eq_nil_iff.mpr fun k _ => ?_
    cases hq : m.queues.get k with
    | nil => simp
    | cons q rest => simpa using hqueued k q rest hq
  have hcalibrations : m.calibrationsAt instant = [] := by
    rw [Meter.calibrationsAt, List.map_eq_nil_iff, List.filter_eq_nil_iff]
    simpa using hscheduled
  simp [Meter.claims, hnone, hcalibrations]

theorem favoured_single (pointer l : LegId) : favoured pointer [l] = l := by
  cases pointer <;> cases l <;> rfl

/-- A claim that is alone at its instant, its converter idle, is decided for and leaves the tie pointer. -/
theorem claim_alone {m : Meter} {instant : Nat} (l : LegId) (hidle : m.converter = .idle)
    (hundecided : ∀ e, m.decided = some e → e.instant ≠ instant)
    (hqueued : ∀ k q rest, m.queues.get k = q :: rest → q.start ≠ instant)
    (hscheduled : ∀ c ∈ m.scheduled, c.instant ≠ instant) :
    m.claim instant .announce l [l] =
      ({ m with decided := some { instant := instant, form := .announce, leg := l } }, true) := by
  have hclaims := claims_announce [l] hqueued hscheduled
  have hdecide : m.decide instant [l] =
      { m with decided := some { instant := instant, form := .announce, leg := l } } := by
    unfold Meter.decide
    split
    · next e he => rw [if_neg (hundecided e he), hclaims]; simp [favoured_single]
    · rw [hclaims]; simp [favoured_single]
  simp [Meter.claim, hidle, hdecide, Meter.favours]

theorem claim_busy {m : Meter} (h : m.converter ≠ .idle) (instant : Nat) (form : ClaimForm) (l : LegId)
    (announcing : List LegId) : m.claim instant form l announcing = (m, false) := by
  unfold Meter.claim
  split
  · next hidle => exact absurd hidle h
  · rfl

/-! ## The window (R63) -/

section Window

variable {s : State} {l : LegId} {w : WindowScan} {a : Nat}

theorem hunts_iff {x : Leg} :
    x.hunts w a = true ↔ x.derived.omega ≤ a ∧ a < x.derived.omega + x.derived.w ∧ w.hunt ≤ a := by
  simp [Leg.hunts, and_assoc]

theorem hunts_ready_iff : ((s.leg l).hunts w a && decide (s.bias.state = .ready)) = true ↔
    (s.leg l).derived.omega ≤ a ∧ a < (s.leg l).derived.omega + (s.leg l).derived.w ∧ w.hunt ≤ a ∧
      s.bias.state = .ready := by
  rw [Bool.and_eq_true, hunts_iff, decide_eq_true_iff, and_assoc, and_assoc]

/-- A leg whose scan, present, is changed. -/
theorem mapScan_some {x : Leg} (h : x.receiver.scan = some w) (f : WindowScan → WindowScan) :
    x.mapScan f = { x with receiver := { x.receiver with scan := some (f w) } } := by
  simp [Leg.mapScan, Leg.mapReceiver, h]

/-- What a change of a scan, present, leaves. -/
theorem mapLeg_mapScan_arbitrate (h : (s.leg l).receiver.scan = some w) (f : WindowScan → WindowScan) :
    (s.mapLeg l fun x => x.mapScan f).arbitrate =
      { s with
        legs := s.legs.set l { s.leg l with receiver := { (s.leg l).receiver with scan := some (f w) } },
        iface := s.iface.arbitrate } := by
  rw [State.mapLeg, mapScan_some h]
  rfl

theorem recordLight_leg (s : State) (l : LegId) (light : BitVec 48) :
    (s.recordLight l light).leg l =
      { s.leg l with receiver := { (s.leg l).receiver with lightHistory := light } } :=
  Four.get_set_same _ _ _

/-- The sample of an announce does not depend on the light. -/
theorem announceRequest_recordLight (s : State) (l : LegId) (light : BitVec 48) (a instant : Nat)
    (rivals : List LegId) :
    (s.recordLight l light).announceRequest l a instant rivals = s.announceRequest l a instant rivals := by
  rw [State.announceRequest, recordLight_leg]
  rfl

section Found

variable {light : BitVec 48} {rivals : List LegId} {p : Fin 20}

/-- A leg that does not scan records the light alone. -/
theorem exec_found_unscanned (hreset : s.inReset = none) (hscan : (s.leg l).receiver.scan = none) :
    exec (.announceDelimiterFound l a p light rivals) s = .next (s.recordLight l light).arbitrate := by
  change execAnnounceDelimiterFound l a p light rivals s = _
  rw [execAnnounceDelimiterFound, event_alive _ hreset]
  dsimp only
  rw [recordLight_leg, hscan]

/-- A delimiter that the scan does not hunt leaves the light alone. -/
theorem exec_found_outside (hreset : s.inReset = none) (hscan : (s.leg l).receiver.scan = some w)
    (hhunts : ¬ ((s.leg l).hunts w a && decide (s.bias.state = .ready)) = true) :
    exec (.announceDelimiterFound l a p light rivals) s = .next (s.recordLight l light).arbitrate := by
  change execAnnounceDelimiterFound l a p light rivals s = _
  rw [execAnnounceDelimiterFound, event_alive _ hreset]
  dsimp only
  rw [recordLight_leg, hscan]
  exact congrArg (fun u => Host.Outcome.next (State.arbitrate u)) (if_neg hhunts)

/-- A delimiter that the scan hunts is found once, with what became of its sample request (R63, R65, R66). -/
theorem exec_found_inside (hreset : s.inReset = none) (hscan : (s.leg l).receiver.scan = some w)
    (hhunts : ((s.leg l).hunts w a && decide (s.bias.state = .ready)) = true) {m : Meter} {sample : AnnounceSample}
    (hasked : s.announceRequest l a (w.marker + a) rivals = (m, sample)) {crowded : Bool}
    (hcrowded : crowdedBy light = crowded) :
    exec (.announceDelimiterFound l a p light rivals) s = .next
      { s with
        meter := m,
        legs := s.legs.set l
          { s.leg l with
            receiver :=
              { (s.leg l).receiver with
                scan := some { w with hunt := a + 128, found := w.found ++ [⟨a, p, crowded, sample, false⟩] },
                lightHistory := light } },
        iface := s.iface.arbitrate } := by
  have hrecorded : (((s.recordLight l light).setMeter m).leg l).receiver.scan = some w := by
    rw [State.setMeter_leg, recordLight_leg]
    exact hscan
  have hfound := mapLeg_mapScan_arbitrate hrecorded
    fun w => { w with hunt := a + 128, found := w.found ++ [⟨a, p, crowded, sample, false⟩] }
  rw [State.setMeter_leg, recordLight_leg] at hfound
  change execAnnounceDelimiterFound l a p light rivals s = _
  rw [execAnnounceDelimiterFound, event_alive _ hreset]
  dsimp only
  rw [recordLight_leg, hscan]
  dsimp only
  rw [announceRequest_recordLight, hasked, hcrowded]
  refine (congrArg (fun u => Host.Outcome.next (State.arbitrate u)) (if_pos hhunts)).trans ?_
  refine congrArg Host.Outcome.next (hfound.trans ?_)
  simp [State.recordLight, State.mapLeg, State.setLeg, State.setMeter]

end Found

/-! ## The sample request (R66, R127, R132) -/

theorem usable_valid {e : OffsetEntry} {o : Nat} (h : e = { e with code := some o, valid := true }) :
    e.usable = some o := by
  rw [h]
  rfl

theorem usable_invalid {e : OffsetEntry} (h : e.valid = false) : e.usable = none := by
  simp [OffsetEntry.usable, h]

theorem addWant_unless (m : Meter) (l : LegId) (k : RangeId) :
    m.addWant l k =
      { m with
        wants := m.wants.set l
          (if ∃ v ∈ m.wants.get l, v.range = k then m.wants.get l
          else m.wants.get l ++ [{ range := k, scheduled := false }]) } := by
  have hwanted : (∀ v ∈ m.wants.get l, v.range ≠ k) ↔ ¬ ∃ v ∈ m.wants.get l, v.range = k := by
    push Not
    rfl
  rw [addWant_eq, if_congr hwanted rfl rfl, ite_not]

/-- The ways an announce's sample request goes: taken with the offset's code, refused for an invalid offset, which is
then wanted, and refused by a busy converter. -/
theorem announceRequest_taken {rivals : List LegId} {m : Meter} {instant o : Nat} (hready : s.bias.state = .ready)
    (hclaim : s.meter.claim instant .announce l (l :: rivals) = (m, true))
    (ho : (s.offset l (s.leg l).setup.announceRange).usable = some o) :
    s.announceRequest l a instant rivals =
      ({ m with converter := .sampling l (.announce a) (s.leg l).setup.announceRange (instant + 8) o },
        .awaited) := by
  simp [State.announceRequest, hclaim, hready, ho]

theorem announceRequest_invalid {rivals : List LegId} {m : Meter} {instant : Nat} (hready : s.bias.state = .ready)
    (hclaim : s.meter.claim instant .announce l (l :: rivals) = (m, true))
    (ho : (s.offset l (s.leg l).setup.announceRange).usable = none) :
    s.announceRequest l a instant rivals = (m.addWant l (s.leg l).setup.announceRange, .lost) := by
  simp [State.announceRequest, hclaim, hready, ho]

theorem announceRequest_refused {rivals : List LegId} {m : Meter} {instant : Nat}
    (hclaim : s.meter.claim instant .announce l (l :: rivals) = (m, false)) :
    s.announceRequest l a instant rivals = (m, .lost) := by
  simp [State.announceRequest, hclaim]

end Window

end Sys2Proof.Machine

open Sys2Proof Sys2Proof.Machine

/-- Settles O46: the light is recorded on every leg, and a delimiter is found when the scan hunts it, with its sample
request decided by the converter, the arbiter and the offset. -/
theorem announcesAreFoundInTheirWindow : Obligations.AnnouncesAreFoundInTheirWindow := by
  unfold Obligations.AnnouncesAreFoundInTheirWindow
  refine ⟨fun l a p light history rivals lit s hreset => ⟨fun hscan => ?_, fun hclosed hhistory => ?_⟩,
    fun l a p light rivals s w crowded hreset hscan hcrowded =>
      ⟨fun o hinside halone hoffset => ?taken, fun hinside halone hinvalid => ?invalid, fun hinside hbusy => ?busy,
        fun hinside => ?elsewhere, fun hinside => ?noDelimiter, ?badContent⟩⟩
  · exact exec_found_unscanned hreset hscan
  · have hclosing : (s.leg l).receiver.closing = none :=
      List.find?_eq_none.mpr fun c hc => by simp [hclosed c hc]
    change execCalendarClose l lit s = _
    rw [execCalendarClose, event_alive _ hreset]
    dsimp only
    rw [historyAtClose_eq hhistory, recordLight_leg]
    have hrecorded : Receiver.closing { (s.leg l).receiver with lightHistory := history } = none := hclosing
    rw [hrecorded]
    rfl
  case taken =>
    obtain ⟨hidle, hundecided, rfl, hqueued, hscheduled⟩ := halone
    have ⟨_, _, _, hready⟩ := hinside
    refine exec_found_inside hreset hscan (hunts_ready_iff.mpr hinside) ?_ (crowdedBy_eq hcrowded)
    exact announceRequest_taken hready (claim_alone l hidle hundecided hqueued hscheduled) (usable_valid hoffset)
  case invalid =>
    obtain ⟨hidle, hundecided, rfl, hqueued, hscheduled⟩ := halone
    have ⟨_, _, _, hready⟩ := hinside
    refine exec_found_inside hreset hscan (hunts_ready_iff.mpr hinside) ?_ (crowdedBy_eq hcrowded)
    rw [announceRequest_invalid hready (claim_alone l hidle hundecided hqueued hscheduled)
      (usable_invalid hinvalid), addWant_unless]
  case busy =>
    exact exec_found_inside hreset hscan (hunts_ready_iff.mpr hinside)
      (announceRequest_refused (claim_busy hbusy _ _ _ _)) (crowdedBy_eq hcrowded)
  case elsewhere =>
    exact exec_found_outside hreset hscan (mt hunts_ready_iff.mp hinside)
  case noDelimiter =>
    change execGarbled l (.noDelimiter a) s = _
    rw [execGarbled, event_alive _ hreset, hscan]
    dsimp only
    rw [if_pos (hunts_ready_iff.mpr hinside), mapLeg_mapScan_arbitrate hscan]
  case badContent =>
    change execGarbled l (.badContent a) s = _
    rw [execGarbled, event_alive _ hreset, hscan]
    dsimp only
    rw [mapLeg_mapScan_arbitrate hscan]
end

section
/-! SUPPORT. The judgement of an announce: its content, its reach, its vector and the screen (R22, R23, R57, R63 to
R69). -/

namespace Sys2Proof.Machine

/-! ## The content (R63, R179) -/

theorem append_bytes (x : BitVec 32) :
    x.extractLsb' 24 8 ++ x.extractLsb' 16 8 ++ x.extractLsb' 8 8 ++ x.extractLsb' 0 8 = x := by
  have hjoin (start len : Nat) :
      x.extractLsb' (start + 8) len ++ x.extractLsb' start 8 = x.extractLsb' start (len + 8) :=
    BitVec.extractLsb'_append_extractLsb'_eq_extractLsb' rfl
  rw [hjoin 16 8, hjoin 8 16, hjoin 0 24]
  exact BitVec.extractLsb'_eq_self

/-- The content of an announce reads back when its CRC matches. -/
theorem readAnnounce_body (tag : FactoryTag) (h step c1 c0 : Byte) :
    readAnnounce (announceBody tag h step ++ [c1, c0]) =
      if [c1, c0] = crcBytes (announceBody tag h step) then
        some { tag := tag, holdoff := h.toNat, launch := launchOf step }
      else none := by
  have htag : tagOf (tag.maker.extractLsb' 24 8) (tag.maker.extractLsb' 16 8) (tag.maker.extractLsb' 8 8)
      (tag.maker.extractLsb' 0 8) (tag.unit.extractLsb' 24 8) (tag.unit.extractLsb' 16 8) (tag.unit.extractLsb' 8 8)
      (tag.unit.extractLsb' 0 8) = tag := by
    rw [tagOf, append_bytes, append_bytes]
  simp only [announceBody, tagBytes, List.cons_append, List.nil_append, readAnnounce, htag, eq_comm (a := [c1, c0])]

/-! ## The screen and the queue (R67 to R69) -/

theorem attrPasses_iff {masked wanted recorded : Bool} :
    attrPasses masked wanted recorded = true ↔ (masked = true → recorded = wanted) := by
  cases masked <;> simp [attrPasses]

theorem screenPasses_iff {mask wanted v : AttrSet} : screenPasses mask wanted v = true ↔ Screened mask wanted v := by
  simp only [screenPasses, Screened, Bool.and_eq_true, attrPasses_iff, and_assoc]

/-- An announce joins the queue behind those at its position or before it. -/
theorem insertAnnounce_between {x : Announce} {before after : List Announce} (hbefore : ∀ b ∈ before, b.a ≤ x.a)
    (hafter : ∀ b ∈ after, x.a < b.a) : insertAnnounce x (before ++ after) = before ++ x :: after := by
  induction before with
  | nil =>
    cases after with
    | nil => rfl
    | cons b rest => exact if_neg (Nat.not_le.mpr (hafter b List.mem_cons_self))
  | cons b rest ih =>
    rw [List.forall_mem_cons] at hbefore
    obtain ⟨hb, hrest⟩ := hbefore
    exact (if_pos hb).trans (congrArg (List.cons b) (ih hrest))

/-- What an announce's sample gives: the power and the level attributes of a returned one, and none of a lost or an
abandoned one. -/
def Sampled (sample : AnnounceSample) (power : Option Int) (levels : LevelAttrs) : Prop :=
  (sample = .lost ∨ sample = .abandoned) ∧ power = none ∧ levels = LevelAttrs.mk false false false false ∨
    ∃ n, sample = .returned n levels ∧ power = some n

theorem Sampled.power_eq {sample : AnnounceSample} {power : Option Int} {levels : LevelAttrs}
    (h : Sampled sample power levels) : sample.power = power := by
  rcases h with ⟨rfl | rfl, rfl, -⟩ | ⟨n, rfl, rfl⟩ <;> rfl

theorem Sampled.vector_eq {sample : AnnounceSample} {power : Option Int} {levels : LevelAttrs}
    (h : Sampled sample power levels) (outOfBand crowded : Bool) :
    verdictVector outOfBand crowded sample.levels =
      { outOfBand := outOfBand, unsampled := power.isNone, overRange := levels.overRange,
        underRange := levels.underRange, weak := levels.weak, strong := levels.strong, crowded := crowded } := by
  rcases h with ⟨rfl | rfl, rfl, rfl⟩ | ⟨n, rfl, rfl⟩ <;> rfl

/-! ## The judgement (R22, R23, R57, R67) -/

section Judge

variable {s : State} {l : LegId} {w : WindowScan} {f : AnnounceInHand} {content : List Byte} {c : AnnounceContent}

/-- The round trip that an announce's delimiter tells (R22). -/
def State.tripOf (s : State) (l : LegId) (f : AnnounceInHand) (holdoff : Nat) : Int :=
  roundTrip f.a (s.leg l).derived.am holdoff (s.leg l).setup.trim f.p.val

theorem judge_garbled (h : readAnnounce content = none) : s.judge l w f content = .discarded := by
  simp [State.judge, h]

/-- An announce that arrived outside the reach of its leg. -/
theorem judge_outside (h : readAnnounce content = some c)
    (hr : s.tripOf l f c.holdoff < 0 ∨ (s.leg l).derived.z < s.tripOf l f c.holdoff) :
    s.judge l w f content = .discarded := by
  rw [State.tripOf] at hr
  rw [State.judge, h]
  dsimp only
  unfold reachClass
  by_cases hneg : roundTrip f.a (s.leg l).derived.am c.holdoff (s.leg l).setup.trim f.p.val < 0
  · rw [if_pos hneg]
  · rw [if_neg hneg, if_pos (hr.resolve_left hneg)]

/-- An announce within the reach of its leg waits for its sample, is dropped, or carries its vector. -/
theorem judge_inside (h : readAnnounce content = some c) (hlow : 0 ≤ s.tripOf l f c.holdoff)
    (hhigh : s.tripOf l f c.holdoff ≤ (s.leg l).derived.z) :
    s.judge l w f content =
      if f.sample = .awaited then .notYet
      else if s.judgedReady w f then
        .judged
          { cycle := w.cycle, tag := c.tag, holdoff := c.holdoff, launch := c.launch, a := f.a, p := f.p,
            r := (s.tripOf l f c.holdoff).toNat, power := f.sample.power,
            vector := verdictVector
              (decide (s.tripOf l f c.holdoff < 2500 * (s.leg l).setup.near ∨
                2500 * (s.leg l).setup.far < s.tripOf l f c.holdoff)) f.crowded f.sample.levels }
      else .discarded := by
  rw [State.judge, h]
  dsimp only
  rw [← State.tripOf]
  unfold reachClass
  rw [if_neg (Int.not_lt.mpr hlow), if_neg (Int.not_lt.mpr hhigh)]
  by_cases hband : s.tripOf l f c.holdoff < 2500 * (s.leg l).setup.near ∨
      2500 * (s.leg l).setup.far < s.tripOf l f c.holdoff
  · simp [hband]
  · simp [hband]

theorem judgedReady_iff : s.judgedReady w f = true ↔
    f.sample = .abandoned ∧ f.ended = true ∨
      f.sample ≠ .abandoned ∧ s.bias.state = .ready ∧ s.bias.readySince ≤ w.marker + f.a - 48 := by
  by_cases h : f.sample = .abandoned
  · simp [State.judgedReady, h]
  · simp [State.judgedReady, h, State.readyThrough]

/-! ## ANNOUNCE_JUDGEMENT_COMPLETE (R67) -/

/-- The state in which the announce at `a` has left the scan of leg `l`. -/
def State.withoutAnnounce (s : State) (l : LegId) (a : Nat) : State :=
  s.mapLeg l fun x => x.mapScan fun w => { w with found := w.found.filter fun f => decide (f.a ≠ a) }

theorem exec_judged (hreset : s.inReset = none) (hscan : (s.leg l).receiver.scan = some w)
    (hfound : w.found.find? (fun g => decide (g.a = f.a)) = some f) :
    (s.judge l w f content = .notYet → exec (.announceJudgementComplete l f.a content) s =
      .next (s.mapLeg l fun x => x.mapScan fun w => w.contentEnded f.a).arbitrate) ∧
    (s.judge l w f content = .discarded → exec (.announceJudgementComplete l f.a content) s =
      .next (s.withoutAnnounce l f.a).arbitrate) ∧
    (∀ x, s.judge l w f content = .judged x → exec (.announceJudgementComplete l f.a content) s =
      .next ((s.withoutAnnounce l f.a).screen l x).arbitrate) := by
  change (_ → execAnnounceJudgementComplete l f.a content s = _) ∧
    (_ → execAnnounceJudgementComplete l f.a content s = _) ∧
    ∀ x, _ → execAnnounceJudgementComplete l f.a content s = _
  rw [execAnnounceJudgementComplete, event_alive _ hreset, hscan]
  dsimp only
  rw [hfound]
  dsimp only
  refine ⟨fun h => ?_, fun h => ?_, fun x h => ?_⟩
  · rw [h]
  · rw [h, State.withoutAnnounce]
  · rw [h, State.withoutAnnounce]

/-- The state in which an announce has been judged: it has left the scan, and roster and announce queue are as given. -/
def State.announced (s : State) (l : LegId) (w : WindowScan) (a : Nat) (roster : List (Option RosterEntry))
    (announces : List Announce) : State :=
  { s with
    roster := roster,
    legs := s.legs.set l
      { s.leg l with
        receiver :=
          { (s.leg l).receiver with
            scan := some { w with found := w.found.filter fun g => decide (g.a ≠ a) }, announces := announces } } }

theorem withoutAnnounce_eq (hscan : (s.leg l).receiver.scan = some w) (a : Nat) :
    s.withoutAnnounce l a = s.announced l w a s.roster (s.leg l).receiver.announces := by
  rw [State.withoutAnnounce, State.mapLeg, mapScan_some hscan]
  rfl

section Announced

variable {a : Nat} {roster : List (Option RosterEntry)} {announces : List Announce} {x : Announce}

theorem announced_leg :
    (s.announced l w a roster announces).leg l =
      { s.leg l with
        receiver :=
          { (s.leg l).receiver with
            scan := some { w with found := w.found.filter fun g => decide (g.a ≠ a) }, announces := announces } } :=
  Four.get_set_same _ _ _

/-- An announce that passes the screen joins the queue when there is room (R68, R69). -/
theorem announced_screen_passes
    (hpasses : Screened (s.leg l).setup.mask (s.leg l).setup.matchSet x.vector) :
    (s.announced l w a roster announces).screen l x =
      if announces.length < 8 then s.announced l w a roster (insertAnnounce x announces)
      else s.announced l w a roster announces := by
  rw [State.screen, announced_leg]
  dsimp only
  rw [if_pos (screenPasses_iff.mpr hpasses)]
  refine if_congr Iff.rfl ?_ rfl
  rw [State.mapLeg, announced_leg]
  simp [State.announced, State.setLeg, Leg.mapReceiver]

/-- An announce that does not pass the screen is only noted as heard (R68). -/
theorem announced_screen_fails
    (hfails : ¬ Screened (s.leg l).setup.mask (s.leg l).setup.matchSet x.vector) :
    (s.announced l w a s.roster announces).screen l x =
      s.announced l w a (s.heard x.tag l x.cycle).roster announces := by
  rw [State.screen, announced_leg]
  dsimp only
  rw [if_neg (mt screenPasses_iff.mp hfails)]
  unfold State.heard
  have hentry : (s.announced l w a s.roster announces).rosterEntry x.tag = s.rosterEntry x.tag := rfl
  rw [hentry]
  cases s.rosterEntry x.tag <;> rfl

end Announced

end Judge

end Sys2Proof.Machine

open Sys2Proof Sys2Proof.Machine

/-- Settles O47: the announce's content and reach, then its sample and the bias, and then the screen. -/
theorem announcesAreJudged : Obligations.AnnouncesAreJudged := by
  unfold Obligations.AnnouncesAreJudged
  intro l tag h step c1 c0 s w f r hreset hscan hfound hr x command becomes
  obtain ⟨hwaits, hdropped, hjudged⟩ := exec_judged (content := announceBody tag h step ++ [c1, c0]) hreset hscan hfound
  rw [withoutAnnounce_eq hscan] at hdropped hjudged
  have hread := readAnnounce_body tag h step c1 c0
  refine ⟨fun hbad => hdropped (judge_garbled (hread.trans (if_neg hbad))), fun hgood => ?_⟩
  rw [if_pos hgood] at hread
  have htrip : s.tripOf l f h.toNat = r := hr.symm
  refine ⟨fun houtside => hdropped (judge_outside hread (htrip.symm ▸ houtside)), fun hlow hhigh => ?_⟩
  have hinside := judge_inside (w := w) hread (htrip.symm ▸ hlow) (htrip.symm ▸ hhigh)
  rw [htrip] at hinside
  have hunready (ha : f.sample ≠ .awaited) (hn : ¬ s.judgedReady w f = true) :
      becomes s.roster x.receiver.announces :=
    hdropped (hinside.trans ((if_neg ha).trans (if_neg hn)))
  refine ⟨fun ha => ?waits, fun ha he => ?abandoned, fun ha hb hbias hmarker => ?dark,
    fun hlook v power levels hsampled hv => ?judged⟩
  case waits =>
    rw [if_pos ha] at hinside
    refine (hwaits hinside).trans ?_
    rw [mapLeg_mapScan_arbitrate hscan]
    rfl
  case abandoned =>
    refine hunready (by simp [ha]) fun h => ?_
    simp [judgedReady_iff, ha, he] at h
  case dark =>
    refine hunready ha fun h => ?_
    obtain ⟨hb', -⟩ | ⟨-, hready, hsince⟩ := judgedReady_iff.mp h
    · exact hb hb'
    · rcases hbias with hbias | hbias
      · exact hbias hready
      · omega
  case judged =>
    have ha : f.sample ≠ .awaited := by
      rcases hlook with ⟨ha, -⟩ | ⟨ha, -⟩
      · simp [ha]
      · exact ha
    have hready : s.judgedReady w f = true := by
      rw [judgedReady_iff]
      rcases hlook with h | ⟨-, hb, hready, hsince⟩
      · exact .inl h
      · exact .inr ⟨hb, hready, by omega⟩
    have hsampled : Sampled f.sample power levels := hsampled
    rw [if_neg ha, if_pos hready, hsampled.power_eq, hsampled.vector_eq, ← hv] at hinside
    have hscreened := hjudged _ hinside
    refine ⟨fun hpasses hroom before after hqueue hbefore hafter => ?_, fun hpasses hfull => ?_,
      fun hfails => ⟨fun hnone => ?_, fun i e he => ?_⟩⟩
    · rw [announced_screen_passes hpasses, if_pos hroom, hqueue, insertAnnounce_between hbefore hafter] at hscreened
      exact hscreened
    · rw [announced_screen_passes hpasses, if_neg (Nat.not_lt.mpr hfull)] at hscreened
      exact hscreened
    · rw [announced_screen_fails hfails, State.heard, hnone] at hscreened
      exact hscreened
    · rw [announced_screen_fails hfails, State.heard, he] at hscreened
      exact hscreened
end

section
/-! SUPPORT. The meeting of two directives for one drop in a directive queue, and the Park of a tag (R48, R49, R50). -/

namespace Sys2Proof.Machine

/-- A directive for a drop that has no entry is queued at the tail (R49). -/
theorem enqueue_absent {d : Nat} {q : List QueueEntry} (h : ∀ e ∈ q, e.dir.drop? ≠ some d) (new : Directive)
    (ident : Option Identity) : enqueue d new ident q = q ++ [⟨new, ident, FollowOn.empty⟩] := by
  induction q with
  | nil => rfl
  | cons e es ih =>
    rw [enqueue, if_neg (h e List.mem_cons_self), ih fun e he => h e (List.mem_cons_of_mem _ he)]
    rfl

/-- A directive for a drop that has an entry meets it in the entry's own position (R49). -/
theorem enqueue_present {d : Nat} {before : List QueueEntry} (hbefore : ∀ b ∈ before, b.dir.drop? ≠ some d)
    {e : QueueEntry} (he : e.dir.drop? = some d) (after : List QueueEntry) (new : Directive) (ident : Option Identity) :
    enqueue d new ident (before ++ e :: after) = before ++ e.meet new ident :: after := by
  induction before with
  | nil => simp only [List.nil_append, enqueue, if_pos he]
  | cons b bs ih =>
    rw [List.cons_append, enqueue, if_neg (hbefore b List.mem_cons_self),
      ih fun b hb => hbefore b (List.mem_cons_of_mem _ hb)]
    rfl

/-! ## The table of R50, row by row -/

section Meet

variable {e : QueueEntry} {new : Directive} {d : Nat} (ident : Option Identity)

/-- An Enrol or a Release replaces what it meets, with an empty set. -/
theorem meet_enrol_or_release (h : isEnrol new = true ∨ new = .release d) :
    e.meet new ident = ⟨new, ident, FollowOn.empty⟩ := by
  rcases h with h | rfl
  · cases new with
    | enrol => cases e.dir <;> simp [QueueEntry.meet, QueueEntry.replace, FollowOn.without]
    | _ => cases h
  · cases e.dir <;> simp [QueueEntry.meet, QueueEntry.replace, FollowOn.without]

/-- A queued Enrol takes the value of an Offset or a Launch, and keeps a Silence in its set until a Resume. -/
theorem meet_of_enrol {tag : FactoryTag} {E : Nat} {launch : LaunchStep} (h : e.dir = .enrol tag d E launch) :
    (∀ E', new = .offset d E' → e.meet new ident = { e with dir := .enrol tag d E' launch }) ∧
    (∀ launch', new = .launch d launch' → e.meet new ident = { e with dir := .enrol tag d E launch' }) ∧
    (new = .silence d → e.meet new ident = { e with follow := { e.follow with silence := true } }) ∧
    (new = .resume d → e.meet new ident = { e with follow := { e.follow with silence := false } }) := by
  obtain ⟨dir, i, set⟩ := e
  obtain rfl : dir = .enrol tag d E launch := h
  refine ⟨?_, ?_, ?_, ?_⟩
  · rintro E' rfl; rfl
  · rintro launch' rfl; rfl
  · rintro rfl; rfl
  · rintro rfl; rfl

/-- What meets a queued Offset replaces it: an Offset alone leaves it out of the set. -/
theorem meet_of_isOffset (h : isOffset e.dir = true) :
    (isOffset new = true → e.meet new ident = ⟨new, ident, { e.follow with offset := false }⟩) ∧
    (isLaunch new = true → e.meet new ident = ⟨new, ident, { e.follow with offset := true, launch := false }⟩) ∧
    (new = .silence d → e.meet new ident = ⟨new, ident, { e.follow with offset := true, silence := false }⟩) ∧
    (new = .resume d → e.meet new ident = ⟨new, ident, { e.follow with offset := true }⟩) := by
  obtain ⟨dir, i, set⟩ := e
  cases dir with
  | offset =>
    cases new <;>
      simp [QueueEntry.meet, QueueEntry.replace, FollowOn.without, FollowOn.join, isOffset, isLaunch]
  | _ => cases h

/-- What meets a queued Launch replaces it: a Launch alone leaves it out of the set. -/
theorem meet_of_isLaunch (h : isLaunch e.dir = true) :
    (isOffset new = true → e.meet new ident = ⟨new, ident, { e.follow with offset := false, launch := true }⟩) ∧
    (isLaunch new = true → e.meet new ident = ⟨new, ident, { e.follow with launch := false }⟩) ∧
    (new = .silence d → e.meet new ident = ⟨new, ident, { e.follow with launch := true, silence := false }⟩) ∧
    (new = .resume d → e.meet new ident = ⟨new, ident, { e.follow with launch := true }⟩) := by
  obtain ⟨dir, i, set⟩ := e
  cases dir with
  | launch =>
    cases new <;>
      simp [QueueEntry.meet, QueueEntry.replace, FollowOn.without, FollowOn.join, isOffset, isLaunch]
  | _ => cases h

/-- A queued Silence or Resume stays before an Offset or a Launch, which joins its set, and is replaced by another. -/
theorem meet_silence_or_resume (h : e.dir = .silence d ∨ e.dir = .resume d) :
    (isOffset new = true → e.meet new ident = { e with follow := { e.follow with offset := true } }) ∧
    (isLaunch new = true → e.meet new ident = { e with follow := { e.follow with launch := true } }) ∧
    (new = .silence d → e.meet new ident = ⟨new, ident, { e.follow with silence := false }⟩) ∧
    (new = .resume d → e.meet new ident = ⟨new, ident, e.follow⟩) := by
  obtain ⟨dir, i, set⟩ := e
  rcases h with rfl | rfl <;> cases new <;>
    simp [QueueEntry.meet, QueueEntry.replace, FollowOn.without, FollowOn.join, isOffset, isLaunch]

/-- A queued Release stays as it is before all but an Enrol and a Release. -/
theorem meet_release (h : e.dir = .release d)
    (hnew : isOffset new = true ∨ isLaunch new = true ∨ new = .silence d ∨ new = .resume d) :
    e.meet new ident = e := by
  obtain ⟨dir, i, set⟩ := e
  obtain rfl : dir = .release d := h
  cases new with
  | enrol | release => simp [isOffset, isLaunch] at hnew
  | _ => rfl

end Meet

/-! ## The Parks (R48, R49) -/

theorem Leg.park_held {x : Leg} {tag : FactoryTag} (h : ∃ q ∈ x.queue, q.dir = .park tag) : x.park tag = x := by
  rw [Leg.park, if_pos (by simpa using h)]

/-- A tag that has no Park gets one at the tail while fewer than 16 are held. -/
theorem Leg.park_new {x : Leg} {tag : FactoryTag} (h : ∀ q ∈ x.queue, q.dir ≠ .park tag) :
    x.park tag =
      if parkCount x.queue < 16 then { x with queue := x.queue ++ [⟨.park tag, none, FollowOn.empty⟩] } else x := by
  rw [Leg.park, if_neg (by simpa using h)]
  rfl

end Sys2Proof.Machine

open Sys2Proof Sys2Proof.Machine

/-- Settles O54: where the directive comes to stand, and then the table row by row. -/
theorem directivesMeetByTheirTable : Obligations.DirectivesMeetByTheirTable := by
  unfold Obligations.DirectivesMeetByTheirTable
  refine ⟨fun d new ident q h => enqueue_absent h new ident, fun d new ident before after e hbefore he hnew => ?_,
    fun x tag => ⟨Leg.park_held, fun h hroom => ?_, fun h hfull => ?_⟩⟩
  · intro becomes set
    have met {e' : QueueEntry} (h : e.meet new ident = e') : becomes e' :=
      h ▸ enqueue_present hbefore he after new ident
    refine ⟨fun h => met (meet_enrol_or_release ident h), fun tag E launch hd => ?enrol, fun h => ?offset, fun h => ?launch,
      fun h => ?silence, fun h hnew => met (meet_release ident h hnew)⟩
    case enrol =>
      obtain ⟨ho, hl, hs, hr⟩ := meet_of_enrol (new := new) ident hd
      exact ⟨fun E' h => met (ho E' h), fun launch' h => met (hl launch' h), met ∘ hs, met ∘ hr⟩
    case offset =>
      obtain ⟨ho, hl, hs, hr⟩ := meet_of_isOffset (new := new) (d := d) ident h
      exact ⟨met ∘ ho, met ∘ hl, met ∘ hs, met ∘ hr⟩
    case launch =>
      obtain ⟨ho, hl, hs, hr⟩ := meet_of_isLaunch (new := new) (d := d) ident h
      exact ⟨met ∘ ho, met ∘ hl, met ∘ hs, met ∘ hr⟩
    case silence =>
      obtain ⟨ho, hl, hs, hr⟩ := meet_silence_or_resume (new := new) ident h
      exact ⟨met ∘ ho, met ∘ hl, met ∘ hs, met ∘ hr⟩
  · rw [Leg.park_new h, if_pos hroom]
    rfl
  · rw [Leg.park_new h, if_neg (Nat.not_lt.mpr hfull)]
end

section
/-! SUPPORT. The statement about LEG-READ (R55, R155). -/

open Sys2Proof Sys2Proof.Machine

/-- Settles O12: the request is refused for a number that is no leg's, and else answered with the leg's values. -/
theorem legReadReportsALeg : Obligations.LegReadReportsALeg := by
  unfold Obligations.LegReadReportsALeg
  intro tag b s htakes
  have hparse : parseByte [b] = some b.toNat := rfl
  refine ⟨fun hnone => ?_, fun l x hl hx => ?_⟩
  · have hanswer (u : State) : answerLegRead [b] u = refuse .outOfRange u := by
      rw [answerLegRead, parsed_some _ _ hparse, withLeg_none hnone]
    have h := event_request_answered tag 0x14#8 (answerLegRead [b]) htakes (by rw [hanswer]; rfl)
    rw [hanswer] at h
    exact h
  · have hanswer (u : State) : answerLegRead [b] u = done u (u.leg l).values := by
      rw [answerLegRead, parsed_some _ _ hparse, withLeg_some hl]
    have h := event_request_answered tag 0x14#8 (answerLegRead [b]) htakes (by rw [hanswer]; rfl)
    rw [hanswer, State.took_leg, ← hx] at h
    unfold Leg.values legStateBytes at h
    clear hx
    -- a group is present or absent as a whole: each case reads the same on both sides
    obtain ⟨_, _, _, _, _, _, _, _, hold, run, _, _, _, calendar⟩ := x
    cases hold <;> cases run <;> cases calendar <;> exact h
end

section
/-! SUPPORT. The bounds of a directive queue (R48 to R51), and what one leg holds of the agreement of roster, records and
queues: its drop table, the places of its records and its queue. -/

namespace Sys2Proof.Machine

/-! ## What the bounds of a queue read of an entry -/

/-- The drop that an entry is addressed to, the drop of its identity, and the tag of a Park. -/
abbrev QueueKey := Option Nat × Option Nat × Option FactoryTag

def QueueEntry.key (q : QueueEntry) : QueueKey := (q.dir.drop?, q.ident.map Identity.drop, q.dir.parked?)

/-- The bounds of R48 on the keys of a queue. -/
structure KeysSound (ks : List QueueKey) : Prop where
  numbered : ∀ k ∈ ks, k.1 = k.2.1
  range : ∀ k ∈ ks, ∀ d, k.1 = some d → d < Config.dropsPerLeg
  drops : (ks.filterMap Prod.fst).Nodup
  tags : (ks.filterMap fun k => k.2.2).Nodup
  parks : (ks.filterMap fun k => k.2.2).length ≤ Config.maxParks

theorem Directive.isPark_eq (dir : Directive) : dir.isPark = dir.parked?.isSome := by cases dir <;> rfl

theorem parkCount_eq (q : List QueueEntry) : parkCount q = (q.filterMap fun e => e.dir.parked?).length := by
  rw [parkCount, ← List.countP_eq_length_filter, List.length_filterMap_eq_countP]
  exact congrArg (List.countP · q) (funext fun e => e.dir.isPark_eq)

/-- A directive that is no Release ALL is addressed to a drop or parks a tag. -/
theorem length_filter_ne_releaseAll (q : List QueueEntry) :
    (q.filter fun e => decide (e.dir ≠ .releaseAll)).length =
      (q.filterMap fun e => e.dir.drop?).length + (q.filterMap fun e => e.dir.parked?).length := by
  induction q with
  | nil => rfl
  | cons e es ih =>
    obtain ⟨dir, ident, follow⟩ := e
    cases dir <;> simp [Directive.drop?, Directive.parked?] at ih ⊢ <;> omega

/-- The bound of 80 directives follows from the others. -/
theorem Leg.queueSound_iff (x : Leg) : x.QueueSound ↔ KeysSound (x.queue.map QueueEntry.key) := by
  have hdrops : (x.queue.map QueueEntry.key).filterMap Prod.fst = x.queue.filterMap fun q => q.dir.drop? := by
    rw [List.filterMap_map]; rfl
  have htags : ((x.queue.map QueueEntry.key).filterMap fun k => k.2.2) = x.queue.filterMap fun q => q.dir.parked? := by
    rw [List.filterMap_map]; rfl
  constructor
  · intro h
    refine ⟨?_, ?_, hdrops ▸ h.drops, htags ▸ h.tags, ?_⟩
    · rintro k hk
      obtain ⟨q, hq, rfl⟩ := List.mem_map.mp hk
      exact h.numbered q hq
    · rintro k hk
      obtain ⟨q, hq, rfl⟩ := List.mem_map.mp hk
      exact h.range q hq
    · rw [htags, ← parkCount_eq]
      exact h.parks
  · intro h
    have hrange : ∀ q ∈ x.queue, ∀ d, q.dir.drop? = some d → d < Config.dropsPerLeg := fun q hq =>
      h.range q.key (List.mem_map_of_mem hq)
    have hnodup := h.drops
    have htagsNodup := h.tags
    have hparks := h.parks
    rw [hdrops] at hnodup
    rw [htags] at htagsNodup hparks
    refine ⟨fun q hq => h.numbered q.key (List.mem_map_of_mem hq), hrange, hnodup, htagsNodup, ?_, ?_⟩
    · rw [parkCount_eq]
      exact hparks
    · have hsub : (x.queue.filterMap fun q => q.dir.drop?) ⊆ List.range Config.dropsPerLeg := fun d hd => by
        obtain ⟨q, hq, hqd⟩ := List.mem_filterMap.mp hd
        exact List.mem_range.mpr (hrange q hq d hqd)
      have hle := (List.subperm_of_subset hnodup hsub).length_le
      rw [List.length_range] at hle
      rw [length_filter_ne_releaseAll]
      omega

theorem keysSound_nil : KeysSound [] := ⟨by simp, by simp, by simp, by simp, by simp⟩

/-- A queue that loses entries, and may order the others anew, keeps its bounds. -/
theorem KeysSound.subperm {ks ks' : List QueueKey} (h : KeysSound ks) (hsub : ks'.Subperm ks) : KeysSound ks' := by
  have hmem := hsub.subset
  obtain ⟨kept, hperm, hsublist⟩ := hsub
  have hdrops := (hperm.filterMap Prod.fst).nodup_iff
  have htags := hperm.filterMap fun k : QueueKey => k.2.2
  have hkept := hsublist.filterMap fun k : QueueKey => k.2.2
  refine ⟨fun k hk => h.numbered k (hmem hk), fun k hk => h.range k (hmem hk), ?_, ?_, ?_⟩
  · exact hdrops.mp (h.drops.sublist (hsublist.filterMap _))
  · exact htags.nodup_iff.mp (h.tags.sublist hkept)
  · exact htags.length_eq ▸ hkept.length_le.trans h.parks

theorem keysSound_append {ks : List QueueKey} {k : QueueKey} (h : KeysSound ks) (hnumbered : k.1 = k.2.1)
    (hrange : ∀ d, k.1 = some d → d < Config.dropsPerLeg ∧ some d ∉ ks.map Prod.fst)
    (hpark : ∀ tag, k.2.2 = some tag →
      some tag ∉ ks.map (fun k => k.2.2) ∧ (ks.filterMap fun k => k.2.2).length < Config.maxParks) :
    KeysSound (ks ++ [k]) := by
  obtain ⟨d, i, tag⟩ := k
  refine ⟨?_, ?_, ?_, ?_, ?_⟩
  · simp only [List.mem_append, List.mem_singleton]
    rintro k (hk | rfl)
    · exact h.numbered k hk
    · exact hnumbered
  · simp only [List.mem_append, List.mem_singleton]
    rintro k (hk | rfl)
    · exact h.range k hk
    · exact fun d hd => (hrange d hd).1
  · cases d with
    | none => simpa using h.drops
    | some d =>
      have hnew : d ∉ ks.filterMap Prod.fst := by simpa using (hrange d rfl).2
      rw [List.filterMap_append]
      exact h.drops.append (List.nodup_singleton d) (List.disjoint_singleton.mpr hnew)
  · cases tag with
    | none => simpa using h.tags
    | some tag =>
      have hnew : tag ∉ ks.filterMap fun k => k.2.2 := by simpa using (hpark tag rfl).1
      rw [List.filterMap_append]
      exact h.tags.append (List.nodup_singleton tag) (List.disjoint_singleton.mpr hnew)
  · cases tag with
    | none => simpa using h.parks
    | some tag =>
      have := (hpark tag rfl).2
      simp
      omega

/-! ## A directive queued, a Park, and what leaves -/

/-- A directive that is addressed to a drop parks no tag. -/
theorem Directive.parked?_of_drop? {dir : Directive} {d : Nat} (h : dir.drop? = some d) : dir.parked? = none := by
  cases dir <;> simp [Directive.drop?, Directive.parked?] at h ⊢

/-- The key of an entry for a drop that carries an identity of that drop. -/
theorem key_of_drop {e : QueueEntry} {d : Nat} (h : e.dir.drop? = some d) (hi : e.ident.map Identity.drop = some d) :
    e.key = (some d, some d, none) := by
  rw [QueueEntry.key, h, hi, Directive.parked?_of_drop? h]

/-- An entry that a directive for its drop meets stays an entry of that drop, for its own identity or the new one. -/
theorem meet_addressed {e : QueueEntry} {new : Directive} {d : Nat} (he : e.dir.drop? = some d)
    (hnew : new.drop? = some d) (ident : Option Identity) :
    (e.meet new ident).dir.drop? = some d ∧
      ((e.meet new ident).ident = e.ident ∨ (e.meet new ident).ident = ident) := by
  obtain ⟨dir, i, follow⟩ := e
  cases dir <;> cases new <;>
    simp_all [QueueEntry.meet, QueueEntry.replace, Directive.drop?]

theorem meet_key {e : QueueEntry} {new : Directive} {ident : Option Identity} {d : Nat} (he : e.dir.drop? = some d)
    (hei : e.ident.map Identity.drop = some d) (hnew : new.drop? = some d) (hi : ident.map Identity.drop = some d) :
    (e.meet new ident).key = e.key := by
  obtain ⟨hdrop, hident⟩ := meet_addressed he hnew ident
  have hmet : (e.meet new ident).ident.map Identity.drop = some d := by
    rcases hident with h | h <;> rw [h]
    · exact hei
    · exact hi
  rw [key_of_drop hdrop hmet, key_of_drop he hei]

/-- A queue has an entry for a drop at one place, or at none. -/
theorem split_at_drop (q : List QueueEntry) (d : Nat) :
    (∀ e ∈ q, e.dir.drop? ≠ some d) ∨
      ∃ before e after, q = before ++ e :: after ∧ (∀ b ∈ before, b.dir.drop? ≠ some d) ∧ e.dir.drop? = some d := by
  induction q with
  | nil => exact .inl (by simp)
  | cons e es ih =>
    by_cases he : e.dir.drop? = some d
    · exact .inr ⟨[], e, es, rfl, by simp, he⟩
    · rcases ih with h | ⟨before, e', after, rfl, hbefore, he'⟩
      · exact .inl (by simpa [he] using h)
      · exact .inr ⟨e :: before, e', after, rfl, by simpa [he] using hbefore, he'⟩

theorem keysSound_enqueue {q : List QueueEntry} (h : KeysSound (q.map QueueEntry.key)) {new : Directive}
    {ident : Identity} (hnew : new.drop? = some ident.drop) (hlt : ident.drop < Config.dropsPerLeg) :
    KeysSound ((enqueue ident.drop new (some ident) q).map QueueEntry.key) := by
  rcases split_at_drop q ident.drop with habsent | ⟨before, e, after, rfl, hbefore, he⟩
  · rw [enqueue_absent habsent, List.map_append]
    have hpark := Directive.parked?_of_drop? hnew
    refine keysSound_append h hnew (fun d hd => ?_) fun tag htag => ?_
    · obtain rfl : ident.drop = d := Option.some.inj (hnew.symm.trans hd)
      refine ⟨hlt, fun hmem => ?_⟩
      simp only [List.map_map, List.mem_map] at hmem
      obtain ⟨e, he, hed⟩ := hmem
      exact habsent e he hed
    · cases hpark.symm.trans htag
  · have hei : e.ident.map Identity.drop = some ident.drop :=
      (h.numbered e.key (List.mem_map_of_mem (by simp))).symm.trans he
    rw [enqueue_present hbefore he, List.map_append, List.map_cons, meet_key he hei hnew rfl]
    simpa using h

theorem Leg.queueSound_park {x : Leg} (h : x.QueueSound) (tag : FactoryTag) : (x.park tag).QueueSound := by
  by_cases hheld : ∃ q ∈ x.queue, q.dir = .park tag
  · rw [Leg.park_held hheld]
    exact h
  · have hnew : ∀ q ∈ x.queue, q.dir ≠ .park tag := fun q hq hd => hheld ⟨q, hq, hd⟩
    rw [Leg.park_new hnew]
    split
    · next hroom =>
      rw [Leg.queueSound_iff] at h ⊢
      rw [List.map_append]
      refine keysSound_append h rfl (fun d hd => by cases hd) fun t ht => ?_
      obtain rfl : tag = t := Option.some.inj ht
      refine ⟨fun hmem => ?_, ?_⟩
      · simp only [List.map_map, List.mem_map] at hmem
        obtain ⟨q, hq, hqt⟩ := hmem
        refine hnew q hq ?_
        have hpark : q.dir.parked? = some tag := hqt
        revert hpark
        cases q.dir <;> simp [Directive.parked?]
      · rw [List.filterMap_map]
        rw [parkCount_eq] at hroom
        exact hroom
    · exact h

/-- What follows an entry is an entry of the same drop (R51). -/
theorem followedBy_key {x : Leg} {q e : QueueEntry} (h : followedBy x q = some e)
    (hq : q.dir.drop? = q.ident.map Identity.drop) : e.key = q.key := by
  unfold followedBy at h
  cases hr : queuedFor x q with
  | none => simp [hr] at h
  | some r =>
    have hi := (queuedFor_eq_some.mp hr).1
    rw [hi] at hq
    rw [key_of_drop hq (by rw [hi]; rfl)]
    obtain ⟨dir, ident, ⟨offset, launch, silence⟩⟩ := q
    cases offset <;> cases launch <;> cases silence <;>
      simp [hr] at h <;> subst h <;> rfl

/-- The queue that the departures of a cycle leave keeps the bounds: what follows an entry takes its place. -/
theorem keysSound_departed {x : Leg} (h : KeysSound (x.queue.map QueueEntry.key)) :
    KeysSound ((x.queue.drop 8 ++ (leaving x).filterMap (followedBy x)).map QueueEntry.key) := by
  have hfollow : ∀ qs : List QueueEntry, (∀ q ∈ qs, q.dir.drop? = q.ident.map Identity.drop) →
      ((qs.filterMap (followedBy x)).map QueueEntry.key).Sublist (qs.map QueueEntry.key) := by
    intro qs hqs
    induction qs with
    | nil => exact .slnil
    | cons q qs ih =>
      have hrest := ih fun q hq => hqs q (List.mem_cons_of_mem _ hq)
      cases hf : followedBy x q with
      | none => simpa [hf] using hrest.cons q.key
      | some e => simpa [hf, followedBy_key hf (hqs q List.mem_cons_self)] using hrest
  have hnumbered : ∀ q ∈ leaving x, q.dir.drop? = q.ident.map Identity.drop := fun q hq =>
    h.numbered q.key (List.mem_map_of_mem (List.mem_of_mem_take hq))
  refine h.subperm ?_
  have hsub := (hfollow _ hnumbered).append_left ((x.queue.drop 8).map QueueEntry.key)
  rw [← List.map_append] at hsub
  refine hsub.subperm.trans ?_
  rw [← List.map_append]
  have hsplit : x.queue = leaving x ++ x.queue.drop 8 := (List.take_append_drop 8 x.queue).symm
  conv_rhs => rw [hsplit]
  exact ((List.perm_append_comm).map _).subperm

end Sys2Proof.Machine
end

section
/-! SUPPORT. The agreement of roster, drop records and Candidate List (R74, R75, R80, R87): what it reads of each, and the
steps that keep it. -/

namespace Sys2Proof.Machine

/-! ## One leg -/

/-- What one leg holds of the agreement: a drop table of 64 places, each record in its own, and a queue within its
bounds. -/
structure Leg.Ordered (x : Leg) : Prop where
  drops : x.drops.length = Config.dropsPerLeg
  inPlace : InPlace x
  queue : x.QueueSound

/-- What the agreement reads of a record. -/
def DropRecord.tie (r : DropRecord) : Identity × Nat × FactoryTag × Nat × Nat :=
  (r.ident, r.rosterIndex, r.tag, r.plot, r.share)

/-- A leg that becomes another stays in order, and the agreement reads its records as before. -/
def Leg.TiesAs (x y : Leg) : Prop :=
  x.Ordered → y.Ordered ∧ ∀ d, (y.record d).map DropRecord.tie = (x.record d).map DropRecord.tie

theorem Leg.TiesAs.refl (x : Leg) : x.TiesAs x := fun h => ⟨h, fun _ => rfl⟩

theorem tie_ident {x y : Leg} {d : Nat} (h : (y.record d).map DropRecord.tie = (x.record d).map DropRecord.tie)
    {r : DropRecord} (hr : y.record d = some r) : ∃ r', x.record d = some r' ∧ r'.tie = r.tie := by
  rw [hr, Option.map_some, eq_comm, Option.map_eq_some_iff] at h
  exact h

/-- A leg whose drop table keeps its length, whose records read as before, and whose queue keeps its bounds. -/
theorem Leg.TiesAs.intro {x y : Leg} (hdrops : y.drops.length = x.drops.length)
    (hrecords : x.Ordered → ∀ d, (y.record d).map DropRecord.tie = (x.record d).map DropRecord.tie)
    (hqueue : x.Ordered → y.QueueSound) : x.TiesAs y := fun h => by
  refine ⟨⟨hdrops.trans h.drops, fun d r hr => ?_, hqueue h⟩, hrecords h⟩
  obtain ⟨r', hr', htie⟩ := tie_ident (hrecords h d) hr
  have hident : r'.ident = r.ident := congrArg Prod.fst htie
  exact hident ▸ h.inPlace d r' hr'

/-- A change of a leg that leaves its drop table and its queue. -/
theorem Leg.TiesAs.of_same {x y : Leg} (hdrops : y.drops = x.drops) (hqueue : y.queue = x.queue) : x.TiesAs y :=
  .intro (by rw [hdrops]) (fun _ d => by simp only [Leg.record, hdrops])
    fun h => (Leg.queueSound_iff y).mpr (hqueue ▸ (Leg.queueSound_iff x).mp h.queue)

/-- A change of a leg's queue alone. -/
theorem Leg.tiesAs_queue (x : Leg) {q : List QueueEntry}
    (h : x.Ordered → KeysSound (x.queue.map QueueEntry.key) → KeysSound (q.map QueueEntry.key)) :
    x.TiesAs { x with queue := q } :=
  .intro rfl (fun _ _ => rfl) fun hx => (Leg.queueSound_iff _).mpr (h hx ((Leg.queueSound_iff x).mp hx.queue))

/-- A record changes in a value that the agreement does not read. -/
theorem Leg.tiesAs_setRecord {x : Leg} {d : Nat} {r r' : DropRecord} (hr : x.record d = some r)
    (htie : r'.tie = r.tie) : x.TiesAs (x.setRecord d (some r')) := by
  refine .intro (x.setRecord_drops_length d _) (fun _ e => ?_)
    fun h => (Leg.queueSound_iff _).mpr ((Leg.queueSound_iff x).mp h.queue)
  by_cases hed : e = d
  · subst hed
    rw [Leg.setRecord_record_same x _ (Leg.record_lt hr), hr]
    exact congrArg some htie
  · rw [Leg.setRecord_record_other x _ hed]

/-- A directive for a record of the leg is queued. -/
theorem Leg.tiesAs_direct {x : Leg} {d : Nat} {r : DropRecord} (hr : x.record d = some r) {new : Directive}
    (hnew : new.drop? = some d) : x.TiesAs (x.direct new r.ident) :=
  x.tiesAs_queue fun hx hq => by
    have hplace := hx.inPlace d r hr
    exact keysSound_enqueue hq (hplace ▸ hnew) (hplace ▸ hx.drops ▸ Leg.record_lt hr)

theorem Leg.tiesAs_park (x : Leg) (tag : FactoryTag) : x.TiesAs (x.park tag) := by
  have hdrops : (x.park tag).drops = x.drops := by
    unfold Leg.park
    split
    · rfl
    · split <;> rfl
  exact .intro (by rw [hdrops]) (fun _ d => by simp only [Leg.record, hdrops])
    fun h => Leg.queueSound_park h.queue tag

theorem Leg.tiesAs_clearFollow (x : Leg) (d : Nat) : x.TiesAs (x.clearFollow d) :=
  x.tiesAs_queue fun _ hq => by
    have hkeys : (x.queue.map fun q =>
        if q.dir.drop? = some d then { q with follow := FollowOn.empty } else q).map QueueEntry.key =
          x.queue.map QueueEntry.key := by
      rw [List.map_map]
      refine List.map_congr_left fun q _ => ?_
      rw [Function.comp, apply_ite QueueEntry.key]
      exact ite_self _
    exact hkeys ▸ hq

/-- A leg in order stays so as a record becomes FREE. -/
theorem Leg.Ordered.free {x : Leg} (h : x.Ordered) (d : Nat) : (x.setRecord d none).Ordered := by
  refine ⟨(x.setRecord_drops_length d _).trans h.drops, fun e a ha => ?_,
    (Leg.queueSound_iff _).mpr ((Leg.queueSound_iff x).mp h.queue)⟩
  exact h.inPlace e a ((Leg.setRecord_record_cases ha).resolve_right fun hn => nomatch hn.2)

/-- A leg in order stays so as a record is put in its place. -/
theorem Leg.Ordered.put {x : Leg} (h : x.Ordered) {d : Nat} {r : DropRecord} (hd : r.ident.drop = d) :
    (x.setRecord d (some r)).Ordered := by
  refine ⟨(x.setRecord_drops_length d _).trans h.drops, fun e a ha => ?_,
    (Leg.queueSound_iff _).mpr ((Leg.queueSound_iff x).mp h.queue)⟩
  rcases Leg.setRecord_record_cases ha with hstood | ⟨he, hput⟩
  · exact h.inPlace e a hstood
  · exact Option.some.inj hput ▸ hd.trans he.symm

/-! ## The roster and the records -/

/-- What the agreement reads of a roster entry. -/
def RosterEntry.tie (e : RosterEntry) : FactoryTag × Nat × Nat × RosterState × Option (LegId × Nat) :=
  (e.tag, e.plot, e.share, e.state, e.link)

/-- The agreement of the roster, the drop tables and the directive queues. -/
structure State.Tied (s : State) : Prop where
  roster : s.roster.length = Config.rosterSize
  legs : ∀ l, (s.leg l).Ordered
  tags : ∀ i j e f, s.rosterAt i = some e → s.rosterAt j = some f → e.tag = f.tag → i = j
  entries : ∀ i e, s.rosterAt i = some e → s.EntrySound i e
  records : ∀ l d r, s.record l d = some r → ∃ e, s.rosterAt r.rosterIndex = some e ∧ e.link = some (l, d)

/-- The agreement of the Candidate List with the roster. -/
structure State.Indexed (s : State) : Prop where
  bound : s.candidates.length ≤ Config.maxCandidates
  tags : (s.candidates.map Candidate.tag).Nodup
  indices : ∀ c ∈ s.candidates, c.rosterIndex = (s.rosterEntry c.tag).map Prod.fst

theorem State.linked_iff (s : State) : s.Linked ↔ s.Tied ∧ s.Indexed := by
  constructor
  · intro h
    obtain ⟨hbound, htags⟩ := h.candidates
    exact ⟨⟨h.roster, fun l => ⟨h.drops l, fun d r hr => (h.records l d r hr).1, h.queues l⟩, h.tags, h.entries,
      fun l d r hr => (h.records l d r hr).2⟩, hbound, htags, h.indices⟩
  · rintro ⟨h, hc⟩
    exact ⟨h.roster, fun l => (h.legs l).drops, h.tags, h.entries,
      fun l d r hr => ⟨(h.legs l).inPlace d r hr, h.records l d r hr⟩, ⟨hc.bound, hc.tags⟩, hc.indices,
      fun l => (h.legs l).queue⟩

/-- An entry read as another is sound with records that read the same. -/
theorem entrySound_iff (s : State) (i : Nat) (e : RosterEntry) :
    s.EntrySound i e ↔
      (e.link = none ∧ e.state ≠ .active) ∨
        ∃ l d r, e.link = some (l, d) ∧ e.state = .active ∧ s.record l d = some r ∧ r.rosterIndex = i ∧
          r.tag = e.tag ∧ r.plot = e.plot ∧ r.share = e.share := by
  unfold State.EntrySound
  cases h : e.link with
  | none => simp
  | some p =>
    obtain ⟨l, d⟩ := p
    simp only [reduceCtorEq, false_and, false_or, Option.some.injEq, Prod.mk.injEq]
    constructor
    · rintro ⟨ha, r, hr⟩
      exact ⟨l, d, r, ⟨rfl, rfl⟩, ha, hr⟩
    · rintro ⟨_, _, r, ⟨rfl, rfl⟩, ha, hr⟩
      exact ⟨ha, r, hr⟩

theorem tie_of_map {o o' : Option RosterEntry} (h : o'.map RosterEntry.tie = o.map RosterEntry.tie) {e' : RosterEntry}
    (he : o' = some e') : ∃ e, o = some e ∧ e.tie = e'.tie := by
  rw [he, Option.map_some, eq_comm, Option.map_eq_some_iff] at h
  exact h

/-- A step on the roster entry of index `i`, and on the record of the leg and drop `p` when there is one, keeps the
agreement: no other entry and no other record is linked to them before it, and they agree after it. -/
theorem State.Tied.touch {s t : State} (h : s.Tied) (i : Nat) (p : Option (LegId × Nat))
    (hroster : t.roster.length = s.roster.length) (hlegs : ∀ l, (t.leg l).Ordered)
    (hentries : ∀ j, j ≠ i → (t.rosterAt j).map RosterEntry.tie = (s.rosterAt j).map RosterEntry.tie)
    (hrecords : ∀ l d, some (l, d) ≠ p → (t.record l d).map DropRecord.tie = (s.record l d).map DropRecord.tie)
    (hlink : ∀ e, s.rosterAt i = some e → e.link = none ∨ e.link = p)
    (hindex : ∀ l d r, some (l, d) = p → s.record l d = some r → r.rosterIndex = i)
    (htag : ∀ e, t.rosterAt i = some e → ∀ j f, j ≠ i → s.rosterAt j = some f → f.tag ≠ e.tag)
    (hentry : ∀ e, t.rosterAt i = some e → t.EntrySound i e)
    (hrecord : ∀ l d r, some (l, d) = p → t.record l d = some r →
      ∃ e, t.rosterAt r.rosterIndex = some e ∧ e.link = some (l, d)) : t.Tied := by
  refine ⟨hroster.trans h.roster, hlegs, fun j k e f he hf htags => ?_, fun j e he => ?_, fun l d r hr => ?_⟩
  · by_cases hj : j = i
    · by_cases hk : k = i
      · rw [hj, hk]
      · obtain ⟨f', hf', htie⟩ := tie_of_map (hentries k hk) hf
        exact absurd ((congrArg Prod.fst htie).trans htags.symm) (htag e (hj ▸ he) k f' hk hf')
    · obtain ⟨e', he', htie⟩ := tie_of_map (hentries j hj) he
      by_cases hk : k = i
      · exact absurd ((congrArg Prod.fst htie).trans htags) (htag f (hk ▸ hf) j e' hj he')
      · obtain ⟨f', hf', htie'⟩ := tie_of_map (hentries k hk) hf
        exact h.tags j k e' f' he' hf'
          (((congrArg Prod.fst htie).trans htags).trans (congrArg Prod.fst htie').symm)
  · by_cases hj : j = i
    · exact hj ▸ hentry e (hj ▸ he)
    · obtain ⟨e', he', htie⟩ := tie_of_map (hentries j hj) he
      simp only [RosterEntry.tie, Prod.mk.injEq] at htie
      obtain ⟨htag', hplot, hshare, hstate, hlinked⟩ := htie
      rw [entrySound_iff, ← htag', ← hplot, ← hshare, ← hstate, ← hlinked]
      rcases (entrySound_iff s j e').mp (h.entries j e' he') with hfree | ⟨l, d, r, hl, ha, hr, hi, hrest⟩
      · exact .inl hfree
      · have hother : some (l, d) ≠ p := fun hp => hj (hi ▸ hindex l d r hp hr)
        obtain ⟨r', hr', hties⟩ := Option.map_eq_some_iff.mp ((hrecords l d hother).trans (by rw [hr]; rfl))
        simp only [DropRecord.tie, Prod.mk.injEq] at hties
        obtain ⟨-, hi', ht', hp', hs'⟩ := hties
        exact .inr ⟨l, d, r', hl, ha, hr', hi'.trans hi, ht' ▸ hp' ▸ hs' ▸ hrest⟩
  · by_cases hp : some (l, d) = p
    · exact hrecord l d r hp hr
    · have hties := hrecords l d hp
      rw [hr, Option.map_some, eq_comm, Option.map_eq_some_iff] at hties
      obtain ⟨r', hr', hties⟩ := hties
      obtain ⟨e, he, hl⟩ := h.records l d r' hr'
      have hindex' : r'.rosterIndex = r.rosterIndex := congrArg (fun t => t.2.1) hties
      rw [hindex'] at he
      have hne : r.rosterIndex ≠ i := fun hi => by
        rcases hlink e (hi ▸ he) with hn | hn
        · rw [hl] at hn; cases hn
        · exact hp (hl.symm.trans hn)
      obtain ⟨e', he', htie⟩ := Option.map_eq_some_iff.mp ((hentries _ hne).trans (by rw [he]; rfl))
      exact ⟨e', he', (congrArg (fun t => t.2.2.2.2) htie).trans hl⟩

/-- A step that the agreement reads nothing of. -/
theorem State.Tied.of_ties {s t : State} (h : s.Tied) (hroster : t.roster.length = s.roster.length)
    (hlegs : ∀ l, (t.leg l).Ordered)
    (hentries : ∀ j, (t.rosterAt j).map RosterEntry.tie = (s.rosterAt j).map RosterEntry.tie)
    (hrecords : ∀ l d, (t.record l d).map DropRecord.tie = (s.record l d).map DropRecord.tie) : t.Tied := by
  -- index 256 has no entry, before or after
  have hnone : s.rosterAt s.roster.length = none := by simp [State.rosterAt]
  have hnone' : t.rosterAt s.roster.length = none := by
    have htie := hentries s.roster.length
    rw [hnone] at htie
    simpa using htie
  exact h.touch s.roster.length none hroster hlegs (fun j _ => hentries j) (fun l d _ => hrecords l d)
    (fun e he => nomatch hnone.symm.trans he) (fun _ _ _ hp => nomatch hp)
    (fun e he => nomatch hnone'.symm.trans he) (fun e he => nomatch hnone'.symm.trans he) fun _ _ _ hp => nomatch hp

end Sys2Proof.Machine
end

section
/-! SUPPORT. The steps that keep the agreement of roster, records, queues and Candidate List: those that it reads nothing
of, directives, and the ending of a record (R75, R98). -/

namespace Sys2Proof.Machine

/-! ## The roster -/

theorem State.rosterAt_lt {s : State} {i : Nat} {e : RosterEntry} (h : s.rosterAt i = some e) : i < s.roster.length := by
  by_contra hn
  simp [State.rosterAt, List.getElem?_eq_none (Nat.le_of_not_lt hn)] at h

theorem State.setRosterAt_rosterAt_same {s : State} {i : Nat} (h : i < s.roster.length) (o : Option RosterEntry) :
    (s.setRosterAt i o).rosterAt i = o := by
  simp [State.rosterAt, h]

theorem State.setRosterAt_rosterAt_other (s : State) {i j : Nat} (h : j ≠ i) (o : Option RosterEntry) :
    (s.setRosterAt i o).rosterAt j = s.rosterAt j := by
  simp [State.rosterAt, Ne.symm h]

theorem State.unlink_rosterAt (s : State) (i j : Nat) :
    (s.unlink i).rosterAt j =
      if j = i then (s.rosterAt i).map fun e => { e with state := .expected, link := none } else s.rosterAt j := by
  unfold State.unlink
  split
  · next e he =>
    split
    · next hj => rw [hj, State.setRosterAt_rosterAt_same (State.rosterAt_lt he), he]; rfl
    · next hj => rw [State.setRosterAt_rosterAt_other s hj]
  · next he =>
    split
    · next hj => rw [hj, he]; rfl
    · rfl

/-- With no two entries for a tag, the index found for a tag is that of the entry that holds it. -/
theorem State.Tied.index_iff {s : State} (h : s.Tied) {tag : FactoryTag} {i : Nat} :
    (s.rosterEntry tag).map Prod.fst = some i ↔ ∃ e, s.rosterAt i = some e ∧ e.tag = tag := by
  constructor
  · intro hi
    obtain ⟨⟨j, e⟩, he, rfl⟩ := Option.map_eq_some_iff.mp hi
    exact ⟨e, State.rosterEntry_spec he⟩
  · rintro ⟨e, he, htag⟩
    cases hf : s.rosterEntry tag with
    | none => exact absurd htag (findTag_none hf e (List.mem_of_getElem? (Option.join_eq_some_iff.mp he)))
    | some p =>
      obtain ⟨j, f⟩ := p
      obtain ⟨hat, hft⟩ := State.rosterEntry_spec hf
      exact congrArg some (h.tags j i f e hat he (hft.trans htag.symm))

/-! ## Steps -/

/-- What the agreement reads of a candidate. -/
def Candidate.tie (c : Candidate) : FactoryTag × Option Nat := (c.tag, c.rosterIndex)

/-- A step keeps the agreement of roster, records and queues, the tag of every roster index, and the Candidate List but
for entries that leave it. -/
structure State.Ties (s t : State) : Prop where
  tied : s.Tied → t.Tied
  tags : ∀ i, (t.rosterAt i).map RosterEntry.tag = (s.rosterAt i).map RosterEntry.tag
  candidates : (t.candidates.map Candidate.tie).Sublist (s.candidates.map Candidate.tie)

theorem State.Ties.refl (s : State) : s.Ties s := ⟨id, fun _ => rfl, .refl _⟩

theorem State.Ties.trans {s t u : State} (h : s.Ties t) (h' : t.Ties u) : s.Ties u :=
  ⟨h'.tied ∘ h.tied, fun i => (h'.tags i).trans (h.tags i), h'.candidates.trans h.candidates⟩

/-- A step after one that keeps the agreement. -/
theorem State.Ties.after {s t u : State} (h' : t.Ties u) (h : s.Ties t) : s.Ties u := h.trans h'

theorem State.Ties.ite {s t u : State} {c : Prop} [Decidable c] (ht : s.Ties t) (hu : s.Ties u) :
    s.Ties (if c then t else u) := by
  split
  · exact ht
  · exact hu

theorem State.ties_foldl {α : Type} {f : State → α → State} (hf : ∀ (s : State) (a : α), s.Ties (f s a)) (as : List α)
    (s : State) : s.Ties (as.foldl f s) := by
  induction as generalizing s with
  | nil => exact .refl s
  | cons a as ih => exact (hf s a).trans (ih (f s a))

/-- Two rosters with one tag at each index find a tag at one index. -/
theorem index_congr {s t : State} (hs : s.Tied) (ht : t.Tied) {tag : FactoryTag}
    (htags : ∀ i, (∃ e, t.rosterAt i = some e ∧ e.tag = tag) ↔ ∃ e, s.rosterAt i = some e ∧ e.tag = tag) :
    (t.rosterEntry tag).map Prod.fst = (s.rosterEntry tag).map Prod.fst :=
  Option.ext fun i => by rw [ht.index_iff, hs.index_iff, htags]

theorem State.Ties.index {s t : State} (h : s.Ties t) (hs : s.Tied) (tag : FactoryTag) :
    (t.rosterEntry tag).map Prod.fst = (s.rosterEntry tag).map Prod.fst :=
  index_congr hs (h.tied hs) fun i => by
    rw [← Option.map_eq_some_iff, ← Option.map_eq_some_iff, h.tags]

theorem State.Ties.indexed {s t : State} (h : s.Ties t) (hs : s.Tied) (hc : s.Indexed) : t.Indexed := by
  have htags (cs : List Candidate) : cs.map Candidate.tag = (cs.map Candidate.tie).map Prod.fst := by
    rw [List.map_map]
    rfl
  refine ⟨?_, ?_, fun c hmem => ?_⟩
  · have hle := h.candidates.length_le
    rw [List.length_map, List.length_map] at hle
    exact hle.trans hc.bound
  · rw [htags]
    exact (htags s.candidates ▸ hc.tags).sublist (h.candidates.map Prod.fst)
  · obtain ⟨c', hc', htie⟩ := List.mem_map.mp (h.candidates.subset (List.mem_map_of_mem hmem))
    simp only [Candidate.tie, Prod.mk.injEq] at htie
    obtain ⟨htag, hindex⟩ := htie
    rw [h.index hs, ← htag, ← hindex]
    exact hc.indices c' hc'

theorem State.Ties.linked {s t : State} (h : s.Ties t) (hs : s.Linked) : t.Linked := by
  obtain ⟨htied, hindexed⟩ := s.linked_iff.mp hs
  exact t.linked_iff.mpr ⟨h.tied htied, h.indexed htied hindexed⟩

/-! ## Steps that the agreement reads nothing of -/

/-- A step that leaves the roster, on legs that tie as before. -/
theorem State.Ties.of_legs {s t : State} (hroster : t.roster = s.roster)
    (hcandidates : (t.candidates.map Candidate.tie).Sublist (s.candidates.map Candidate.tie))
    (hlegs : ∀ l, (s.leg l).TiesAs (t.leg l)) : s.Ties t := by
  have hat : ∀ i, t.rosterAt i = s.rosterAt i := fun i => by simp only [State.rosterAt, hroster]
  refine ⟨fun h => ?_, fun i => by rw [hat], hcandidates⟩
  exact h.of_ties (by rw [hroster]) (fun l => (hlegs l (h.legs l)).1) (fun j => by rw [hat])
    fun l d => (hlegs l (h.legs l)).2 d

theorem State.Ties.of_same {s t : State} (hroster : t.roster = s.roster) (hlegs : t.legs = s.legs)
    (hcandidates : t.candidates = s.candidates) : s.Ties t :=
  .of_legs hroster (by rw [hcandidates]) fun l => by rw [State.leg, State.leg, hlegs]; exact .refl _

theorem State.ties_notify (s : State) (n : Notice) : s.Ties (s.notify n) := .of_same rfl rfl rfl

theorem State.ties_setIface (s : State) (i : Interface) : s.Ties (s.setIface i) := .of_same rfl rfl rfl

theorem State.ties_setRail (s : State) (r : Rail) : s.Ties (s.setRail r) := .of_same rfl rfl rfl

theorem State.ties_setMeter (s : State) (m : Meter) : s.Ties (s.setMeter m) := .of_same rfl rfl rfl

theorem State.ties_setBias (s : State) (b : Bias) : s.Ties (s.setBias b) := .of_same rfl rfl rfl

theorem State.ties_setLeg {s : State} {l : LegId} {x : Leg} (h : (s.leg l).TiesAs x) : s.Ties (s.setLeg l x) :=
  .of_legs rfl (.refl _) fun k => by
    rw [State.setLeg_leg]
    split
    · next hk => rw [hk]; exact h
    · exact .refl _

/-- A change of a leg that leaves its drop table and its queue. -/
theorem State.ties_mapLeg {s : State} {l : LegId} {f : Leg → Leg} (hdrops : (f (s.leg l)).drops = (s.leg l).drops)
    (hqueue : (f (s.leg l)).queue = (s.leg l).queue) : s.Ties (s.mapLeg l f) :=
  State.ties_setLeg (.of_same hdrops hqueue)

/-- A record changes in a value that the agreement does not read. -/
theorem State.ties_setRecord {s : State} {l : LegId} {d : Nat} {r r' : DropRecord} (hr : s.record l d = some r)
    (htie : r'.tie = r.tie) : s.Ties (s.setRecord l d (some r')) :=
  State.ties_setLeg (Leg.tiesAs_setRecord hr htie)

/-- A roster entry changes in a value that the agreement does not read. -/
theorem State.ties_setRosterAt {s : State} {i : Nat} {e e' : RosterEntry} (he : s.rosterAt i = some e)
    (htie : e'.tie = e.tie) : s.Ties (s.setRosterAt i (some e')) := by
  have hat : ∀ j, ((s.setRosterAt i (some e')).rosterAt j).map RosterEntry.tie =
      (s.rosterAt j).map RosterEntry.tie := fun j => by
    by_cases hj : j = i
    · rw [hj, State.setRosterAt_rosterAt_same (State.rosterAt_lt he), he]
      exact congrArg some htie
    · rw [State.setRosterAt_rosterAt_other s hj]
  refine ⟨fun h => h.of_ties (List.length_set ..) h.legs hat fun _ _ => rfl, fun j => ?_, .refl _⟩
  have htags := congrArg (Option.map Prod.fst) (hat j)
  rwa [Option.map_map, Option.map_map] at htags

theorem State.ties_heard (s : State) (tag : FactoryTag) (l : LegId) (n : Cycle) : s.Ties (s.heard tag l n) := by
  unfold State.heard
  split
  · next he => exact State.ties_setRosterAt (State.rosterEntry_spec he).1 rfl
  · exact .refl s

theorem State.ties_recordLight (s : State) (l : LegId) (light : BitVec 48) : s.Ties (s.recordLight l light) :=
  State.ties_mapLeg rfl rfl

theorem State.ties_mapScan (s : State) (l : LegId) (f : WindowScan → WindowScan) :
    s.Ties (s.mapLeg l fun x => x.mapScan f) :=
  State.ties_mapLeg rfl rfl

theorem State.ties_setRun (s : State) (l : LegId) (run : Option IsolationRun) :
    s.Ties (s.mapLeg l fun x => { x with run := run }) :=
  State.ties_mapLeg rfl rfl

/-- Candidates that leave the list. -/
theorem State.ties_filterCandidates (s : State) (p : Candidate → Bool) :
    s.Ties (s.setCandidates (s.candidates.filter p)) :=
  .of_legs rfl (List.filter_sublist.map _) fun l => .refl (s.leg l)

/-- Candidates that change in a value that the agreement does not read. -/
theorem State.ties_mapCandidates (s : State) {f : Candidate → Candidate} (hf : ∀ c, (f c).tie = c.tie) :
    s.Ties (s.setCandidates (s.candidates.map f)) := by
  refine .of_legs rfl ?_ fun l => .refl (s.leg l)
  have htie : (s.candidates.map f).map Candidate.tie = s.candidates.map Candidate.tie := by
    rw [List.map_map]
    exact List.map_congr_left fun c _ => hf c
  rw [State.setCandidates_candidates, htie]

/-! ## Directives -/

/-- A directive for a live record is queued. -/
theorem State.ties_direct {s : State} {l : LegId} {d : Nat} {r : DropRecord} (hr : s.record l d = some r)
    {new : Directive} (hnew : new.drop? = some d) : s.Ties (s.direct l new r.ident) :=
  State.ties_setLeg (Leg.tiesAs_direct hr hnew)

/-- A record changes, and a directive for it is queued. -/
theorem State.ties_setRecord_direct {s : State} {l : LegId} {d : Nat} {r r' : DropRecord} (hr : s.record l d = some r)
    (htie : r'.tie = r.tie) {new : Directive} (hnew : new.drop? = some d) :
    s.Ties ((s.setRecord l d (some r')).direct l new r.ident) := by
  have hr' : (s.setRecord l d (some r')).record l d = some r' := State.setRecord_record_same s l _ (Leg.record_lt hr)
  have hident : r'.ident = r.ident := congrArg Prod.fst htie
  exact (State.ties_setRecord hr htie).trans (hident ▸ State.ties_direct hr' hnew)

theorem State.ties_park (s : State) (l : LegId) (tag : FactoryTag) : s.Ties (s.mapLeg l fun x => x.park tag) :=
  State.ties_setLeg (Leg.tiesAs_park _ tag)

/-! ## Isolation turns -/

theorem State.ties_endRun (s : State) (l : LegId) (outcome : RunOutcome) (culprit : Option (Nat × FactoryTag)) :
    s.Ties (s.endRun l outcome culprit) := by
  unfold State.endRun
  split
  · exact .refl s
  · exact (State.ties_notify _ _).after (s.ties_setRun l none)

theorem ties_beginTurn (l : LegId) (run : IsolationRun) (ts : List Identity) (pos : Nat) (s : State) :
    s.Ties (beginTurn l run ts pos s) := by
  induction ts generalizing pos with
  | nil => exact State.ties_endRun s l .none none
  | cons t ts ih =>
    unfold beginTurn
    split
    · exact ih (pos + 1)
    · next r hr =>
      split
      · next hturn =>
        obtain ⟨rfl, -⟩ := hturn
        have hflag := State.ties_setRecord hr (r' := { r with isolated := true }) rfl
        refine (State.ties_direct (d := r.ident.drop) (r := { r with isolated := true }) ?_ rfl).after
          ((State.ties_setRun _ l _).after hflag)
        rw [State.mapLeg_record rfl, State.setRecord_record_same s l _ (Leg.record_lt hr)]
      · exact ih (pos + 1)

theorem State.ties_nextTurn (s : State) (l : LegId) : s.Ties (s.nextTurn l) := by
  unfold State.nextTurn
  split
  · exact .refl s
  · exact ties_beginTurn l _ _ _ s

theorem State.ties_endTurn (s : State) (l : LegId) : s.Ties (s.endTurn l) := by
  unfold State.endTurn
  split
  · exact .refl s
  · split
    · exact .refl s
    · split
      · exact .refl s
      · next r hr =>
        have hresumed := State.ties_setRecord_direct hr (r' := { r with isolated := false }) rfl
          (new := .resume _) rfl
        exact .ite (.ite (State.ties_setRecord hr rfl) hresumed) (.refl s)

theorem State.ties_nameCulprit (s : State) (l : LegId) : s.Ties (s.nameCulprit l) := by
  unfold State.nameCulprit
  split
  · exact .refl s
  · split
    · exact .refl s
    · split
      · exact .refl s
      · next hr => exact (State.ties_endRun _ _ _ _).after (State.ties_setRecord hr rfl)

/-! ## The ending of a record (R98) -/

theorem State.unlink_leg (s : State) (i : Nat) (l : LegId) : (s.unlink i).leg l = s.leg l := by
  rw [State.leg, (s.unlink_frame i).2.2.1]
  rfl

theorem State.unlink_mapLeg (s : State) (i : Nat) (l : LegId) (f : Leg → Leg) :
    (s.unlink i).mapLeg l f = (s.mapLeg l f).unlink i := by
  have hat : (s.mapLeg l f).rosterAt i = s.rosterAt i := rfl
  unfold State.unlink
  rw [hat]
  cases s.rosterAt i <;> rfl

theorem State.unlink_roster_length (s : State) (i : Nat) : (s.unlink i).roster.length = s.roster.length := by
  unfold State.unlink
  split
  · exact List.length_set ..
  · rfl

/-- A record becomes FREE together with the link to it (R75). -/
theorem State.ties_free {s : State} {l : LegId} {d : Nat} {r : DropRecord} (hr : s.record l d = some r) :
    s.Ties ((s.unlink r.rosterIndex).setRecord l d none) := by
  generalize hi : r.rosterIndex = i
  have hat (j : Nat) : ((s.unlink i).setRecord l d none).rosterAt j =
      if j = i then (s.rosterAt i).map fun e => { e with state := .expected, link := none } else s.rosterAt j :=
    s.unlink_rosterAt i j
  have hfree : ((s.unlink i).setRecord l d none).record l d = none :=
    State.setRecord_record_same _ l _ (by rw [State.unlink_leg]; exact Leg.record_lt hr)
  have hother {k : LegId} {e : Nat} (h : some (k, e) ≠ some (l, d)) :
      ((s.unlink i).setRecord l d none).record k e = s.record k e := by
    rw [State.setRecord_record_other _ _ (by simpa [Classical.or_iff_not_imp_left] using h), State.unlink_record]
  refine ⟨fun h => ?_, fun j => ?_, ?_⟩
  · obtain ⟨e, he, hlink⟩ := h.records l d r hr
    rw [hi] at he
    refine h.touch i (some (l, d)) (s.unlink_roster_length i) (fun k => ?_) (fun j hj => by rw [hat, if_neg hj])
      (fun k c hk => by rw [hother hk]) (fun e' he' => ?_) (fun k c r' hk hr' => ?_) (fun e' he' j f hj hf => ?_)
      (fun e' he' => ?_) fun k c r' hk hr' => ?_
    · rw [State.setRecord, State.setLeg_leg, State.unlink_leg, State.unlink_leg]
      split
      · exact (h.legs l).free d
      · exact h.legs k
    · exact .inr (Option.some.inj (he.symm.trans he') ▸ hlink)
    · cases hk
      exact Option.some.inj (hr.symm.trans hr') ▸ hi
    · rw [hat, if_pos rfl, he] at he'
      obtain rfl := Option.some.inj he'
      exact fun htag => hj (h.tags j i f e hf he htag)
    · rw [hat, if_pos rfl, he] at he'
      obtain rfl := Option.some.inj he'
      exact (entrySound_iff _ _ _).mpr (.inl ⟨rfl, nofun⟩)
    · cases hk
      cases hfree.symm.trans hr'
  · rw [hat]
    split
    · next hj => rw [hj, Option.map_map]; rfl
    · rfl
  · rw [State.setRecord_candidates, (s.unlink_frame i).2.1]

theorem State.ties_endRecord (s : State) (l : LegId) (d : Nat) (reason : EndReason) (release : Bool) :
    s.Ties (s.endRecord l d reason release) := by
  unfold State.endRecord
  split
  · exact .refl s
  · next r hr =>
    have hended : s.Ties ((if release then (s.unlink r.rosterIndex).direct l (.release d) r.ident
        else (s.unlink r.rosterIndex).mapLeg l fun x => x.clearFollow d).setRecord l d none) := by
      rw [State.direct, State.unlink_mapLeg, State.unlink_mapLeg]
      split
      · have hr' : (s.direct l (.release d) r.ident).record l d = some r := by rw [State.direct_record, hr]
        exact (State.ties_direct hr rfl).trans (State.ties_free hr')
      · have hr' : (s.mapLeg l fun x => x.clearFollow d).record l d = some r := by rw [State.mapLeg_record rfl, hr]
        exact (State.ties_setLeg (Leg.tiesAs_clearFollow _ d)).trans (State.ties_free hr')
    exact .ite ((State.ties_nextTurn _ l).after ((State.ties_notify _ _).after hended))
      ((State.ties_notify _ _).after hended)

end Sys2Proof.Machine
end

section
/-! SUPPORT. Verdicts, power outcomes, the boundary, the Bias Supply, the converter and the receivers keep the agreement of
roster, records and queues: they move no record's place, tag, plot label or share, and link none (R96, R99). -/

namespace Sys2Proof.Machine

/-! ## Verdicts and power outcomes -/

theorem State.ties_correctDrift (s : State) (l : LegId) (d : Nat) (drift : Int) :
    s.Ties (s.correctDrift l d drift) := by
  unfold State.correctDrift
  split
  · exact .refl s
  · next r hr =>
    dsimp only
    generalize correctedE (s.leg l).derived.z r.e drift = e
    have hcorrected := State.ties_setRecord_direct hr
      (r' := { r with e := e, r := (s.leg l).derived.z - e, offsetField := .pending }) rfl (new := .offset d e) rfl
    exact .ite (.refl s) hcorrected

section Record

variable {s : State} {l : LegId} {d : Nat} {r r' : DropRecord}

theorem State.ties_enrolMiss (hr : s.record l d = some r) (grant : Cycle) : s.Ties (s.enrolMiss l d grant r) := by
  have again := State.ties_setRecord_direct hr
    (r' := { r with attempts := r.attempts + 1, echoes := 0, echoDue := none }) rfl
    (new := .enrol r.tag d r.e r.launch) rfl
  have last := State.ties_setRecord hr (r' := { r with echoes := 3 }) rfl
  unfold State.enrolMiss State.enrolAgain
  exact .ite (.ite (.ite again (last.trans (State.ties_endRecord _ _ _ _ _))) (State.ties_setRecord hr rfl)) (.refl s)

theorem State.ties_soakMiss (hr : s.record l d = some r) (htie : r'.tie = r.tie) : s.Ties (s.soakMiss l d r') := by
  have missed := State.ties_setRecord hr (r' := { r' with misses := r'.misses + 1 }) htie
  exact .ite (missed.trans (State.ties_endRecord _ _ _ _ _)) missed

theorem State.ties_soakGood (hr : s.record l d = some r) : s.Ties (s.soakGood l d r) :=
  .ite ((State.ties_notify _ _).after (State.ties_setRecord hr rfl)) (State.ties_setRecord hr rfl)

theorem State.ties_serviceMiss (hr : s.record l d = some r) : s.Ties (s.serviceMiss l d r) := by
  have missed := State.ties_setRecord hr (r' := { r with silentRun := r.silentRun + 1 }) rfl
  exact .ite (missed.trans (State.ties_endRecord _ _ _ _ _)) missed

/-- A launch step is moved on a record that the agreement reads as before. -/
theorem State.ties_moveLaunch (hr : s.record l d = some r) (htie : r'.tie = r.tie) (launch : LaunchStep) :
    s.Ties (s.moveLaunch l d r' launch) := by
  have hident : r'.ident = r.ident := congrArg Prod.fst htie
  have moved := State.ties_setRecord_direct hr
    (r' := { r' with launch := launch, adjustments := r'.adjustments + 1, launchField := .pending }) htie
    (new := .launch d launch) rfl
  rw [← hident] at moved
  exact moved

theorem State.ties_level (hr : s.record l d = some r) (htie : r'.tie = r.tie) (a : LevelAttrs) :
    s.Ties (s.level l d r' a) := by
  have soak (flags : LevelFlags) := State.ties_setRecord hr (r' := { r'.toSoak with flags := flags }) htie
  have moved := State.ties_moveLaunch hr htie
  exact .ite (.ite (moved _) (soak _)) (.ite (.ite (moved _) (soak _)) (State.ties_setRecord hr htie))

theorem DropRecord.oneUnmeasured_tie (r : DropRecord) : r.oneUnmeasured.tie = r.tie := by
  unfold DropRecord.oneUnmeasured
  dsimp only
  split <;> rfl

theorem State.ties_levellingEntry (hr : s.record l d = some r) (grant : Cycle) (o : PowerOutcome) :
    s.Ties (s.levellingEntry l d r grant o) := by
  have unmeasured {r' : DropRecord} (htie : r'.tie = r.tie) :=
    State.ties_setRecord hr (r'.oneUnmeasured_tie.trans htie)
  cases o with
  | unmeasured => exact unmeasured rfl
  | result v a =>
    have ranged := unmeasured (r' := { r with hint := r.hintAfter a }) rfl
    have levelled := State.ties_level hr (r' := { r with hint := r.hintAfter a, lastPower := some v }) rfl a
    exact .ite (State.ties_setRecord hr rfl) (.ite ranged levelled)

theorem State.ties_serviceEntry (hr : s.record l d = some r) (o : PowerOutcome) :
    s.Ties (s.serviceEntry l d r o) := by
  cases o with
  | unmeasured => exact .refl s
  | result v a => exact .ite (State.ties_setRecord hr rfl) (State.ties_setRecord hr rfl)

end Record

theorem State.ties_countVerdict (s : State) (l : LegId) (d : Nat) (v : Delivered) :
    s.Ties (s.countVerdict l d v) := by
  unfold State.countVerdict
  split
  · exact .refl s
  · next r hr =>
    dsimp only
    split
    · exact .ite (State.ties_setRecord hr rfl) (State.ties_enrolMiss hr _)
    · exact .ite (.refl s) (State.ties_soakMiss hr rfl)
    · have missed := State.ties_soakMiss hr (r' := { r with streak := 0 }) rfl
      exact .ite (State.ties_soakGood hr) missed
    · exact .ite (State.ties_setRecord hr rfl) (State.ties_serviceMiss hr)
    · exact .refl s

theorem State.ties_driftWork (s : State) (l : LegId) (d : Nat) (v : Delivered) : s.Ties (s.driftWork l d v) := by
  unfold State.driftWork
  split
  · next r drift hr _ =>
    have hlast := State.ties_setRecord hr (r' := { r with lastDrift := drift }) rfl
    exact .ite (.ite (hlast.trans (State.ties_correctDrift _ _ _ _)) hlast) (.refl s)
  · exact .refl s

theorem State.ties_keepReport (s : State) (l : LegId) (d : Nat) (v : Delivered) : s.Ties (s.keepReport l d v) := by
  unfold State.keepReport
  split
  · next hr _ => exact State.ties_setRecord hr rfl
  · exact .refl s

theorem State.ties_takeVerdict (s : State) (l : LegId) (d : Nat) (v : Delivered) : s.Ties (s.takeVerdict l d v) := by
  unfold State.takeVerdict
  split
  · exact .refl s
  · refine .ite (.refl s) ?_
    split
    · exact .refl s
    · exact State.ties_endRecord _ _ _ _ _
    · exact ((State.ties_keepReport _ _ _ _).trans (State.ties_driftWork _ _ _ _)).trans
        (State.ties_countVerdict _ _ _ _)
    · exact State.ties_countVerdict _ _ _ _

theorem State.ties_takeEntry (s : State) (l : LegId) (d : Nat) (grant : Cycle) (verdict : BurstVerdict)
    (o : PowerOutcome) : s.Ties (s.takeEntry l d grant verdict o) := by
  unfold State.takeEntry
  split
  · exact .refl s
  · next hr =>
    refine .ite ?_ (.refl s)
    split
    · exact State.ties_levellingEntry hr grant o
    · exact State.ties_serviceEntry hr o
    · exact .refl s

theorem State.ties_fillVerdict (s : State) (l : LegId) (d : Nat) (grant : Cycle) (verdict : BurstVerdict) :
    s.Ties (s.fillVerdict l d grant verdict) := by
  unfold State.fillVerdict
  split
  · exact .refl s
  · next hr =>
    split
    · exact .refl s
    · split
      · exact State.ties_setRecord hr rfl
      · exact (State.ties_takeEntry _ _ _ _ _ _).after (State.ties_setRecord hr rfl)

theorem State.ties_deliverOutcome (s : State) (l : LegId) (ident : Identity) (grant : Cycle) (o : PowerOutcome) :
    s.Ties (s.deliverOutcome l ident grant o) := by
  unfold State.deliverOutcome
  split
  · exact .refl s
  · next hr =>
    refine .ite ?_ (.refl s)
    split
    · exact .refl s
    · split
      · exact State.ties_setRecord hr rfl
      · exact (State.ties_takeEntry _ _ _ _ _ _).after (State.ties_setRecord hr rfl)

theorem State.ties_deliverVerdict (s : State) (l : LegId) (x : Expectation) (look : BurstLook) (judged : Bool) :
    s.Ties (s.deliverVerdict l x look judged) := by
  unfold State.deliverVerdict
  split
  · exact .refl s
  · exact .ite ((State.ties_takeVerdict _ _ _ _).trans (State.ties_fillVerdict _ _ _ _ _)) (.refl s)

/-! ## A leg at the boundary -/

theorem State.ties_requestSample (s : State) (l : LegId) (d : Nat) (q : SampleRequest) :
    s.Ties (s.requestSample l d q) := by
  unfold State.requestSample
  split
  · exact .refl s
  · next hr =>
    exact .ite ((State.ties_setMeter _ _).after (State.ties_setRecord hr rfl)) (State.ties_setRecord hr rfl)

theorem State.ties_expect (s : State) (l : LegId) (e : Expectation) : s.Ties (s.mapLeg l fun x => x.expect e) :=
  State.ties_mapLeg rfl rfl

theorem ties_grantEcho (l : LegId) (n : Cycle) (marker : Nat) (s : State) (g : EchoGrant) :
    s.Ties (State.grantEcho l n marker s g) := by
  cases h : s.record l g.drop with
  | none => rw [State.grantEcho_none n marker h]; exact .refl s
  | some r =>
    obtain ⟨due, e, q, t, rfl, heq | heq⟩ := State.grantEcho_cases n marker h <;> rw [heq]
    · exact (State.ties_expect _ l e).after (State.ties_setRecord h rfl)
    · exact (State.ties_requestSample _ l _ q).after ((State.ties_expect _ l e).after (State.ties_setRecord h rfl))

theorem ties_grantService (l : LegId) (n : Cycle) (marker : Nat) (s : State) (g : ServiceGrant) :
    s.Ties (State.grantService l n marker s g) := by
  cases h : s.record l g.drop with
  | none => rw [State.grantService_none n marker h]; exact .refl s
  | some r =>
    obtain ⟨e, q, t, rfl, heq | heq⟩ := State.grantService_cases n marker h <;> rw [heq]
    · exact State.ties_expect s l e
    · have hrec : (s.mapLeg l fun x => x.expect e).record l g.drop = some r := by
        rw [State.record, State.mapLeg_leg_same]
        exact h
      exact (State.ties_requestSample _ l _ q).after (.after (State.ties_setRecord hrec rfl) (State.ties_expect s l e))

/-- The start of a cycle and its departures: what follows an entry stands in the queue in its place (R51). -/
theorem Leg.tiesAs_depart (x : Leg) (n : Cycle) : x.TiesAs ((x.startRecords n).depart n).1 := by
  obtain ⟨heq, hdrops⟩ := x.depart_leg n
  intro h
  have hdrops := hdrops h.inPlace
  have hqueue := congrArg Leg.queue heq
  generalize ((x.startRecords n).depart n).1 = y at hdrops hqueue
  refine Leg.TiesAs.intro (by rw [hdrops, List.length_map]) (fun _ d => ?_) (fun h => ?_) h
  · simp only [Leg.record, hdrops, List.getElem?_map]
    rcases x.drops[d]? with _ | _ | r <;> rfl
  · rw [Leg.queueSound_iff, hqueue]
    exact keysSound_departed ((Leg.queueSound_iff x).mp h.queue)

theorem State.ties_holdAtBuild (s : State) (l : LegId) (n : Cycle) : s.Ties (s.holdAtBuild l n) := by
  rw [State.holdAtBuild_eq, State.foldl_notify]
  exact (State.ties_setIface _ _).after (State.ties_setLeg (.of_same rfl rfl))

theorem State.ties_beginCycle (s : State) (l : LegId) (marker : Nat) : s.Ties (s.beginCycle l marker) := by
  unfold State.beginCycle
  dsimp only
  have hheld := (State.ties_setLeg ((s.leg l).tiesAs_depart (s.leg l).count)).trans
    (State.ties_holdAtBuild _ l (s.leg l).count)
  exact (State.ties_foldl (ties_grantService l _ marker) _ _).after
    ((State.ties_foldl (ties_grantEcho l _ marker) _ _).after ((State.ties_mapLeg rfl rfl).after hheld))

/-- A queue that loses entries. -/
theorem Leg.tiesAs_lose {x y : Leg} (hdrops : y.drops = x.drops) (hqueue : y.queue.Sublist x.queue) : x.TiesAs y :=
  .intro (by rw [hdrops]) (fun _ d => by simp only [Leg.record, hdrops]) fun h =>
    (Leg.queueSound_iff y).mpr (((Leg.queueSound_iff x).mp h.queue).subperm (hqueue.map _).subperm)

theorem State.ties_beginLeg (s : State) (l : LegId) (marker : Nat) : s.Ties (s.beginLeg l marker) := by
  by_cases hs : (s.leg l).state = .stopped
  · rw [State.beginLeg_stopped hs, State.startCycles_eq]
    have hfinal := State.ties_setLeg (Leg.tiesAs_lose (x := s.leg l) (y := (s.leg l).finalCycle) rfl
      (List.drop_sublist _ _))
    have hstarts := State.ties_setLeg (Leg.tiesAs_lose (x := s.leg l) (y := (s.leg l).starting s.bias.state) rfl
      (List.nil_sublist _))
    exact .ite hfinal (.ite ((State.ties_notify _ _).after ((State.ties_beginCycle _ l marker).after hstarts))
      (State.ties_mapLeg rfl rfl))
  · rw [State.beginLeg_started hs]
    exact (State.ties_beginCycle _ l marker).after (State.ties_mapLeg rfl rfl)

theorem ties_boundaryLeg (marker : Nat) (s : State) (l : LegId) : s.Ties (State.boundaryLeg marker s l) :=
  .ite (State.ties_mapLeg rfl rfl) (s.ties_beginLeg l marker)

/-! ## The Bias Supply -/

theorem State.ties_blindLeg (s : State) (l : LegId) : s.Ties (s.blindLeg l) :=
  .ite ((State.ties_notify _ _).after (State.ties_mapLeg rfl rfl)) (.refl s)

theorem State.ties_wakeLeg (s : State) (l : LegId) : s.Ties (s.wakeLeg l) :=
  .ite ((State.ties_notify _ _).after (State.ties_mapLeg rfl rfl)) (.refl s)

theorem State.ties_abandon (s : State) : s.Ties s.abandon := by
  unfold State.abandon
  dsimp only
  split
  · exact .refl s
  · exact (State.ties_deliverOutcome _ _ _ _ _).after (State.ties_setMeter _ _)
  · exact (State.ties_mapScan _ _ _).after (State.ties_setMeter _ _)
  · exact (State.ties_setMeter _ _).after (State.ties_setMeter _ _)

theorem State.ties_leaveReady (s : State) : s.Ties s.leaveReady := by
  have habort (s : State) (l : LegId) : s.Ties (s.abortRun l) := (s.ties_endTurn l).trans (State.ties_endRun _ _ _ _)
  have hdrop (s : State) (l : LegId) : s.Ties (s.mapLeg l (Leg.dropAnnounces s.bias.readySince)) := s.ties_mapScan l _
  have habandoned := ((State.ties_foldl State.ties_blindLeg Quad.all s).trans
    (State.ties_foldl habort Quad.all _)).trans (State.ties_abandon _)
  exact habandoned.trans (State.ties_foldl hdrop Quad.all _)

theorem State.ties_enterReady (s : State) (instant : Nat) : s.Ties (s.enterReady instant) := by
  unfold State.enterReady
  have hset (b : Bias) (m : Meter) (n : Notice) : s.Ties (((s.setBias b).setMeter m).notify n) := .of_same rfl rfl rfl
  exact (hset _ _ _).trans (State.ties_foldl State.ties_wakeLeg Quad.all _)

theorem State.ties_enterSettling (s : State) : s.Ties s.enterSettling := .of_same rfl rfl rfl

theorem State.ties_countBias (s : State) (instant : Nat) : s.Ties (s.countBias instant) := by
  unfold State.countBias
  split
  · exact .refl s
  · exact .refl s
  · exact .ite (s.ties_enterReady instant) (s.ties_setBias _)
  · exact .ite (.ite s.ties_enterSettling (s.ties_setBias _)) (s.ties_setBias _)

theorem State.ties_enterSag (s : State) : s.Ties s.enterSag := by
  unfold State.enterSag
  dsimp only
  have hsag (b : Bias) : s.Ties (((s.setRail { state := .sag, latch := true, sagSeen := true }).setBias b).notify
      (.railSag b.state)) := .of_same rfl rfl rfl
  have htrip (b : Bias) (n : Notice) := (hsag b).trans (State.ties_notify _ n)
  exact .ite (.ite ((State.ties_leaveReady _).after (htrip _ _)) (htrip _ _)) (hsag _)

theorem State.ties_biasOn (s : State) : s.Ties s.biasOn := by
  unfold State.biasOn
  split
  · exact .of_same rfl rfl rfl
  · exact .refl s

theorem State.ties_biasOff (s : State) : s.Ties s.biasOff := by
  unfold State.biasOff
  split
  · exact .refl s
  · exact (State.ties_leaveReady _).after (s.ties_setBias _)
  · exact .of_same rfl rfl rfl

/-! ## The boundary -/

theorem State.ties_lapseCandidates (s : State) : s.Ties s.lapseCandidates := by
  rw [State.lapseCandidates_eq]
  exact .of_legs rfl (List.filter_sublist.map _) fun l => .refl (s.leg l)

theorem State.ties_arbitrateCalibration (s : State) (instant : Nat) : s.Ties (s.arbitrateCalibration instant) := by
  unfold State.arbitrateCalibration
  split
  · exact .refl s
  · split
    · exact .refl s
    · exact .of_same rfl rfl rfl

theorem State.ties_boundary (s : State) : s.Ties s.boundary := by
  have hlegs : s.Ties s.legsTaken := State.ties_foldl (ties_boundaryLeg s.comingInstant) Quad.all s
  have hmeter : s.Ties s.beforeBias :=
    (State.ties_setMeter _ _).after
      ((State.ties_arbitrateCalibration _ _).after (hlegs.trans (State.ties_lapseCandidates _)))
  have hbias (t : State) (instant : Nat) : t.Ties (t.boundaryBias instant) :=
    (State.ties_setRail _ _).after (.ite (t.ties_setBias _) (t.ties_countBias instant))
  have hcounted (t : State) (n : Nat) : t.Ties { t with boundaries := n } := .of_same rfl rfl rfl
  rw [State.boundary_eq_boundaryBias]
  exact (hcounted _ _).after ((hbias _ _).after hmeter)

/-! ## The receivers -/

theorem State.ties_updateLatch (s : State) (l : LegId) (n : Cycle) (k : CycleClass) :
    s.Ties (s.updateLatch l n k) := by
  have hset (latch : Bool) (count : Nat) :
      s.Ties (s.mapLeg l fun x => x.mapReceiver fun rx => { rx with latch := latch, cleanCount := count }) :=
    State.ties_mapLeg rfl rfl
  unfold State.updateLatch
  dsimp only
  split
  · exact (State.ties_notify _ _).after (hset true 0)
  · exact .refl s
  · exact hset true 0
  · exact .ite ((State.ties_notify _ _).after (hset false 0)) (hset true _)
  · exact .refl s

theorem State.ties_watchTurn (s : State) (l : LegId) (run : IsolationRun) (k : CycleClass) :
    s.Ties (s.watchTurn l run k) := by
  cases k with
  | neutral => exact .refl s
  | stray => exact (s.ties_endTurn l).trans (State.ties_nextTurn _ l)
  | clean => exact .ite ((State.ties_nameCulprit _ l).after (s.ties_setRun l _)) (s.ties_setRun l _)

theorem State.ties_updateRun (s : State) (l : LegId) (n : Cycle) (k : CycleClass) : s.Ties (s.updateRun l n k) := by
  unfold State.updateRun
  split
  · exact .refl s
  · split
    · exact .refl s
    · exact .refl s
    · exact .ite (s.ties_setRun l _) (.ite (s.ties_watchTurn l _ k) (.refl s))

theorem State.ties_screen (s : State) (l : LegId) (a : Announce) : s.Ties (s.screen l a) :=
  .ite (.ite (State.ties_mapLeg rfl rfl) (.refl s)) (s.ties_heard _ _ _)

end Sys2Proof.Machine
end

section
/-! SUPPORT. The steps that change the agreement of roster, records and Candidate List, and keep it: an allocation (R85,
R92, R99), a roster entry put or removed (R76 to R78), and a candidate held, indexed or dropped (R80, R87, R88). -/

namespace Sys2Proof.Machine

/-! ## An ended record's roster entry -/

theorem State.endRun_roster (s : State) (l : LegId) (outcome : RunOutcome) (culprit : Option (Nat × FactoryTag)) :
    (s.endRun l outcome culprit).roster = s.roster := by
  unfold State.endRun
  split <;> rfl

theorem beginTurn_roster (l : LegId) (run : IsolationRun) (ts : List Identity) (pos : Nat) (s : State) :
    (beginTurn l run ts pos s).roster = s.roster := by
  induction ts generalizing pos with
  | nil => exact s.endRun_roster l _ _
  | cons t ts ih =>
    unfold beginTurn
    split
    · exact ih (pos + 1)
    · split
      · rfl
      · exact ih (pos + 1)

theorem State.endRecord_roster {s : State} {l : LegId} {d : Nat} {r : DropRecord} (hr : s.record l d = some r)
    (reason : EndReason) (release : Bool) :
    (s.endRecord l d reason release).roster = (s.unlink r.rosterIndex).roster := by
  unfold State.endRecord
  rw [hr]
  dsimp only
  generalize hu : (if release = true then _ else _ : State) = u
  have hroster : u.roster = (s.unlink r.rosterIndex).roster := by
    rw [← hu]
    split <;> rfl
  split
  · unfold State.nextTurn
    split
    · exact hroster
    · exact (beginTurn_roster _ _ _ _ _).trans hroster
  · exact hroster

/-- The roster entry of an ACTIVE entry's record, once that record has ended, is EXPECTED and has no link (R75). -/
theorem State.Tied.endRecord_rosterAt {s : State} (h : s.Tied) {i : Nat} {e : RosterEntry} (he : s.rosterAt i = some e)
    {l : LegId} {d : Nat} (hlink : e.link = some (l, d)) (reason : EndReason) (release : Bool) :
    (s.endRecord l d reason release).rosterAt i = some { e with state := .expected, link := none } := by
  rcases (entrySound_iff s i e).mp (h.entries i e he) with ⟨hnone, -⟩ | ⟨l', d', r, hlink', -, hr, hi, -⟩
  · cases hnone.symm.trans hlink
  · obtain ⟨rfl, rfl⟩ := Prod.mk.inj (Option.some.inj (hlink'.symm.trans hlink))
    rw [State.rosterAt, State.endRecord_roster hr, hi]
    exact (s.unlink_rosterAt i i).trans (by rw [if_pos rfl, he]; rfl)

/-- An entry that is not ACTIVE has no link. -/
theorem State.Tied.link_none {s : State} (h : s.Tied) {i : Nat} {e : RosterEntry} (he : s.rosterAt i = some e)
    (hstate : e.state ≠ .active) : e.link = none := by
  rcases (entrySound_iff s i e).mp (h.entries i e he) with ⟨hnone, -⟩ | ⟨_, _, _, -, hactive, -⟩
  · exact hnone
  · exact absurd hactive hstate

/-! ## Allocation -/

/-- The record of a FREE place is allocated from an entry that has no link. -/
theorem State.ties_allocate {s : State} {l : LegId} {d : Nat} {a : Admission} {e : RosterEntry}
    (hfree : s.record l d = none) (hd : d < (s.leg l).drops.length) (he : s.rosterAt a.index = some e)
    (hlink : e.link = none) (htag : a.tag = e.tag) (hplot : a.plot = e.plot) (hshare : a.share = e.share) :
    s.Ties (s.allocate l d a) := by
  unfold State.allocate
  dsimp only
  generalize hr : allocated (s.leg l) d a = r
  obtain ⟨hident, hindex, hrtag, hrplot, hrshare⟩ :
      r.ident.drop = d ∧ r.rosterIndex = a.index ∧ r.tag = a.tag ∧ r.plot = a.plot ∧ r.share = a.share := by
    rw [← hr]
    exact ⟨rfl, rfl, rfl, rfl, rfl⟩
  generalize hm : (s.mapLeg l fun x => { x.setRecord d (some r) with allocCount := x.allocCount + 1#32 }) = m
  have hmat : m.rosterAt a.index = some e := by rw [← hm]; exact he
  rw [hmat]
  dsimp only
  generalize hactive : ({ e with state := .active, link := some (l, d) } : RosterEntry) = e'
  have hmroster : m.roster = s.roster := by rw [← hm]; rfl
  have hat (j : Nat) : (m.setRosterAt a.index (some e')).rosterAt j =
      if j = a.index then some e' else s.rosterAt j := by
    split
    · next hj => rw [hj, State.setRosterAt_rosterAt_same (State.rosterAt_lt hmat)]
    · next hj => rw [State.setRosterAt_rosterAt_other _ hj, State.rosterAt, hmroster]; rfl
  have hmleg (k : LegId) : (m.setRosterAt a.index (some e')).leg k =
      if k = l then { (s.leg l).setRecord d (some r) with allocCount := (s.leg l).allocCount + 1#32 }
      else s.leg k := by
    rw [← hm]
    exact State.mapLeg_leg s l k fun x => { x.setRecord d (some r) with allocCount := x.allocCount + 1#32 }
  have hplaced : (m.setRosterAt a.index (some e')).record l d = some r := by
    rw [State.record, hmleg, if_pos rfl]
    exact Leg.setRecord_record_same (s.leg l) (some r) hd
  have hother {k : LegId} {c : Nat} (h : some (k, c) ≠ some (l, d)) :
      (m.setRosterAt a.index (some e')).record k c = s.record k c := by
    rw [State.record, hmleg]
    split
    · next hk =>
      subst hk
      exact Leg.setRecord_record_other (s.leg k) (some r) fun hc => h (by rw [hc])
    · rfl
  have htied : s.Ties (m.setRosterAt a.index (some e')) := by
    refine ⟨fun h => ?_, fun j => ?_, ?_⟩
    · refine h.touch a.index (some (l, d)) (by simp [hmroster]) (fun k => ?_)
        (fun j hj => by rw [hat, if_neg hj]) (fun k c hk => by rw [hother hk]) (fun f hf => ?_)
        (fun k c f hk hf => ?_) (fun f hf j g hj hg => ?_) (fun f hf => ?_) fun k c f hk hf => ?_
      · rw [hmleg]
        split
        · exact (Leg.TiesAs.of_same (x := (s.leg l).setRecord d (some r))
            (y := { (s.leg l).setRecord d (some r) with allocCount := (s.leg l).allocCount + 1#32 })
            rfl rfl ((h.legs l).put hident)).1
        · exact h.legs k
      · exact .inl (Option.some.inj (he.symm.trans hf) ▸ hlink)
      · cases hk
        cases hfree.symm.trans hf
      · rw [hat, if_pos rfl] at hf
        obtain rfl := Option.some.inj hf
        intro hgtag
        exact hj (h.tags j a.index g e hg he (by rw [hgtag, ← hactive]))
      · rw [hat, if_pos rfl] at hf
        obtain rfl := Option.some.inj hf
        rw [entrySound_iff]
        subst hactive
        exact .inr ⟨l, d, r, rfl, rfl, hplaced, hindex, hrtag.trans htag, hrplot.trans hplot, hrshare.trans hshare⟩
      · cases hk
        obtain rfl := Option.some.inj (hplaced.symm.trans hf)
        exact ⟨e', by rw [hindex, hat, if_pos rfl], by rw [← hactive]⟩
    · rw [hat]
      split
      · next hj => rw [hj, he, ← hactive]; rfl
      · rfl
    · rw [← hm]
      exact .refl _
  exact htied.trans (State.ties_direct hplaced (hident ▸ rfl))

theorem State.ties_takeIn {s : State} {i : Nat} {e f : RosterEntry} (hf : s.rosterAt i = some f) (hlink : f.link = none)
    (htag : e.tag = f.tag) (hplot : e.plot = f.plot) (hshare : e.share = f.share) (l : LegId) (r : Nat)
    (launch : LaunchStep) (power : Option Int) (vector : AttrSet) :
    s.Ties (s.takeIn l i e r launch power vector) := by
  unfold State.takeIn
  split
  · exact .refl s
  · next d hd =>
    obtain ⟨hplace, -⟩ := firstFree_spec hd
    obtain ⟨hlt, -⟩ := List.getElem?_eq_some_iff.mp hplace
    have hfree : s.record l d = none := by rw [State.record, Leg.record, hplace]; rfl
    exact State.ties_allocate hfree hlt hf hlink htag hplot hshare

/-! ## The roster -/

/-- A roster place that holds no linked entry takes one, or none. -/
theorem State.Tied.setRosterAt {s : State} (h : s.Tied) {i : Nat} {o : Option RosterEntry} (hi : i < s.roster.length)
    (hold : ∀ e, s.rosterAt i = some e → e.link = none) (hnew : ∀ e, o = some e → e.link = none ∧ e.state ≠ .active)
    (htag : ∀ e, o = some e → ∀ j f, j ≠ i → s.rosterAt j = some f → f.tag ≠ e.tag) : (s.setRosterAt i o).Tied := by
  have hat := State.setRosterAt_rosterAt_same hi o
  refine h.touch i none (List.length_set ..) h.legs
    (fun j hj => by rw [State.setRosterAt_rosterAt_other s hj]) (fun _ _ _ => rfl) (fun e he => .inl (hold e he))
    (fun _ _ _ hk => nomatch hk) (fun e he => htag e (hat.symm.trans he))
    (fun e he => (entrySound_iff _ _ _).mpr (.inl (hnew e (hat.symm.trans he)))) fun _ _ _ hk => nomatch hk

/-- A change of the entries of one tag moves the index of no other. -/
theorem State.Tied.index_other {s : State} (h : s.Tied) {i : Nat} {o : Option RosterEntry} {tag t : FactoryTag}
    (hset : (s.setRosterAt i o).Tied) (hold : ∀ e, s.rosterAt i = some e → e.tag = tag)
    (hnew : ∀ e, o = some e → e.tag = tag) (ht : t ≠ tag) :
    ((s.setRosterAt i o).rosterEntry t).map Prod.fst = (s.rosterEntry t).map Prod.fst := by
  refine index_congr h hset fun j => ?_
  by_cases hj : j = i
  · subst hj
    refine ⟨fun ⟨e, he, het⟩ => ?_, fun ⟨e, he, het⟩ => absurd (het.symm.trans (hold e he)) ht⟩
    have hlt : j < (s.setRosterAt j o).roster.length := State.rosterAt_lt he
    rw [State.setRosterAt_rosterAt_same (by rwa [State.setRosterAt_roster, List.length_set] at hlt)] at he
    exact absurd (het.symm.trans (hnew e he)) ht
  · rw [State.setRosterAt_rosterAt_other s hj]

/-! ## The Candidate List -/

theorem State.Tied.of_setCandidates {s : State} (h : s.Tied) (cs : List Candidate) : (s.setCandidates cs).Tied :=
  ⟨h.roster, h.legs, h.tags, h.entries, h.records⟩

/-- The candidate of a tag takes the index that its roster entry has after a change of the entries of that tag (R80). -/
theorem State.linked_indexCandidate {s : State} (h : s.Linked) {i : Nat} {o : Option RosterEntry} {tag : FactoryTag}
    (hset : (s.setRosterAt i o).Tied) (hold : ∀ e, s.rosterAt i = some e → e.tag = tag)
    (hnew : ∀ e, o = some e → e.tag = tag) {j : Option Nat}
    (hj : ((s.setRosterAt i o).rosterEntry tag).map Prod.fst = j) :
    ((s.setRosterAt i o).indexCandidate tag j).Linked := by
  obtain ⟨htied, hbound, hnodup, hindices⟩ := s.linked_iff.mp h
  refine (State.linked_iff _).mpr ⟨hset.of_setCandidates _, ?_, ?_, fun c hc => ?_⟩
  · exact (List.length_map ..).trans_le hbound
  · have htags : (s.candidates.map fun c => if c.tag = tag then { c with rosterIndex := j } else c).map Candidate.tag =
        s.candidates.map Candidate.tag := by
      rw [List.map_map]
      refine List.map_congr_left fun c _ => ?_
      rw [Function.comp, apply_ite Candidate.tag]
      exact ite_self _
    show (List.map Candidate.tag (s.candidates.map _)).Nodup
    rw [htags]
    exact hnodup
  · obtain ⟨c', hc', rfl⟩ := List.mem_map.mp hc
    show _ = ((s.setRosterAt i o).rosterEntry _).map Prod.fst
    split
    · next htag => rw [← hj, htag]
    · next htag => rw [htied.index_other hset hold hnew htag]; exact hindices c' hc'

/-- The candidate of a tag leaves the list as the entries of its tag change, and the rest keeps the agreement. -/
theorem State.linked_dropCandidate {s t : State} (h : s.Linked) {i : Nat} {o : Option RosterEntry} {tag : FactoryTag}
    (hset : (s.setRosterAt i o).Tied) (hold : ∀ e, s.rosterAt i = some e → e.tag = tag)
    (hnew : ∀ e, o = some e → e.tag = tag) (hties : (s.setRosterAt i o).Ties t) : (t.dropCandidate tag).Linked := by
  obtain ⟨htied, hbound, hnodup, hindices⟩ := s.linked_iff.mp h
  -- the list without the tag agrees with the roster already before the rest
  have hdropped : ((s.setRosterAt i o).dropCandidate tag).Linked := by
    refine (State.linked_iff _).mpr ⟨hset.of_setCandidates _, (List.length_filter_le ..).trans hbound,
      hnodup.sublist (List.filter_sublist.map _), fun c hc => ?_⟩
    obtain ⟨hmem, htag⟩ := List.mem_filter.mp hc
    show _ = ((s.setRosterAt i o).rosterEntry c.tag).map Prod.fst
    rw [htied.index_other hset hold hnew (of_decide_eq_true htag)]
    exact hindices c hmem
  have hcandidates : (t.candidates.filter fun c => decide (c.tag ≠ tag)).map Candidate.tie =
      (t.candidates.map Candidate.tie).filter fun c => decide (c.1 ≠ tag) := by
    rw [List.filter_map]; rfl
  have hcandidates' : (s.candidates.filter fun c => decide (c.tag ≠ tag)).map Candidate.tie =
      (s.candidates.map Candidate.tie).filter fun c => decide (c.1 ≠ tag) := by
    rw [List.filter_map]; rfl
  have hstep : ((s.setRosterAt i o).dropCandidate tag).Ties (t.dropCandidate tag) := by
    refine ⟨fun _ => (hties.tied hset).of_setCandidates _, hties.tags, ?_⟩
    show ((t.candidates.filter _).map Candidate.tie).Sublist ((s.candidates.filter _).map Candidate.tie)
    rw [hcandidates, hcandidates']
    exact hties.candidates.filter _
  exact hstep.linked hdropped

end Sys2Proof.Machine
end

section
/-! SUPPORT. The decisions on announces and candidates (R81 to R94) keep the agreement of roster, records and Candidate
List. -/

namespace Sys2Proof.Machine

theorem State.Linked.tied {s : State} (h : s.Linked) : s.Tied := (s.linked_iff.mp h).1

/-- The candidate of a tag has the index of the roster entry that holds the tag. -/
theorem State.Linked.index {s : State} (h : s.Linked) {i : Nat} {e : RosterEntry} {tag : FactoryTag}
    (he : s.rosterAt i = some e) (htag : e.tag = tag) : (s.rosterEntry tag).map Prod.fst = some i :=
  h.tied.index_iff.mpr ⟨e, he, htag⟩

/-! ## The announces of a window (R81 to R88) -/

section Decision

variable {s : State} {l : LegId} {a : Announce}

/-- An announce whose tag has no candidate is held with its roster index, or finds the list full (R86, R88). -/
theorem State.linked_holdCandidate (h : s.Linked) (hc : s.candidate a.tag = none) {i : Option Nat}
    (hi : (s.rosterEntry a.tag).map Prod.fst = i) (reason : HeldReason) : (s.holdCandidate l a reason i).Linked := by
  unfold State.holdCandidate
  split
  · next hroom =>
    obtain ⟨htied, -, hnodup, hindices⟩ := s.linked_iff.mp h
    refine (State.ties_notify _ _).linked ((State.linked_iff _).mpr ⟨htied.of_setCandidates _, ?_, ?_, fun c hmem => ?_⟩)
    · exact (List.length_append ..).trans_le hroom
    · show ((s.candidates ++ [newCandidate l a reason i]).map Candidate.tag).Nodup
      rw [List.map_append]
      exact hnodup.append (List.nodup_singleton _) (List.disjoint_singleton.mpr (State.candidate_eq_none.mp hc))
    · rcases List.mem_append.mp hmem with hmem | hmem
      · exact hindices c hmem
      · rw [List.mem_singleton.mp hmem]
        exact hi.symm
  · exact h

/-- Steps 5 to 7 of R81, for an entry that has no link. -/
theorem State.linked_decideExpected (h : s.Linked) (hc : s.candidate a.tag = none) {i : Nat} {e : RosterEntry}
    (he : s.rosterAt i = some e) (hlink : e.link = none) (htag : e.tag = a.tag) : (s.decideExpected l a i e).Linked := by
  have held (reason : HeldReason) := State.linked_holdCandidate (l := l) h hc (h.index he htag) reason
  unfold State.decideExpected
  split
  · split
    · exact held _
    · exact (State.ties_takeIn he hlink rfl rfl rfl l _ _ _ _).linked h
  · exact held _

theorem State.linked_restarted (h : s.Linked) (hc : s.candidate a.tag = none) {i : Nat} {e : RosterEntry}
    (he : s.rosterAt i = some e) {d : Nat} (hlink : e.link = some (l, d)) (htag : e.tag = a.tag) :
    (s.restarted l a i e d).Linked := by
  have hended := s.keeps_endRecord l d .superseded false
  unfold State.restarted
  split
  · exact h
  · split
    · exact h
    · exact State.linked_decideExpected ((s.ties_endRecord l d _ _).linked h) (hended.candidate_none hc)
        (h.tied.endRecord_rosterAt he hlink _ _) rfl htag

theorem State.linked_admission (h : s.Linked) : (s.admission l a).Linked := by
  unfold State.admission
  replace h := (s.ties_heard a.tag l a.cycle).linked h
  generalize s.heard a.tag l a.cycle = t at h ⊢
  dsimp only
  split
  · split
    · refine (t.ties_mapCandidates fun c => ?_).linked h
      split <;> rfl
    · exact h
  · next hc =>
    split
    · next i e he =>
      obtain ⟨hat, htag⟩ := State.rosterEntry_spec he
      split
      · exact (t.ties_park l a.tag).linked h
      · next hlink =>
        split
        · next heq => exact State.linked_restarted h hc hat (heq ▸ hlink) htag
        · exact State.linked_holdCandidate h hc (h.index hat htag) _
      · next hunlinked =>
        refine State.linked_decideExpected h hc hat ?_ htag
        rcases (entrySound_iff t i e).mp (h.tied.entries i e hat) with ⟨hnone, -⟩ | ⟨_, _, _, hlink, hactive, -⟩
        · exact hnone
        · exact absurd hlink (hunlinked _ _ hactive)
    · next hnone =>
      split
      · exact State.linked_holdCandidate h hc (by rw [hnone]; rfl) _
      · exact h

end Decision

/-! ## ADMIT (R90 to R92) -/

theorem RosterEntry.correct_tie (e : RosterEntry) (l : LegId) : (e.correct l).tie = e.tie := by
  unfold RosterEntry.correct
  split <;> rfl

/-- The record of an ACTIVE entry ends; the entry has no link after it. -/
theorem State.superseded {s : State} (h : s.Tied) {i : Nat} {e : RosterEntry} (he : s.rosterAt i = some e) :
    s.Ties (s.supersedeLinked e) ∧
      ∃ f, (s.supersedeLinked e).rosterAt i = some f ∧ f.link = none ∧ e.tag = f.tag ∧ e.plot = f.plot ∧
        e.share = f.share := by
  unfold State.supersedeLinked
  split
  · next hlink =>
    exact ⟨s.ties_endRecord _ _ _ _, _, h.endRecord_rosterAt he hlink _ _, rfl, rfl, rfl, rfl⟩
  · next hunlinked =>
    refine ⟨.refl s, e, he, ?_, rfl, rfl, rfl⟩
    rcases (entrySound_iff s i e).mp (h.entries i e he) with ⟨hnone, -⟩ | ⟨_, _, _, hlink, hactive, -⟩
    · exact hnone
    · exact absurd hlink (hunlinked _ _ hactive)

/-- The entry that an ADMIT uses: the one that holds the tag, or a new one at a free place. -/
theorem State.admitCheck_entry {s : State} {f : VerdictFields} {c : Candidate} {i : Nat} {e : RosterEntry}
    (h : s.admitCheck f c = .ok (i, e)) :
    s.rosterEntry f.tag = some (i, e) ∨
      s.rosterEntry f.tag = none ∧ firstFree s.roster = some i ∧ e.tag = f.tag ∧ e.link = none ∧ e.state ≠ .active := by
  unfold State.admitCheck at h
  dsimp only at h
  split at h
  · next hentry =>
    split at h
    · cases h
    · split at h <;> cases h
      exact .inl hentry
  · next hnone =>
    split at h
    · cases h
    · split at h
      · cases h
      · next hfree =>
        split at h <;> cases h
        exact .inr ⟨hnone, hfree, rfl, rfl, nofun⟩

/-- A roster place that is free is within the roster, and holds no entry. -/
theorem State.rosterAt_of_firstFree {s : State} {i : Nat} (h : firstFree s.roster = some i) :
    i < s.roster.length ∧ s.rosterAt i = none := by
  obtain ⟨hplace, -⟩ := firstFree_spec h
  obtain ⟨hlt, -⟩ := List.getElem?_eq_some_iff.mp hplace
  exact ⟨hlt, by rw [State.rosterAt, hplace]; rfl⟩

/-- No entry has a tag that is not found. -/
theorem State.tag_of_rosterEntry_none {s : State} {tag : FactoryTag} (h : s.rosterEntry tag = none) {j : Nat}
    {e : RosterEntry} (he : s.rosterAt j = some e) : e.tag ≠ tag :=
  findTag_none h e (List.mem_of_getElem? (Option.join_eq_some_iff.mp he))

/-- A free roster place takes an entry of a tag that no entry holds. -/
theorem State.Tied.setRosterAt_new {s : State} (h : s.Tied) {i : Nat} {e : RosterEntry}
    (hfree : firstFree s.roster = some i) (hnone : s.rosterEntry e.tag = none) (hlink : e.link = none)
    (hstate : e.state ≠ .active) : (s.setRosterAt i (some e)).Tied := by
  obtain ⟨hi, hat⟩ := State.rosterAt_of_firstFree hfree
  refine h.setRosterAt hi (fun f hf => nomatch hat.symm.trans hf) (fun f hf => ?_) fun f hf j g _ hg => ?_
  · exact Option.some.inj hf ▸ ⟨hlink, hstate⟩
  · exact Option.some.inj hf ▸ State.tag_of_rosterEntry_none hnone hg

theorem State.linked_carryAdmit {s : State} (h : s.Linked) {f : VerdictFields} {c : Candidate} (hc : c.tag = f.tag)
    {i : Nat} {e : RosterEntry} (hcheck : s.admitCheck f c = .ok (i, e)) : (s.carryAdmit c i e).Linked := by
  have htie := e.correct_tie c.leg
  generalize hcorrect : e.correct c.leg = e' at htie
  simp only [RosterEntry.tie, Prod.mk.injEq] at htie
  obtain ⟨htag, hplot, hshare, hstate, hlink⟩ := htie
  -- the corrected entry stands in the roster, whether the entry is new or not
  obtain ⟨hi, hset, hold, hentry⟩ : i < s.roster.length ∧ (s.setRosterAt i (some e')).Tied ∧
      (∀ f, s.rosterAt i = some f → f.tag = c.tag) ∧ e.tag = c.tag := by
    rcases State.admitCheck_entry hcheck with hentry | ⟨hnone, hfree, hentry, hunlinked, hinactive⟩
    · obtain ⟨hat, hentry⟩ := State.rosterEntry_spec hentry
      refine ⟨State.rosterAt_lt hat, (State.ties_setRosterAt hat ?_).tied h.tied, fun g hg => ?_, hentry.trans hc.symm⟩
      · simp only [RosterEntry.tie, htag, hplot, hshare, hstate, hlink]
      · exact Option.some.inj (hat.symm.trans hg) ▸ hentry.trans hc.symm
    · obtain ⟨hi, hat⟩ := State.rosterAt_of_firstFree hfree
      refine ⟨hi, h.tied.setRosterAt_new hfree ?_ (hlink.trans hunlinked) (hstate ▸ hinactive),
        fun g hg => (nomatch hat.symm.trans hg), hentry.trans hc.symm⟩
      rwa [htag, hentry]
  have hat := State.setRosterAt_rosterAt_same hi (some e')
  obtain ⟨hended, g, hg, hglink, hgtag, hgplot, hgshare⟩ := State.superseded hset hat
  unfold State.carryAdmit
  rw [hcorrect]
  refine State.linked_dropCandidate h hset hold (fun g hg => ?_)
    (hended.trans (State.ties_takeIn hg hglink hgtag hgplot hgshare _ _ _ _ _))
  exact Option.some.inj hg ▸ htag.trans hentry

end Sys2Proof.Machine
end

section
/-! SUPPORT. The requests keep the agreement of roster, records, queues and Candidate List. -/

namespace Sys2Proof.Machine

/-! ## Roster entries put (R76, R77) -/

/-- An entry that is not ACTIVE takes the values of a ROSTER-PUT. -/
theorem State.ties_putInactive {s : State} {i : Nat} {e e' : RosterEntry} (he : s.rosterAt i = some e)
    (hstate : e.state ≠ .active) (htag : e'.tag = e.tag) (hlink : e'.link = e.link) (hstate' : e'.state ≠ .active) :
    s.Ties (s.setRosterAt i (some e')) := by
  refine ⟨fun h => ?_, fun j => ?_, .refl _⟩
  · have hnone := h.link_none he hstate
    refine h.setRosterAt (State.rosterAt_lt he) (fun f hf => Option.some.inj (he.symm.trans hf) ▸ hnone)
      (fun f hf => Option.some.inj hf ▸ ⟨hlink.trans hnone, hstate'⟩) fun f hf j g hj hg hgtag => ?_
    obtain rfl := Option.some.inj hf
    exact hj (h.tags j i g e hg he (hgtag.trans htag))
  · by_cases hj : j = i
    · subst hj
      rw [State.setRosterAt_rosterAt_same (State.rosterAt_lt he), he]
      exact congrArg some htag
    · rw [State.setRosterAt_rosterAt_other s hj]

/-- An ACTIVE entry and the record of its link take a plot label and a share together (R77). -/
theorem State.ties_putActive {s : State} {i : Nat} {e : RosterEntry} (he : s.rosterAt i = some e)
    (hactive : e.state = .active) (plot share : Nat) :
    s.Ties ((s.setRosterAt i (some { e with plot := plot, share := share })).relabel e.link plot share) := by
  generalize hput : ({ e with plot := plot, share := share } : RosterEntry) = e'
  generalize ht : (s.setRosterAt i (some e')).relabel e.link plot share = t
  have hroster : t.roster = s.roster.set i (some e') := by
    rw [← ht]
    unfold State.relabel
    split
    · rfl
    · split <;> rfl
  have hcandidates : t.candidates = s.candidates := by
    rw [← ht]
    unfold State.relabel
    split
    · rfl
    · split <;> rfl
  have hat (j : Nat) : t.rosterAt j = (s.setRosterAt i (some e')).rosterAt j := by
    rw [State.rosterAt, hroster]; rfl
  have hsame := (hat i).trans (State.setRosterAt_rosterAt_same (State.rosterAt_lt he) (some e'))
  have hother {j : Nat} (hj : j ≠ i) : t.rosterAt j = s.rosterAt j :=
    (hat j).trans (State.setRosterAt_rosterAt_other s hj _)
  refine ⟨fun h => ?_, fun j => ?_, hcandidates ▸ .refl _⟩
  · rcases (entrySound_iff s i e).mp (h.entries i e he) with ⟨-, hn⟩ | ⟨l, d, r, hlink, -, hr, hi, htag, -⟩
    · exact absurd hactive hn
    -- the record of the link takes the values
    obtain rfl : (s.setRosterAt i (some e')).setRecord l d (some { r with plot := plot, share := share }) = t := by
      have hr' : (s.setRosterAt i (some e')).record l d = some r := hr
      rw [← ht, hlink, State.relabel, hr']
    generalize hlabel : ({ r with plot := plot, share := share } : DropRecord) = r' at hroster hat hsame hother
    have hplaced : ((s.setRosterAt i (some e')).setRecord l d (some r')).record l d = some r' :=
      State.setRecord_record_same _ l _ (Leg.record_lt hr)
    refine h.touch i (some (l, d)) (by rw [hroster, List.length_set]) (fun k => ?_) (fun j hj => by rw [hother hj])
      (fun k c hk => ?_) (fun f hf => ?_) (fun k c f hk hf => ?_) (fun f hf j g hj hg => ?_) (fun f hf => ?_)
      fun k c f hk hf => ?_
    · rw [State.setRecord, State.setLeg_leg]
      split
      · exact (h.legs l).put (hlabel ▸ (h.legs l).inPlace d r hr)
      · exact h.legs k
    · rw [State.setRecord_record_other _ _ (by simpa [Classical.or_iff_not_imp_left] using hk)]
      rfl
    · exact .inr (Option.some.inj (he.symm.trans hf) ▸ hlink)
    · cases hk
      exact Option.some.inj (hr.symm.trans hf) ▸ hi
    · obtain rfl := Option.some.inj (hsame.symm.trans hf)
      exact fun hgtag => hj (h.tags j i g e hg he (by rw [hgtag, ← hput]))
    · obtain rfl := Option.some.inj (hsame.symm.trans hf)
      rw [entrySound_iff]
      subst hput hlabel
      exact .inr ⟨l, d, _, hlink, hactive, hplaced, hi, htag, rfl, rfl⟩
    · cases hk
      obtain rfl := Option.some.inj (hplaced.symm.trans hf)
      subst hput hlabel
      exact ⟨_, (congrArg _ hi).trans hsame, hlink⟩
  · by_cases hj : j = i
    · rw [hj, hsame, he, ← hput]; rfl
    · rw [hother hj]

/-! ## The teardown of a leg (R152) -/

theorem State.ties_endHold (s : State) (l : LegId) (cause : HoldCause) : s.Ties (s.endHold l cause) := by
  unfold State.endHold
  split
  · exact .refl s
  · exact (State.ties_notify _ _).after (State.ties_mapLeg rfl rfl)

theorem State.ties_endAll (s : State) (l : LegId) : s.Ties (s.endAll l) :=
  State.ties_foldl (fun s (p : Nat × DropRecord) => s.ties_endRecord l p.1 .stopped false) (s.leg l).live s

/-- A queue that holds one Release ALL is within its bounds. -/
theorem keysSound_releaseAll (follow : FollowOn) :
    KeysSound ([{ dir := .releaseAll, ident := none, follow := follow }].map QueueEntry.key) := by
  constructor <;> simp [QueueEntry.key, Directive.drop?, Directive.parked?]

theorem State.ties_teardown (s : State) (l : LegId) : s.Ties (s.teardown l) := by
  have hstopped := State.ties_mapLeg (s := s) (l := l) (f := fun x => { x with state := .stopped, finalPending := true })
    rfl rfl
  have hended := ((hstopped.trans (State.ties_endRun _ l .aborted none)).trans (State.ties_endHold _ l .stopped)).trans
    (State.ties_endAll _ l)
  have hreleased (s : State) : s.Ties (s.mapLeg l fun x =>
      { x with queue := [{ dir := .releaseAll, ident := none, follow := FollowOn.empty }] }) :=
    State.ties_setLeg ((s.leg l).tiesAs_queue fun _ _ => keysSound_releaseAll _)
  have hcleared (s : State) : s.Ties (s.mapLeg l fun x => x.mapReceiver Receiver.cleared) := State.ties_mapLeg rfl rfl
  have hquiet (s : State) : s.Ties (s.mapLeg l fun x => { x with calendar := none }) := State.ties_mapLeg rfl rfl
  unfold State.teardown
  exact (State.ties_notify _ _).after ((hquiet _).after ((State.ties_setMeter _ _).after ((hcleared _).after
    ((hreleased _).after ((State.ties_filterCandidates _ _).after hended)))))

end Sys2Proof.Machine
end

section
/-! SUPPORT. Each request is answered in a state that keeps the agreement of roster, records, queues and Candidate List. -/

namespace Sys2Proof.Machine

/-- A request answered from a state in agreement leaves one in agreement. -/
def AnswersLinked (act : State → Answer) : Prop := ∀ s, s.Linked → (act s).state.Linked

theorem answersLinked_refuse (code : ReplyCode) : AnswersLinked (refuse code) := fun _ h => h

/-- A request answered DONE with a state that keeps the agreement. -/
theorem State.Linked.done {s t : State} (hs : s.Linked) (h : s.Ties t) (values : List Byte) :
    (done t values).state.Linked :=
  h.linked hs

theorem answersLinked_parsed {α : Type} {parse : List Byte → Option α} {act : α → State → Answer}
    (hact : ∀ f, AnswersLinked (act f)) (payload : List Byte) : AnswersLinked (parsed parse act payload) := by
  intro s h
  unfold parsed
  split
  · exact h
  · exact hact _ s h

theorem answersLinked_withLeg {act : LegId → State → Answer} (hact : ∀ l, AnswersLinked (act l)) (n : Nat) :
    AnswersLinked (withLeg n act) := by
  intro s h
  unfold withLeg
  split
  · exact h
  · exact hact _ s h

theorem answersLinked_withDrop {act : LegId → Nat → State → Answer} (hact : ∀ l d, AnswersLinked (act l d))
    (f : DropFields) : AnswersLinked (withDrop f act) :=
  answersLinked_withLeg (fun l s h => by split; exacts [hact l _ s h, h]) f.leg

/-! ## The part and its legs -/

theorem answersLinked_status (payload : List Byte) : AnswersLinked (answerStatus payload) :=
  answersLinked_parsed (fun _ s => (State.ties_setRail s _).linked) payload

theorem answersLinked_reset (payload : List Byte) : AnswersLinked (answerReset payload) :=
  answersLinked_parsed (fun _ s => (State.ties_setIface s _).linked) payload

theorem answersLinked_bias (payload : List Byte) : AnswersLinked (answerBias payload) :=
  answersLinked_parsed (fun _ s => (State.Ties.ite s.ties_biasOn s.ties_biasOff).linked) payload

theorem answersLinked_setupLeg (payload : List Byte) : AnswersLinked (answerSetupLeg payload) := by
  refine answersLinked_parsed (fun f => answersLinked_withLeg (fun l s h => ?_) _) payload
  split
  · exact h
  · repeat' split
    any_goals exact h
    exact h.done (State.ties_mapLeg rfl rfl) _

theorem answersLinked_startLeg (payload : List Byte) : AnswersLinked (answerStartLeg payload) := by
  refine answersLinked_parsed (fun f => answersLinked_withLeg (fun l s h => ?_) _) payload
  split
  · exact h
  · exact h.done (State.ties_mapLeg rfl rfl) _

theorem answersLinked_stopLeg (payload : List Byte) : AnswersLinked (answerStopLeg payload) := by
  refine answersLinked_parsed (fun f => answersLinked_withLeg (fun l s h => ?_) _) payload
  split
  · exact h.done (s.ties_teardown l) _
  · exact h

theorem answersLinked_legMuster (payload : List Byte) : AnswersLinked (answerLegMuster payload) :=
  answersLinked_parsed (fun _ => answersLinked_withLeg (fun _ _ h => h.done (State.ties_mapLeg rfl rfl) _) _) payload

theorem answersLinked_holdLeg (payload : List Byte) : AnswersLinked (answerHoldLeg payload) := by
  refine answersLinked_parsed (fun f => answersLinked_withLeg (fun l s h => ?_) _) payload
  dsimp only
  split
  · exact h
  · split
    · exact h
    · exact h.done (State.ties_mapLeg rfl rfl) _

theorem answersLinked_unholdLeg (payload : List Byte) : AnswersLinked (answerUnholdLeg payload) := by
  refine answersLinked_parsed (fun f => answersLinked_withLeg (fun l s h => ?_) _) payload
  split
  · exact h.done (s.ties_endHold l _) _
  · exact h

theorem answersLinked_isolateLeg (payload : List Byte) : AnswersLinked (answerIsolateLeg payload) := by
  refine answersLinked_parsed (fun f => answersLinked_withLeg (fun l s h => ?_) _) payload
  dsimp only
  split
  · exact h.done ((ties_beginTurn l _ _ 0 _).after (s.ties_setRun l _)) _
  · exact h

/-! ## The roster and the Candidate List -/

/-- A new entry is found for its tag at its index, and a candidate of the tag takes the index (R76, R80). -/
theorem State.linked_putNew {s : State} (h : s.Linked) {f : RosterPutFields} (hnone : s.rosterEntry f.tag = none)
    (leg : ExpectedLeg) : (s.putNew f leg).state.Linked := by
  unfold State.putNew
  split
  · exact h
  · next i hfree =>
    dsimp only
    generalize he :
      ({ tag := f.tag, plot := f.plot, expected := leg, share := f.share, state := putState f.barred, link := none,
         lastHeard := none } : RosterEntry) = e
    have htag : e.tag = f.tag := by rw [← he]
    obtain ⟨hi, hat⟩ := State.rosterAt_of_firstFree hfree
    have hset : (s.setRosterAt i (some e)).Tied := by
      refine h.tied.setRosterAt_new hfree (htag ▸ hnone) (by rw [← he]) ?_
      rw [← he]
      dsimp only [putState]
      split <;> nofun
    exact State.linked_indexCandidate h hset (fun g hg => nomatch hat.symm.trans hg)
      (fun g hg => Option.some.inj hg ▸ htag)
      (hset.index_iff.mpr ⟨e, State.setRosterAt_rosterAt_same hi _, htag⟩)

theorem State.linked_putOver {s : State} (h : s.Linked) {f : RosterPutFields} {i : Nat} {e : RosterEntry}
    (he : s.rosterAt i = some e) (leg : ExpectedLeg) : (s.putOver f leg i e).state.Linked := by
  unfold State.putOver
  split
  · next hactive =>
    split
    · exact h
    · exact h.done (State.ties_putActive he hactive _ _) _
  · next hactive =>
    have hstate : putState f.barred ≠ .active := by
      unfold putState
      split <;> nofun
    exact h.done (State.ties_putInactive he hactive
      (e' := { e with plot := f.plot, expected := leg, share := f.share, state := putState f.barred })
      rfl rfl hstate) _

theorem answersLinked_rosterPut (payload : List Byte) : AnswersLinked (answerRosterPut payload) := by
  refine answersLinked_parsed (fun f s h => ?_) payload
  split
  · split
    · next hnone => exact State.linked_putNew h hnone _
    · next he => exact State.linked_putOver h (State.rosterEntry_spec he).1 _
  · exact h

/-- The tag of an entry that is removed has none after it, and a candidate of the tag loses its index (R78, R80). -/
theorem answersLinked_rosterRemove (payload : List Byte) : AnswersLinked (answerRosterRemove payload) := by
  refine answersLinked_parsed (fun t s h => ?_) payload
  split
  · exact h
  · next i e he =>
    obtain ⟨hat, htag⟩ := State.rosterEntry_spec he
    split
    · exact h
    · next hstate =>
      have hi := State.rosterAt_lt hat
      have hnone := h.tied.link_none hat hstate
      have hset : (s.setRosterAt i none).Tied :=
        h.tied.setRosterAt hi (fun f hf => Option.some.inj (hat.symm.trans hf) ▸ hnone) nofun nofun
      have hgone : ((s.setRosterAt i none).rosterEntry t).map Prod.fst = none := by
        rw [Option.map_eq_none_iff, Option.eq_none_iff_forall_ne_some]
        rintro ⟨j, f⟩ hf
        obtain ⟨hfat, hftag⟩ := State.rosterEntry_spec hf
        by_cases hj : j = i
        · subst hj
          cases (State.setRosterAt_rosterAt_same hi none).symm.trans hfat
        · rw [State.setRosterAt_rosterAt_other s hj] at hfat
          exact hj (h.tied.tags j i f e hfat hat (hftag.trans htag.symm))
      exact State.linked_indexCandidate h hset (fun f hf => Option.some.inj (hat.symm.trans hf) ▸ htag) nofun hgone

theorem answersLinked_verdict (payload : List Byte) : AnswersLinked (answerVerdict payload) := by
  refine answersLinked_parsed (fun f s h => ?_) payload
  split
  · exact h
  · next c hc =>
    split
    · exact h.done ((State.ties_park _ _ _).after (s.ties_filterCandidates _)) _
    · split
      · exact h
      · next hcheck => exact State.linked_carryAdmit h (State.candidate_spec hc).2 hcheck

/-! ## The drops -/

theorem answersLinked_setActivation (payload : List Byte) : AnswersLinked (answerSetActivation payload) := by
  refine answersLinked_parsed (fun f s h => ?_) payload
  split
  · exact h
  · split
    · exact h.done (State.Ties.of_same (t := s.setParams f.params) rfl rfl rfl) _
    · exact h

theorem answersLinked_dropSilence (payload : List Byte) : AnswersLinked (answerDropSilence payload) := by
  refine answersLinked_parsed (fun f => answersLinked_withDrop (fun l d s h => ?_) f) payload
  split
  · exact h
  · next r hr =>
    split
    · exact h
    · exact h.done (State.ties_setRecord_direct hr (r' := { r with state := .silenced, resumeTo := some r.state }) rfl
        (new := .silence d) rfl) _

theorem answersLinked_dropResume (payload : List Byte) : AnswersLinked (answerDropResume payload) := by
  refine answersLinked_parsed (fun f => answersLinked_withDrop (fun l d s h => ?_) f) payload
  split
  · exact h
  · next r hr =>
    split
    · exact h.done (State.ties_setRecord_direct hr (r' := { r with state := _, resumeTo := none }) rfl
        (new := .resume d) rfl) _
    · exact h

theorem answersLinked_dropRetire (payload : List Byte) : AnswersLinked (answerDropRetire payload) := by
  refine answersLinked_parsed (fun f => answersLinked_withDrop (fun l d s h => ?_) f) payload
  split
  · exact h
  · exact h.done (s.ties_endRecord l d _ _) _

theorem answersLinked_calLoad (payload : List Byte) : AnswersLinked (answerCalLoad payload) := by
  refine answersLinked_parsed (fun f s h => ?_) payload
  split
  · exact h
  · split
    · exact h.done (s.ties_setMeter _) _
    · exact h

/-! ## The reads change nothing -/

theorem answersLinked_candidateRead (payload : List Byte) : AnswersLinked (answerCandidateRead payload) := by
  refine answersLinked_parsed (fun k s h => ?_) payload
  dsimp only
  repeat' split
  all_goals exact h

theorem answersLinked_rosterRead (payload : List Byte) : AnswersLinked (answerRosterRead payload) := by
  refine answersLinked_parsed (fun k s h => ?_) payload
  repeat' split
  all_goals exact h

theorem answersLinked_calRead (payload : List Byte) : AnswersLinked (answerCalRead payload) := by
  refine answersLinked_parsed (fun n s h => ?_) payload
  split <;> exact h

theorem answersLinked_answerFor (code : Byte) (payload : List Byte) : AnswersLinked (answerFor code payload) := by
  unfold answerFor
  split
  · exact answersLinked_status payload
  · exact answersLinked_reset payload
  · exact answersLinked_bias payload
  · exact answersLinked_setupLeg payload
  · exact answersLinked_startLeg payload
  · exact answersLinked_stopLeg payload
  · exact answersLinked_legMuster payload
  · exact answersLinked_parsed (fun _ => answersLinked_withLeg (fun _ _ h => h) _) payload
  · exact answersLinked_holdLeg payload
  · exact answersLinked_unholdLeg payload
  · exact answersLinked_isolateLeg payload
  · exact answersLinked_rosterPut payload
  · exact answersLinked_rosterRemove payload
  · exact answersLinked_rosterRead payload
  · exact answersLinked_verdict payload
  · exact answersLinked_candidateRead payload
  · exact answersLinked_setActivation payload
  · exact answersLinked_parsed (fun _ _ h => h) payload
  · exact answersLinked_dropSilence payload
  · exact answersLinked_dropResume payload
  · exact answersLinked_dropRetire payload
  · exact answersLinked_parsed (fun f => answersLinked_withDrop (fun _ _ _ h => h) f) payload
  · exact answersLinked_calLoad payload
  · exact answersLinked_calRead payload
  · exact answersLinked_refuse _

end Sys2Proof.Machine
end

section
/-! SUPPORT. The line, the resets and every command keep the agreement of roster, records, queues and Candidate List, and
so does every step. -/

namespace Sys2Proof.Machine

/-! ## The line and the resets -/

theorem State.takeRequest_linked {tag code : Byte} {act : State → Answer} (hact : AnswersLinked act) {s : State}
    (h : s.Linked) : (takeRequest tag code act s).Linked := by
  unfold takeRequest
  split
  · exact h
  · split
    · split
      · exact (s.ties_setIface _).linked h
      · exact h
    · exact (State.ties_setIface _ _).linked (hact _ ((s.ties_setIface _).linked h))

theorem State.hunt_linked {s : State} (h : s.Linked) : s.hunt.Linked := (s.ties_setIface _).linked h

theorem State.deliverFrame_linked {s : State} (h : s.Linked) (bytes : List Byte) :
    (s.deliverFrame bytes).Linked := by
  unfold State.deliverFrame
  split
  · split
    · exact State.takeRequest_linked (answersLinked_answerFor _ _) h
    · exact h
  · exact h

theorem State.arbitrate_linked {s : State} (h : s.Linked) : s.arbitrate.Linked :=
  (s.ties_setIface _).linked h

theorem State.readBytes_linked (bytes : List Byte) {s : State} (h : s.Linked) :
    (s.readBytes bytes).1.Linked := by
  induction bytes generalizing s with
  | nil => exact h
  | cons b rest ih =>
    unfold State.readBytes
    split
    · exact ih ((s.ties_setIface _).linked h)
    · exact State.hunt_linked h
    · exact ih (State.arbitrate_linked (State.deliverFrame_linked (State.hunt_linked h) _))

theorem State.rescan_linked (n : Nat) (bytes : List Byte) {s : State} (h : s.Linked) :
    (State.rescan n bytes s).Linked := by
  induction n generalizing bytes s with
  | zero => exact h
  | succ n ih =>
    have hread := State.readBytes_linked bytes h
    unfold State.rescan
    split
    · next heq => rw [heq] at hread; exact hread
    · next heq => rw [heq] at hread; exact ih _ hread

theorem State.receive_linked (b : Byte) {s : State} (h : s.Linked) : (s.receive b).Linked := by
  have hread := State.readBytes_linked [b] h
  unfold State.receive
  split
  · next heq => rw [heq] at hread; exact hread
  · next heq => rw [heq] at hread; exact State.rescan_linked _ _ hread

theorem State.Linked.of_same {s t : State} (h : s.Linked) (hroster : t.roster = s.roster) (hlegs : t.legs = s.legs)
    (hcandidates : t.candidates = s.candidates) : t.Linked :=
  (State.Ties.of_same hroster hlegs hcandidates).linked h

/-- A part whose legs are all as after a reset, whose Candidate List is empty, and whose roster holds one entry at the
most for a tag and no link. -/
theorem State.linked_of_fresh {s : State} (hlegs : ∀ l, ∃ x : Leg, s.leg l = x.afterRequest)
    (hcandidates : s.candidates = []) (hroster : s.roster.length = Config.rosterSize)
    (htags : ∀ i j e f, s.rosterAt i = some e → s.rosterAt j = some f → e.tag = f.tag → i = j)
    (hentries : ∀ i e, s.rosterAt i = some e → e.link = none ∧ e.state ≠ .active) : s.Linked := by
  have hfree (l : LegId) (d : Nat) : s.record l d = none := by
    obtain ⟨x, hx⟩ := hlegs l
    rw [State.record, hx]
    by_cases hd : d < Config.dropsPerLeg <;> simp [Leg.record, Leg.afterRequest, Leg.reset, hd]
  refine s.linked_iff.mpr ⟨⟨hroster, fun l => ?_, htags, fun i e he => (entrySound_iff s i e).mpr (.inl (hentries i e he)),
    fun l d r hr => nomatch (hfree l d).symm.trans hr⟩, ?_⟩
  · have hplaces : InPlace (s.leg l) := fun d r hr => nomatch (hfree l d).symm.trans hr
    obtain ⟨x, hx⟩ := hlegs l
    rw [hx] at hplaces ⊢
    exact ⟨List.length_replicate .., hplaces, (Leg.queueSound_iff _).mpr keysSound_nil⟩
  · constructor <;> simp [hcandidates]

theorem State.fullReset_linked (s : State) : s.fullReset.Linked := by
  have hempty (i : Nat) : s.fullReset.rosterAt i = none := by
    by_cases hi : i < Config.rosterSize <;> simp [State.rosterAt, State.fullReset, State.blocks, hi]
  exact State.linked_of_fresh (fun l => ⟨Leg.reset, by cases l <;> rfl⟩) rfl (List.length_replicate ..)
    (fun i j e f he => nomatch (hempty i).symm.trans he) fun i e he => nomatch (hempty i).symm.trans he

/-- The roster is kept by a requested reset, its ACTIVE entries EXPECTED and its links gone (R74, R174). -/
theorem State.requestReset_linked {s : State} (h : s.Linked) : s.requestReset.Linked := by
  have hat (i : Nat) : s.requestReset.rosterAt i = (s.rosterAt i).map RosterEntry.afterRequest := by
    simp only [State.rosterAt, State.requestReset, List.getElem?_map]
    rcases s.roster[i]? with _ | _ | e <;> rfl
  refine State.linked_of_fresh (fun l => ⟨s.leg l, Four.get_map _ _ _⟩) rfl ((List.length_map ..).trans h.roster)
    (fun i j e f he hf htag => ?_) fun i e he => ?_
  · rw [hat, Option.map_eq_some_iff] at he hf
    obtain ⟨e', he', rfl⟩ := he
    obtain ⟨f', hf', rfl⟩ := hf
    exact h.tags i j e' f' he' hf' htag
  · rw [hat, Option.map_eq_some_iff] at he
    obtain ⟨e', he', rfl⟩ := he
    refine ⟨rfl, ?_⟩
    dsimp only [RosterEntry.afterRequest]
    split
    · nofun
    · assumption

theorem State.holdInReset_linked (s : State) (cause : ResetCause) (pin rail : Bool) :
    (s.holdInReset cause pin rail).Linked :=
  s.fullReset_linked.of_same rfl rfl rfl

theorem State.leaveReset_linked {blocks : State} (h : blocks.Linked) (cause : ResetCause) (railMv : Nat) :
    (blocks.leaveReset cause railMv).Linked :=
  h.of_same rfl rfl rfl

theorem State.sent_linked {s : State} (h : s.Linked) (railMv : Nat) : (s.sent railMv).Linked := by
  unfold State.sent
  split
  · exact h
  · split
    · split
      · exact State.leaveReset_linked (State.requestReset_linked h) _ _
      · exact (s.ties_setIface _).linked h
    · exact (s.ties_setIface _).linked h

theorem execLeaveReset_linked {s t : State} (h : s.Linked) {pinReleased : Bool} {railMv : Nat}
    (ht : execLeaveReset pinReleased railMv s = .next t) : t.Linked := by
  obtain rfl := Host.Outcome.next.inj ht
  split
  · exact h
  · dsimp only
    split
    · exact h.of_same rfl rfl rfl
    · exact State.leaveReset_linked s.fullReset_linked _ _

/-! ## Every command -/

section Command

variable {s t : State}

/-- An event whose effect is in agreement. -/
theorem event_linked {act : State → State} (h : s.Linked) (hact : (act s).Linked)
    (ht : event act s = .next t) : t.Linked := by
  obtain rfl := Host.Outcome.next.inj ht
  split
  · exact h
  · exact State.arbitrate_linked hact

theorem event_ties {act : State → State} (hact : s.Ties (act s)) (h : s.Linked) (ht : event act s = .next t) :
    t.Linked :=
  event_linked h (hact.linked h) ht

/-- A request frame, whatever its code. -/
theorem request_linked (tag code : Byte) {act : State → Answer} (hact : AnswersLinked act) (h : s.Linked)
    (ht : event (frameRequest tag code act) s = .next t) : t.Linked := by
  have htaken : (frameRequest tag code act s).Linked :=
    State.takeRequest_linked (s := s.hunt) hact (State.hunt_linked h)
  exact event_linked h htaken ht

theorem execUnknownRequest_linked (tag code : Byte) (payload : List Byte) (h : s.Linked)
    (ht : execUnknownRequest tag code payload s = .next t) : t.Linked := by
  refine event_linked h ?_ ht
  split
  · exact h
  · exact State.takeRequest_linked (answersLinked_refuse _) (State.hunt_linked h)

theorem execOffsetFieldExpiry_linked (l : LegId) (d : Nat) (h : s.Linked)
    (ht : execOffsetFieldExpiry l d s = .next t) : t.Linked := by
  refine event_ties ?_ h ht
  split
  · exact .refl s
  · next hr => exact State.ties_setRecord hr rfl

theorem execLaunchFieldExpiry_linked (l : LegId) (d : Nat) (h : s.Linked)
    (ht : execLaunchFieldExpiry l d s = .next t) : t.Linked := by
  refine event_ties ?_ h ht
  split
  · exact .refl s
  · next hr => exact State.ties_setRecord hr rfl

theorem execCandidateLapsed_linked (tag : FactoryTag) (h : s.Linked) (ht : execCandidateLapsed tag s = .next t) :
    t.Linked := by
  refine event_ties ?_ h ht
  split
  · exact .refl s
  · exact .ite ((State.ties_notify _ _).after (s.ties_filterCandidates _)) (.refl s)

theorem execHoldExpiry_linked (l : LegId) (h : s.Linked) (ht : execHoldExpiry l s = .next t) : t.Linked :=
  event_ties (.ite (.after (State.ties_mapLeg rfl rfl) (s.ties_beginLeg l _)) (.refl s)) h ht

theorem execSettleComplete_linked (h : s.Linked) (ht : execSettleComplete s = .next t) : t.Linked :=
  event_ties (.ite ((State.ties_setBias _ _).after (s.ties_enterReady _)) (.refl s)) h ht

theorem execRecoveryComplete_linked (h : s.Linked) (ht : execRecoveryComplete s = .next t) : t.Linked :=
  event_ties (.ite ((State.ties_setBias _ _).after s.ties_enterSettling) (.refl s)) h ht

theorem execSampleIntegrationStart_linked (l : LegId) (h : s.Linked)
    (ht : execSampleIntegrationStart l s = .next t) : t.Linked := by
  refine event_ties ?_ h ht
  split
  · exact .refl s
  · dsimp only
    split
    · exact s.ties_setMeter _
    · exact (State.ties_deliverOutcome _ _ _ _ _).after (s.ties_setMeter _)

theorem execSampleResult_linked (code : BitVec 12) (h : s.Linked) (ht : execSampleResult code s = .next t) :
    t.Linked := by
  refine event_ties ?_ h ht
  split
  · dsimp only
    split
    · exact (State.ties_deliverOutcome _ _ _ _ _).after (s.ties_setMeter _)
    · exact (State.ties_mapScan _ _ _).after (s.ties_setMeter _)
  · exact .refl s

theorem execCalibrationInstant_linked (h : s.Linked) (ht : execCalibrationInstant s = .next t) : t.Linked := by
  refine event_ties ?_ h ht
  split
  · exact .refl s
  · exact .ite (s.ties_setMeter _) (s.ties_setMeter _)

theorem execCalibrationResult_linked (code : BitVec 12) (light : BitVec 32) (h : s.Linked)
    (ht : execCalibrationResult code light s = .next t) : t.Linked := by
  refine event_ties ?_ h ht
  split
  · exact .ite (s.ties_setMeter _) (s.ties_setMeter _)
  · exact .refl s

theorem execGrantedBurstVerdict_linked (l : LegId) (look : BurstLook) (h : s.Linked)
    (ht : execGrantedBurstVerdict l look s = .next t) : t.Linked := by
  refine event_ties ?_ h ht
  split
  · exact .refl s
  · exact (State.ties_deliverVerdict _ _ _ _ _).after (State.ties_mapLeg rfl rfl)

theorem execAnnounceDelimiterFound_linked (l : LegId) (a : Nat) (p : Fin 20) (light : BitVec 48)
    (rivals : List LegId) (h : s.Linked) (ht : execAnnounceDelimiterFound l a p light rivals s = .next t) :
    t.Linked := by
  refine event_ties ?_ h ht
  refine (s.ties_recordLight l light).trans ?_
  generalize s.recordLight l light = u
  dsimp only
  split
  · exact .refl u
  · exact .ite ((State.ties_mapScan _ _ _).after (u.ties_setMeter _)) (.refl u)

theorem execGarbled_linked (l : LegId) (what : Garble) (h : s.Linked) (ht : execGarbled l what s = .next t) :
    t.Linked := by
  refine event_ties ?_ h ht
  split
  · exact .ite (s.ties_mapScan l _) (.refl s)
  · exact s.ties_mapScan l _
  · exact .refl s

theorem execAnnounceJudgementComplete_linked (l : LegId) (a : Nat) (content : List Byte) (h : s.Linked)
    (ht : execAnnounceJudgementComplete l a content s = .next t) : t.Linked := by
  refine event_ties ?_ h ht
  split
  · exact .refl s
  · split
    · exact .refl s
    · have hgone := s.ties_mapScan l fun w => { w with found := w.found.filter fun f => decide (f.a ≠ a) }
      dsimp only
      split
      · exact s.ties_mapScan l _
      · exact hgone
      · exact hgone.trans (State.ties_screen _ _ _)

/-- Decisions on announces one after another. -/
theorem State.linked_admissions (l : LegId) (as : List Announce) {s : State} (h : s.Linked) :
    (as.foldl (fun s a => s.admission l a) s).Linked := by
  induction as generalizing s with
  | nil => exact h
  | cons a as ih => exact ih (State.linked_admission h)

theorem execWindowScanEnd_linked (l : LegId) (h : s.Linked) (ht : execWindowScanEnd l s = .next t) : t.Linked := by
  refine event_linked h ?_ ht
  split
  · exact h
  · split
    · exact State.linked_admissions l _ ((State.ties_mapLeg rfl rfl).linked h)
    · exact h

theorem execCalendarClose_linked (l : LegId) (lit : List (Nat × Nat)) (h : s.Linked)
    (ht : execCalendarClose l lit s = .next t) : t.Linked := by
  refine event_ties ?_ h ht
  refine (s.ties_recordLight l (historyAtClose lit)).trans ?_
  generalize s.recordLight l (historyAtClose lit) = u
  dsimp only
  split
  · exact .refl u
  · exact (State.ties_updateRun _ _ _ _).after ((State.ties_updateLatch _ _ _ _).after (State.ties_mapLeg rfl rfl))

/-- Every command keeps the agreement. -/
theorem exec_linked (c : Instr) (h : s.Linked)  (ht : exec c s = .next t) : t.Linked := by
  have answered (tag code : Byte) (payload : List Byte)
      (ht : event (frameRequest tag code (answerFor code payload)) s = .next t) : t.Linked :=
    request_linked tag code (answersLinked_answerFor code payload) h ht
  have hunted : s.Ties s.hunt := s.ties_setIface _
  cases c with
  | status tag payload => exact answered tag 0x01#8 payload ht
  | reset tag payload => exact answered tag 0x02#8 payload ht
  | bias tag payload => exact answered tag 0x03#8 payload ht
  | setupLeg tag payload => exact answered tag 0x10#8 payload ht
  | startLeg tag payload => exact answered tag 0x11#8 payload ht
  | stopLeg tag payload => exact answered tag 0x12#8 payload ht
  | legMuster tag payload => exact answered tag 0x13#8 payload ht
  | legRead tag payload => exact answered tag 0x14#8 payload ht
  | holdLeg tag payload => exact answered tag 0x15#8 payload ht
  | unholdLeg tag payload => exact answered tag 0x16#8 payload ht
  | isolateLeg tag payload => exact answered tag 0x17#8 payload ht
  | rosterPut tag payload => exact answered tag 0x20#8 payload ht
  | rosterRemove tag payload => exact answered tag 0x21#8 payload ht
  | rosterRead tag payload => exact answered tag 0x22#8 payload ht
  | verdict tag payload => exact answered tag 0x23#8 payload ht
  | candidateRead tag payload => exact answered tag 0x24#8 payload ht
  | setActivation tag payload => exact answered tag 0x30#8 payload ht
  | activationRead tag payload => exact answered tag 0x31#8 payload ht
  | dropSilence tag payload => exact answered tag 0x32#8 payload ht
  | dropResume tag payload => exact answered tag 0x33#8 payload ht
  | dropRetire tag payload => exact answered tag 0x34#8 payload ht
  | dropRead tag payload => exact answered tag 0x35#8 payload ht
  | calLoad tag payload => exact answered tag 0x38#8 payload ht
  | calRead tag payload => exact answered tag 0x39#8 payload ht
  | unknownRequest tag code payload => exact execUnknownRequest_linked tag code payload h ht
  | lineBusy tag code payload =>
    refine event_linked h ?_ ht
    split
    · exact State.takeRequest_linked (answersLinked_refuse _) (State.hunt_linked h)
    · exact h
  | requestDiscardedResetPending tag code payload => exact event_ties (.ite hunted (.refl s)) h ht
  | frameDiscarded bytes =>
    refine event_linked h ?_ ht
    split
    · exact State.rescan_linked _ _ (State.hunt_linked h)
    · exact h
  | replyOrNoticeFrameDropped control tag code payload => exact event_ties (.ite hunted (.refl s)) h ht
  | frameTimeout => exact event_ties hunted h ht
  | frameTransmitted railMv =>
    exact event_linked (act := fun s => s.sent railMv) h (State.sent_linked h railMv) ht
  | characterReceived byte =>
    exact event_linked (act := fun s => s.receive byte) h (State.receive_linked byte h) ht
  | resetPinAsserted => exact Host.Outcome.next.inj ht ▸ s.holdInReset_linked _ _ _
  | powerApplied => exact Host.Outcome.next.inj ht ▸ s.holdInReset_linked _ _ _
  | leaveReset pinReleased railMv => exact execLeaveReset_linked h ht
  | railSag => exact event_ties (.ite s.ties_enterSag (.refl s)) h ht
  | railRecovery => exact event_ties (.ite (s.ties_setRail _) (.refl s)) h ht
  | brownout => exact Host.Outcome.next.inj ht ▸ s.holdInReset_linked _ _ _
  | cycleBoundary => exact event_ties s.ties_boundary h ht
  | offsetFieldExpiry leg drop => exact execOffsetFieldExpiry_linked leg drop h ht
  | launchFieldExpiry leg drop => exact execLaunchFieldExpiry_linked leg drop h ht
  | darkOffsetExpiry leg range => exact event_ties (.ite (s.ties_setMeter _) (.refl s)) h ht
  | candidateLapsed tag => exact execCandidateLapsed_linked tag h ht
  | holdExpiry leg => exact execHoldExpiry_linked leg h ht
  | settleComplete => exact execSettleComplete_linked h ht
  | recoveryComplete => exact execRecoveryComplete_linked h ht
  | grantedBurstVerdict leg look => exact execGrantedBurstVerdict_linked leg look h ht
  | announceDelimiterFound leg a p light rivals => exact execAnnounceDelimiterFound_linked leg a p light rivals h ht
  | garbled leg what => exact execGarbled_linked leg what h ht
  | announceJudgementComplete leg a content => exact execAnnounceJudgementComplete_linked leg a content h ht
  | windowScanEnd leg => exact execWindowScanEnd_linked leg h ht
  | calendarClose leg lit => exact execCalendarClose_linked leg lit h ht
  | sampleIntegrationStart leg => exact execSampleIntegrationStart_linked leg h ht
  | sampleResult code => exact execSampleResult_linked code h ht
  | calibrationInstant => exact execCalibrationInstant_linked h ht
  | calibrationResult code light => exact execCalibrationResult_linked code light h ht

end Command

end Sys2Proof.Machine

open Sys2Proof Sys2Proof.Machine
/-- Settles O58: the command at the front of the queue keeps the agreement, which reads nothing of the queue. -/
theorem everyStepKeepsTheLinks : Obligations.EveryStepKeepsTheLinks := by
  unfold Obligations.EveryStepKeepsTheLinks
  intro s t h ht
  unfold step at ht
  split at ht
  · exact Host.Outcome.next.inj ht ▸ h
  · next c rest _ =>
    exact exec_linked c (s := { s with pending := rest }) (h.of_same rfl rfl rfl) ht
end

section
/-! SUPPORT. The watched set of a calendar (R35, R71): the gaps between the spans of its window and bursts, and the class
of a cycle at its close. -/

namespace Sys2Proof.Machine

/-! ## Spans and gaps -/

/-- A position stands in an interval [from, to). -/
def InSpan (x : Nat) (p : Nat × Nat) : Prop := p.1 ≤ x ∧ x < p.2

/-- The gaps hold the positions of the cycle, from the first on, that stand in no span. -/
theorem mem_gapsFrom {spans : List (Nat × Nat)} (h : spans.Pairwise fun a b => a.1 ≤ b.1) {pos x : Nat} :
    (∃ g ∈ gapsFrom pos spans, InSpan x g) ↔ pos ≤ x ∧ x < 31250 ∧ ∀ b ∈ spans, ¬ InSpan x b := by
  induction spans generalizing pos with
  | nil =>
    unfold gapsFrom
    split <;> simp [InSpan, Config.cycleTicks] at *
    omega
  | cons span rest ih =>
    obtain ⟨lo, hi⟩ := span
    obtain ⟨hle, hrest⟩ := List.pairwise_cons.mp h
    -- a position before this span is in none of the later ones
    have hbefore : x < lo → ∀ b ∈ rest, ¬ InSpan x b := fun hx b hb hin => by
      have := hle b hb
      have := hin.1
      omega
    rw [gapsFrom, List.forall_mem_cons]
    split
    · next hgap =>
      rw [List.exists_mem_cons_iff, ih hrest]
      simp only [InSpan, Config.cycleTicks] at hbefore hgap ⊢
      constructor
      · rintro (hin | ⟨hpos, hlt, hfree⟩)
        · exact ⟨hin.1, by omega, by omega, hbefore (by omega)⟩
        · exact ⟨by omega, hlt, by omega, hfree⟩
      · rintro ⟨hpos, hlt, hout, hfree⟩
        by_cases hx : x < lo
        · exact .inl (by omega)
        · exact .inr ⟨by omega, hlt, hfree⟩
    · next hgap =>
      rw [ih hrest]
      simp only [InSpan, Config.cycleTicks] at hgap ⊢
      constructor
      · rintro ⟨hpos, hlt, hfree⟩
        exact ⟨by omega, hlt, by omega, hfree⟩
      · rintro ⟨hpos, hlt, hout, hfree⟩
        exact ⟨by omega, hlt, hfree⟩

/-- No gap is empty. -/
theorem gapsFrom_nonempty {spans : List (Nat × Nat)} {pos : Nat} {g : Nat × Nat} (h : g ∈ gapsFrom pos spans) :
    g.1 < g.2 := by
  induction spans generalizing pos with
  | nil =>
    unfold gapsFrom at h
    split at h <;> simp at h
    rw [h]; assumption
  | cons span rest ih =>
    unfold gapsFrom at h
    split at h
    · next hgap =>
      rcases List.mem_cons.mp h with rfl | h
      · exact lt_min hgap.1 hgap.2
      · exact ih h
    · exact ih h

/-! ## The spans of a calendar -/

theorem Calendar.burstSpans_eq (c : Calendar) (shift : Nat) :
    c.burstSpans shift = c.bursts.map fun b => burstSpan shift b.1 b.2 := by
  rw [Calendar.burstSpans, Calendar.bursts, List.map_append, List.map_map, List.map_map]
  rfl

/-- A position stands in no span of a burst exactly outside the burst and 4 ticks on either side of it. -/
theorem not_inSpan_burstSpan {shift p n x : Nat} :
    ¬ InSpan x (burstSpan shift p n) ↔ x + 4 < shift + p ∨ shift + p + n + 4 ≤ x := by
  simp only [InSpan, burstSpan]
  omega

/-- A position stands in no span of the window exactly when it is dark, or among its guarded last 32 ticks (R35). -/
theorem not_inSpan_windowSpan {c : Calendar} (hone : c.spill = none ∨ c.window = none)
    (htail : c.darkTail = false → c.window = some 31250) {x : Nat} :
    (∀ b ∈ c.windowSpan, ¬ InSpan x b) ↔
      (∀ n, c.spill = some n → n ≤ x + 32) ∧
        ∀ n, c.window = some n → n ≤ x ∨ c.darkTail = true ∧ n ≤ x + 32 := by
  unfold Calendar.windowSpan
  cases hspill : c.spill with
  | some n =>
    have hwindow : c.window = none := hone.resolve_left (by simp [hspill])
    simp [hwindow, InSpan, Config.windowGuard]
  | none =>
    cases hwindow : c.window with
    | none => simp
    | some n =>
      cases hdark : c.darkTail with
      | true =>
        simp [InSpan, Config.windowGuard]
        omega
      | false =>
        obtain rfl : n = 31250 := Option.some.inj (hwindow.symm.trans (htail hdark))
        simp [InSpan, Config.cycleTicks]

/-- The spans of the bursts of the calendar that follows, when there is one. -/
def nextSpans (next : Option Calendar) : List (Nat × Nat) := next.elim [] fun d => d.burstSpans Config.cycleTicks

theorem Calendar.watched_eq (c : Calendar) (next : Option Calendar) :
    c.watched next = gapsFrom 0 (c.windowSpan ++ c.burstSpans 0 ++ nextSpans next) := by
  cases next <;> rfl

theorem forall_mem_nextSpans {next : Option Calendar} {p : Nat × Nat → Prop} :
    (∀ b ∈ nextSpans next, p b) ↔ ∀ d, next = some d → ∀ b ∈ d.bursts, p (burstSpan 31250 b.1 b.2) := by
  cases next with
  | none => simp [nextSpans]
  | some d =>
    simp only [nextSpans, Option.elim_some, Calendar.burstSpans_eq, List.forall_mem_map, Option.some.injEq,
      forall_eq', Config.cycleTicks]

/-- The spans of a calendar and of the next stand in ascending order. -/
theorem spans_ascending {c : Calendar} {next : Option Calendar} (hfits : c.Fits) (hnext : ∀ d, next = some d → d.Fits) :
    (c.windowSpan ++ c.burstSpans 0 ++ nextSpans next).Pairwise fun a b => a.1 ≤ b.1 := by
  have hbursts {d : Calendar} (hd : d.Fits) (shift : Nat) : (d.burstSpans shift).Pairwise fun a b => a.1 ≤ b.1 := by
    rw [Calendar.burstSpans_eq, List.pairwise_map]
    exact hd.guards.imp fun h => by simp only [burstSpan]; omega
  have hwindow : ∀ a ∈ c.windowSpan, a.1 = 0 := by
    unfold Calendar.windowSpan
    repeat' split
    all_goals simp
  have hsingle : c.windowSpan.Pairwise fun a b => a.1 ≤ b.1 := by
    refine List.pairwise_of_forall_mem_list fun a ha b _ => ?_
    rw [hwindow a ha]
    exact Nat.zero_le _
  refine List.pairwise_append.mpr ⟨List.pairwise_append.mpr ⟨hsingle, hbursts hfits 0, fun a ha b _ => ?_⟩, ?_,
    fun a ha b hb => ?_⟩
  · rw [hwindow a ha]
    exact Nat.zero_le _
  · cases next with
    | none => exact .nil
    | some d => exact hbursts (hnext d rfl) _
  · revert b
    rw [forall_mem_nextSpans]
    intro d _ b _
    rcases List.mem_append.mp ha with ha | ha
    · rw [hwindow a ha]
      exact Nat.zero_le _
    · rw [Calendar.burstSpans_eq] at ha
      obtain ⟨b', hb', rfl⟩ := List.mem_map.mp ha
      have hlimit := hfits.limit b' hb'
      simp only [burstSpan]
      split at hlimit <;> omega

/-! ## The watched set -/

/-- The model's intervals hold the positions that the rules watch (R35, R71). -/
theorem mem_watched {c : Calendar} {next : Option Calendar} (hfits : c.Fits) (hnext : ∀ d, next = some d → d.Fits)
    (hone : c.spill = none ∨ c.window = none) (htail : c.darkTail = false → c.window = some 31250) {x : Nat} :
    (∃ g ∈ c.watched next, InSpan x g) ↔ Watched c next x := by
  rw [Calendar.watched_eq, mem_gapsFrom (spans_ascending hfits hnext), Watched, List.forall_mem_append,
    List.forall_mem_append, forall_mem_nextSpans, Calendar.burstSpans_eq, List.forall_mem_map]
  simp only [not_inSpan_burstSpan, Nat.zero_le, true_and, Nat.zero_add]
  refine and_congr_right fun _ => ?_
  rw [not_inSpan_windowSpan hone htail, and_assoc, and_assoc]
  refine and_congr_right fun _ => and_congr_right fun _ => and_congr_right fun _ => ?_
  refine forall₄_congr fun d hd b hb => ?_
  omega

theorem watched_nonempty {c : Calendar} {next : Option Calendar} {g : Nat × Nat} (h : g ∈ c.watched next) :
    g.1 < g.2 :=
  gapsFrom_nonempty h

/-- Light in a watched tick, by the intervals and by their positions. -/
theorem litIn_iff {lit watched : List (Nat × Nat)} (h : ∀ g ∈ watched, g.1 < g.2) :
    litIn lit watched = true ↔ ∃ x, (∃ g ∈ watched, InSpan x g) ∧ Lit lit x := by
  simp only [litIn, List.any_eq_true, Bool.and_eq_true, decide_eq_true_eq, InSpan, Lit]
  constructor
  · rintro ⟨i, hi, g, hg, hmeet⟩
    have := h g hg
    exact ⟨max i.1 g.1, ⟨g, hg, by omega⟩, i, hi, by omega⟩
  · rintro ⟨x, ⟨g, hg, hin⟩, i, hi, hlit⟩
    exact ⟨i, hi, g, hg, by omega⟩

/-! ## The class of a cycle (R71) -/

/-- The class that the rules give a closing calendar is the model's. -/
theorem classOf_eq {s : State} {l : LegId} {x : Receiver} {c : Calendar} {next : Option Calendar}
    {lit : List (Nat × Nat)} {k : CycleClass} (hclosing : Closing x c next) (hclass : ClassIs s l c next lit k) :
    s.classOf l c next lit = k := by
  obtain ⟨-, -, hfits, hnext, hone, htail⟩ := hclosing
  have hwatched (x : Nat) := mem_watched hfits hnext hone htail (x := x)
  have hempty : (c.watched next).isEmpty = true ↔ ∀ x, ¬ Watched c next x := by
    rw [List.isEmpty_iff]
    constructor
    · intro hnil x hx
      obtain ⟨g, hg, -⟩ := (hwatched x).mpr hx
      simp [hnil] at hg
    · intro hnone
      refine List.eq_nil_iff_forall_not_mem.mpr fun g hg => ?_
      exact hnone g.1 ((hwatched g.1).mp ⟨g, hg, Nat.le_refl _, watched_nonempty hg⟩)
  have hlit : litIn lit (c.watched next) = true ↔ ∃ x, Watched c next x ∧ Lit lit x := by
    rw [litIn_iff fun g hg => watched_nonempty hg]
    exact exists_congr fun x => and_congr_left' (hwatched x)
  have hready : s.readyThrough (c.marker + (s.leg l).derived.omega) = true ↔
      s.bias.state = .ready ∧ s.bias.readySince ≤ c.marker + (s.leg l).derived.omega := by
    simp [State.readyThrough]
  unfold State.classOf
  cases k with
  | neutral =>
    refine if_pos ?_
    rw [Bool.or_eq_true, Bool.or_eq_true, Bool.not_eq_true', hempty, ← Bool.not_eq_true, hready]
    rcases hclass with hhold | hbias | hlate | hnone
    · exact .inl (.inl hhold)
    · exact .inl (.inr fun h => hbias h.1)
    · exact .inl (.inr fun h => Nat.not_le_of_lt hlate h.2)
    · exact .inr hnone
  | stray =>
    obtain ⟨hhold, hbias, hsince, x, hx, hxlit⟩ := hclass
    rw [if_neg, if_pos (hlit.mpr ⟨x, hx, hxlit⟩)]
    rw [Bool.or_eq_true, Bool.or_eq_true, Bool.not_eq_true', hempty, ← Bool.not_eq_true, hready, hhold]
    rintro ((h | h) | h)
    · cases h
    · exact h ⟨hbias, hsince⟩
    · exact h x hx
  | clean =>
    obtain ⟨hhold, hbias, hsince, ⟨x, hx⟩, hdark⟩ := hclass
    rw [if_neg, if_neg fun h => ?_]
    · obtain ⟨y, hy, hylit⟩ := hlit.mp h
      exact hdark y hy hylit
    · rw [Bool.or_eq_true, Bool.or_eq_true, Bool.not_eq_true', hempty, ← Bool.not_eq_true, hready, hhold]
      rintro ((h | h) | h)
      · cases h
      · exact h ⟨hbias, hsince⟩
      · exact h x hx

end Sys2Proof.Machine
end

section
/-! SUPPORT. The close of a calendar on a leg without an isolation run, and the stray-light latch (R56, R71, R72). -/

namespace Sys2Proof.Machine

/-- The state with the receiver of one leg replaced. -/
def State.setReceiver (s : State) (l : LegId) (rx : Receiver) : State := s.setLeg l { s.leg l with receiver := rx }

theorem State.setReceiver_leg (s : State) (l : LegId) (rx : Receiver) :
    (s.setReceiver l rx).leg l = { s.leg l with receiver := rx } :=
  State.setLeg_leg_same s l _

theorem State.setReceiver_map (s : State) (l : LegId) (rx : Receiver) (f : Receiver → Receiver) :
    ((s.setReceiver l rx).mapLeg l fun x => x.mapReceiver f) = s.setReceiver l (f rx) := by
  rw [State.mapLeg, State.setReceiver_leg, State.setReceiver, State.setLeg, State.setLeg, Four.set_set]
  rfl

/-- A leg without an isolation run has none that a class reaches. -/
theorem State.updateRun_idle {s : State} {l : LegId} (h : (s.leg l).run = none) (n : Cycle) (k : CycleClass) :
    s.updateRun l n k = s := by
  rw [State.updateRun, h]

/-- R72's table, in the order of `State.updateLatch`, on a state whose leg has the receiver given. -/
theorem State.updateLatch_setReceiver (s : State) (l : LegId) (rx : Receiver) (n : Cycle) (k : CycleClass) :
    (s.setReceiver l rx).updateLatch l n k =
      match rx.latch, k with
      | false, .stray => (s.setReceiver l { rx with latch := true, cleanCount := 0 }).notify (.strayOnset l n)
      | false, _ => s.setReceiver l rx
      | true, .stray => s.setReceiver l { rx with latch := true, cleanCount := 0 }
      | true, .clean =>
        if 16 ≤ rx.cleanCount + 1 then
          (s.setReceiver l { rx with latch := false, cleanCount := 0 }).notify (.strayCleared l n)
        else s.setReceiver l { rx with latch := true, cleanCount := rx.cleanCount + 1 }
      | true, .neutral => s.setReceiver l rx := by
  unfold State.updateLatch
  simp only [State.setReceiver_leg, State.setReceiver_map, Config.clearRun] <;> rfl

/-- The closed receiver with the latch and the count as they stood. -/
theorem closedReceiver_unmoved {x : Receiver} {latch : Bool} (h : x.latch = latch) (n : Cycle) (history : BitVec 48) :
    closedReceiver x n history latch x.cleanCount = Receiver.close { x with lightHistory := history } n := by
  subst h
  rfl

section Close

variable {l : LegId} {lit : List (Nat × Nat)} {s : State} {c : Calendar} {next : Option Calendar} {k : CycleClass}
  {history : BitVec 48}

/-- The close of a calendar: its class reaches the latch, and then the run (R71, R72, R161). -/
theorem exec_calendarClose (hreset : s.inReset = none) (hclosing : Closing (s.leg l).receiver c next)
    (hclass : ClassIs s l c next lit k) (hhistory : HistoryIs lit history) :
    exec (.calendarClose l lit) s = .next
      (((s.setReceiver l (Receiver.close { (s.leg l).receiver with lightHistory := history } c.cycle)).updateLatch
        l c.cycle k).updateRun l c.cycle k).arbitrate := by
  have hk := classOf_eq hclosing hclass
  obtain ⟨hfirst, hnext, -⟩ := hclosing
  have hrecorded : s.recordLight l history = s.setReceiver l { (s.leg l).receiver with lightHistory := history } := rfl
  have hfound : Receiver.closing { (s.leg l).receiver with lightHistory := history } = some c := hfirst
  have hsame : (s.recordLight l history).classOf l c next lit = k := by
    rw [← hk, State.classOf, State.classOf, recordLight_leg]
    rfl
  change execCalendarClose l lit s = _
  rw [execCalendarClose, event_alive _ hreset, historyAtClose_eq hhistory]
  dsimp only
  rw [recordLight_leg, hfound]
  dsimp only
  rw [hnext, hsame, hrecorded, State.setReceiver_map]

end Close

end Sys2Proof.Machine

open Sys2Proof Sys2Proof.Machine

/-- Settles O49: the model's watched intervals hold the positions that the rules watch, so the class is the same, and the
latch follows R72's table case by case. -/
theorem theStrayLatchFollowsItsTable : Obligations.TheStrayLatchFollowsItsTable := by
  unfold Obligations.TheStrayLatchFollowsItsTable
  intro l lit s c next k history hreset hclosing hrun hclass hhistory becomes
  have hclose := exec_calendarClose hreset hclosing hclass hhistory
  have hlatch := State.updateLatch_setReceiver s l
    (Receiver.close { (s.leg l).receiver with lightHistory := history } c.cycle) c.cycle k
  -- a table entry that leaves the receiver with a latch and a count, and the interface given, is the outcome
  have hbecomes {latch : Bool} {count : Nat} {i : Interface}
      (h : (s.setReceiver l (Receiver.close { (s.leg l).receiver with lightHistory := history } c.cycle)).updateLatch
        l c.cycle k =
          (s.setReceiver l (closedReceiver (s.leg l).receiver c.cycle history latch count)).setIface i) :
      becomes latch count i := by
    rw [h, State.updateRun_idle (by rw [State.setIface_leg, State.setReceiver_leg]; exact hrun)] at hclose
    exact hclose
  refine ⟨fun hl hk => ?_, fun hl hk => ?_, fun hl hk => ?_, fun hl hk => ?_, fun hl hk hn => ?_, fun hl hk hn => ?_⟩
  all_goals
    refine hbecomes (hlatch.trans ?_)
    have hl' : (Receiver.close { (s.leg l).receiver with lightHistory := history } c.cycle).latch = _ := hl
    rw [hl']
  · subst hk; rfl
  · rw [closedReceiver_unmoved hl]
    cases k with
    | stray => exact absurd rfl hk
    | neutral => rfl
    | clean => rfl
  · subst hk; rfl
  · subst hk
    rw [closedReceiver_unmoved hl]
    rfl
  · subst hk
    exact if_neg (Nat.not_le_of_lt hn)
  · subst hk
    exact if_pos hn
end

section
/-! SUPPORT. The grants of a calendar as acts on one leg and its sample queue (R42, R46, R101, R127, R130): what each
does to its record, the receiver, the queue and the want list, and what all of them come to. -/

namespace Sys2Proof.Machine

/-! ## Acts -/

/-- What a grant does: the record it moves, but for its measurements, the burst that the receiver expects, and the sample
that it asks for. -/
structure GrantAct where
  drop : Nat
  moved : DropRecord
  expected : Expectation
  request : Option SampleRequest

/-- A grant acts on leg `l`. -/
def State.act (l : LegId) (s : State) (a : GrantAct) : State :=
  let expecting := (s.setRecord l a.drop (some a.moved)).mapLeg l fun x => x.expect a.expected
  match a.request with
  | none => expecting
  | some q => expecting.requestSample l a.drop q

/-- The sample requests that acts ask for. -/
def requested (as : List GrantAct) : List SampleRequest := as.filterMap GrantAct.request

/-- The requests that find room in a sample queue that holds `old` (R130). -/
def roomFor (old : List SampleRequest) (as : List GrantAct) : List SampleRequest :=
  (requested as).take (16 - old.length)

/-- The record of an act once its sample is asked for: `taken` are the requests that found room. -/
def GrantAct.measured (a : GrantAct) (taken : List SampleRequest) : DropRecord :=
  { a.moved with measures := a.moved.measures ++ (a.request.map (measureOf taken)).toList }

/-- What acts on leg `l` come to, from `s` to `t`. -/
structure Acted (l : LegId) (as : List GrantAct) (s t : State) : Prop where
  frame : t = { s with legs := s.legs.set l (t.leg l), meter := t.meter }
  leg : t.leg l =
    { s.leg l with
      drops := (t.leg l).drops,
      receiver :=
        { (s.leg l).receiver with
          expectations := (s.leg l).receiver.expectations ++ as.map GrantAct.expected } }
  length : (t.leg l).drops.length = (s.leg l).drops.length
  meter : t.meter =
    { s.meter with
      queues := s.meter.queues.set l (s.meter.queues.get l ++ roomFor (s.meter.queues.get l) as),
      wants := s.meter.wants.set l (wantedBy s l (roomFor (s.meter.queues.get l) as)) }
  others : ∀ d, (∀ a ∈ as, a.drop ≠ d) → t.record l d = s.record l d
  records : (as.map GrantAct.drop).Nodup → (requested as).Nodup →
    ∀ a ∈ as, t.record l a.drop = some (a.measured (roomFor (s.meter.queues.get l) as))

/-! ## The want list (R127) -/

/-- Ranges join a want list at the tail, waiting, unless they are on it. -/
def addWants (wants : List Want) (ks : List RangeId) : List Want :=
  ks.foldl (fun ws k => if ∀ w ∈ ws, w.range ≠ k then ws ++ [{ range := k, scheduled := false }] else ws) wants

/-- The ranges of requests that have no valid dark offset. -/
def State.lost (s : State) (l : LegId) (qs : List SampleRequest) : List RangeId :=
  (qs.map SampleRequest.range).filter fun k => !(s.offset l k).valid

theorem wantedAs_eq {queue : List SampleRequest} {ks : List RangeId} (h : ∀ k ∈ ks, ∃ q ∈ queue, q.range = k)
    (wants : List Want) : wantedAs ks queue wants = addWants wants ks := by
  unfold wantedAs addWants
  refine List.foldl_ext _ _ _ fun ws k hk => ?_
  simp only [h k hk, true_and]

/-- The ranges that become wanted are those that the placed requests name: each is named by one of them. -/
theorem wantedBy_eq (s : State) (l : LegId) (placed : List SampleRequest) :
    wantedBy s l placed = addWants (s.meter.wants.get l) (s.lost l placed) :=
  wantedAs_eq (fun k hk => by
    obtain ⟨q, hq, hrange⟩ := List.mem_map.mp (List.mem_of_mem_filter hk)
    exact ⟨q, hq, hrange⟩) _

/-- No request placed leaves the Level Meter. -/
theorem State.meter_unplaced (s : State) (l : LegId) :
    ({ s.meter with
      queues := s.meter.queues.set l (s.meter.queues.get l ++ []),
      wants := s.meter.wants.set l (wantedBy s l []) } : Meter) = s.meter := by
  simp only [List.append_nil, Four.set_get, wantedBy_eq, State.lost, List.map_nil, List.filter_nil, addWants,
    List.foldl_nil]

/-! ## One act -/

theorem roomFor_one (old : List SampleRequest) (a : GrantAct) :
    roomFor old [a] = if old.length < 16 then a.request.toList else [] := by
  have hone : requested [a] = a.request.toList := by
    unfold requested
    cases h : a.request <;> simp [h]
  rw [roomFor, hone]
  split
  · refine List.take_of_length_le ?_
    cases a.request <;> simp
    omega
  · rw [show 16 - old.length = 0 by omega, List.take_zero]

/-- One act, on its leg and on the Level Meter. -/
theorem State.act_eq {s : State} {l : LegId} {a : GrantAct} (hd : a.drop < (s.leg l).drops.length) :
    State.act l s a =
      (s.setLeg l
        { s.leg l with
          drops := (s.leg l).drops.set a.drop (some (a.measured (roomFor (s.meter.queues.get l) [a]))),
          receiver :=
            { (s.leg l).receiver with expectations := (s.leg l).receiver.expectations ++ [a.expected] } }).setMeter
        { s.meter with
          queues := s.meter.queues.set l (s.meter.queues.get l ++ roomFor (s.meter.queues.get l) [a]),
          wants := s.meter.wants.set l (wantedBy s l (roomFor (s.meter.queues.get l) [a])) } := by
  have hunplaced := s.meter_unplaced l
  have hexpecting : ((s.setRecord l a.drop (some a.moved)).mapLeg l fun x => x.expect a.expected) =
      s.setLeg l
        { s.leg l with
          drops := (s.leg l).drops.set a.drop (some a.moved),
          receiver :=
            { (s.leg l).receiver with expectations := (s.leg l).receiver.expectations ++ [a.expected] } } := by
    simp [State.mapLeg, State.setRecord, State.setLeg, State.leg, Leg.expect, Leg.mapReceiver, Leg.setRecord]
  rw [roomFor_one, State.act]
  dsimp only
  rw [hexpecting]
  cases hq : a.request with
  | none =>
    have hmeasured : a.measured [] = a.moved := by simp [GrantAct.measured, hq]
    simp only [Option.toList_none, ite_self, hmeasured, hunplaced]
    rfl
  | some q =>
    dsimp only
    generalize hx : ({ (s.leg l).receiver with
      expectations := (s.leg l).receiver.expectations ++ [a.expected] } : Receiver) = rx
    have hrec : (s.setLeg l { s.leg l with drops := (s.leg l).drops.set a.drop (some a.moved), receiver := rx }).record
        l a.drop = some a.moved := by
      simp [State.record, Leg.record, hd]
    have hset (r : DropRecord) :
        (s.setLeg l { s.leg l with drops := (s.leg l).drops.set a.drop (some a.moved), receiver := rx }).setRecord
          l a.drop (some r) =
        s.setLeg l { s.leg l with drops := (s.leg l).drops.set a.drop (some r), receiver := rx } := by
      simp [State.setRecord, State.setLeg, State.leg, Leg.setRecord]
    unfold State.requestSample
    rw [hrec]
    simp only [State.setLeg_meter, Config.maxSamples, hset, Option.toList_some]
    split
    · have hmeasured : a.measured [q] =
          { a.moved with measures := a.moved.measures ++ [⟨q.cycle, q.kind, none, none⟩] } := by
        simp [GrantAct.measured, hq, measureOf]
      rw [hmeasured]
      refine congrArg _ ?_
      simp only [wantedBy_eq, State.lost, List.map_cons, List.map_nil]
      cases hvalid : (s.offset l q.range).valid with
      | true =>
        have hv : ((s.setLeg l { s.leg l with
          drops := (s.leg l).drops.set a.drop (some a.moved), receiver := rx }).offset l q.range).valid = true := hvalid
        simp [hv, hvalid, addWants]
      | false =>
        have hv : ((s.setLeg l { s.leg l with
          drops := (s.leg l).drops.set a.drop (some a.moved), receiver := rx }).offset l q.range).valid = false := hvalid
        simp [hv, hvalid, addWant_eq, addWants]
    · have hmeasured : a.measured [] =
          { a.moved with measures := a.moved.measures ++ [⟨q.cycle, q.kind, none, some .unmeasured⟩] } := by
        simp [GrantAct.measured, hq, measureOf]
      rw [hmeasured, hunplaced]
      rfl

theorem State.act_acted {s : State} {l : LegId} {a : GrantAct} (hd : a.drop < (s.leg l).drops.length) :
    Acted l [a] s (State.act l s a) := by
  rw [State.act_eq hd]
  refine ⟨?_, ?_, ?_, rfl, fun d hother => ?_, fun _ _ b hb => ?_⟩
  · simp [State.setMeter, State.setLeg, State.leg]
  · simp
  · simp
  · have hne : a.drop ≠ d := hother a List.mem_cons_self
    simp [State.record, Leg.record, hne]
  · rw [List.mem_singleton.mp hb]
    simp [State.record, Leg.record, hd]

/-! ## One act after another -/

theorem requested_append (as bs : List GrantAct) : requested (as ++ bs) = requested as ++ requested bs :=
  List.filterMap_append ..

/-- The requests of the later acts find what room the earlier ones have left. -/
theorem roomFor_append (old : List SampleRequest) (as bs : List GrantAct) :
    roomFor old (as ++ bs) = roomFor old as ++ roomFor (old ++ roomFor old as) bs := by
  simp only [roomFor, requested_append, List.take_append, List.length_append, List.length_take]
  congr 2
  omega

theorem measureOf_append_left {taken more : List SampleRequest} {q : SampleRequest} (h : q ∉ more) :
    measureOf (taken ++ more) q = measureOf taken q := by
  simp [measureOf, h]

theorem measureOf_append_right {taken more : List SampleRequest} {q : SampleRequest} (h : q ∉ taken) :
    measureOf (taken ++ more) q = measureOf more q := by
  simp [measureOf, h]

theorem mem_requested {as : List GrantAct} {a : GrantAct} (ha : a ∈ as) {q : SampleRequest} (hq : a.request = some q) :
    q ∈ requested as :=
  List.mem_filterMap.mpr ⟨a, ha, hq⟩

theorem mem_of_mem_roomFor {old : List SampleRequest} {as : List GrantAct} {q : SampleRequest}
    (h : q ∈ roomFor old as) : q ∈ requested as :=
  List.mem_of_mem_take h

theorem Acted.append {l : LegId} {as bs : List GrantAct} {s t u : State} (h : Acted l as s t) (h' : Acted l bs t u) :
    Acted l (as ++ bs) s u := by
  have hqueue : t.meter.queues.get l = s.meter.queues.get l ++ roomFor (s.meter.queues.get l) as := by
    rw [h.meter, Four.get_set_same]
  have hwants : t.meter.wants.get l = wantedBy s l (roomFor (s.meter.queues.get l) as) := by
    rw [h.meter, Four.get_set_same]
  have hoffset (k : RangeId) : t.offset l k = s.offset l k := by rw [State.offset, h.meter]; rfl
  have hroom := roomFor_append (s.meter.queues.get l) as bs
  rw [← hqueue] at hroom
  refine ⟨?_, ?_, h'.length.trans h.length, ?_, fun d hd => ?_, fun hdrops hrequests a ha => ?_⟩
  · rw [h'.frame, h.frame]
    simp [State.leg]
  · rw [h'.leg, h.leg]
    simp
  · have hboth : wantedBy s l (roomFor (s.meter.queues.get l) (as ++ bs)) =
        wantedBy t l (roomFor (t.meter.queues.get l) bs) := by
      rw [wantedBy_eq, wantedBy_eq, hroom, hwants, wantedBy_eq]
      simp only [State.lost, hoffset, List.map_append, List.filter_append, addWants, List.foldl_append]
    rw [h'.meter, hboth, hroom, hqueue, h.meter]
    simp
  · rw [h'.others d fun b hb => hd b (List.mem_append_right as hb),
      h.others d fun a ha => hd a (List.mem_append_left bs ha)]
  · rw [List.map_append, List.nodup_append] at hdrops
    rw [requested_append, List.nodup_append] at hrequests
    obtain ⟨hdas, hdbs, hapart⟩ := hdrops
    obtain ⟨hras, hrbs, hrapart⟩ := hrequests
    rw [hroom]
    rcases List.mem_append.mp ha with ha | ha
    · rw [h'.others a.drop fun b hb => (hapart _ (List.mem_map_of_mem ha) _ (List.mem_map_of_mem hb)).symm,
        h.records hdas hras a ha]
      unfold GrantAct.measured
      cases hq : a.request with
      | none => rfl
      | some q =>
        have hlater : q ∉ roomFor (t.meter.queues.get l) bs := fun hmem =>
          hrapart q (mem_requested ha hq) q (mem_of_mem_roomFor hmem) rfl
        simp only [Option.map_some, measureOf_append_left hlater]
    · rw [h'.records hdbs hrbs a ha]
      unfold GrantAct.measured
      cases hq : a.request with
      | none => rfl
      | some q =>
        have hearlier : q ∉ roomFor (s.meter.queues.get l) as := fun hmem =>
          hrapart q (mem_of_mem_roomFor hmem) q (mem_requested ha hq) rfl
        simp only [Option.map_some, measureOf_append_right hearlier]

theorem acted_nil (l : LegId) (s : State) : Acted l [] s s := by
  have hnone : roomFor (s.meter.queues.get l) [] = [] := List.take_nil
  refine ⟨?_, by simp, rfl, ?_, fun _ _ => rfl, fun _ _ a ha => by simp at ha⟩
  · simp [State.leg]
  · rw [hnone, s.meter_unplaced]

/-- Acts one after another, on drops of the leg. -/
theorem acted_foldl {l : LegId} {as : List GrantAct} {s : State} (h : ∀ a ∈ as, a.drop < (s.leg l).drops.length) :
    Acted l as s (as.foldl (State.act l) s) := by
  induction as generalizing s with
  | nil => exact acted_nil l s
  | cons a as ih =>
    have hfirst := State.act_acted (h a List.mem_cons_self)
    exact hfirst.append (ih fun b hb => hfirst.length ▸ h b (List.mem_cons_of_mem a hb))

end Sys2Proof.Machine
end

section
/-! SUPPORT. The grants of a calendar are acts, each on the record as it stood at the build (R42, R46), and a leg that
begins its cycle stands as its departures, its hold, its calendar and these acts leave it. -/

namespace Sys2Proof.Machine

/-! ## A calendar's grants as acts -/

/-- The burst that the receiver expects for a grant to a record (R56). -/
def expectedFor (y : Leg) (c : Calendar) (r : DropRecord) (g : GrantEntry) : Expectation :=
  { ident := r.ident, kind := g.kind, cycle := c.cycle, position := g.position, length := g.length,
    sequence := g.sequence, arrives := c.marker + y.derived.omega + g.position }

/-- The sample request of a grant to a record (R46, R130). -/
def requestFor (y : Leg) (c : Calendar) (r : DropRecord) (kind : BurstKind) (position : Nat) : SampleRequest :=
  { ident := r.ident, cycle := c.cycle, kind := kind, range := r.hint,
    start := c.marker + y.derived.omega + position + 40 }

/-- The grant list's entry for an echo grant (R6). -/
def EchoGrant.entry (g : EchoGrant) : GrantEntry :=
  { drop := g.drop, kind := .echo, position := g.position, length := 96, sequence := g.sequence }

/-- The grant list's entry for a service grant (R6). -/
def ServiceGrant.entry (g : ServiceGrant) : GrantEntry :=
  { drop := g.drop, kind := .service, position := g.position, length := g.share + 40, sequence := 0#8 }

theorem Calendar.grantList_eq (c : Calendar) :
    c.grantList = c.echoes.map EchoGrant.entry ++ c.services.map ServiceGrant.entry := rfl

/-- What an echo grant of calendar `c` does to the record `r` (R42, R46). -/
def echoAct (y : Leg) (c : Calendar) (interval : Nat) (g : EchoGrant) (r : DropRecord) : GrantAct :=
  { drop := g.drop,
    moved :=
      { r with
        echoSeq := r.echoSeq + 1#8,
        echoDue := some (c.cycle + if r.state = .soak then BitVec.ofNat 32 interval else 1#32) },
    expected := expectedFor y c r g.entry,
    request := if r.state = .soak then none else some (requestFor y c r .echo g.position) }

/-- What a service grant of calendar `c` does to the record `r` (R46). -/
def serviceAct (y : Leg) (c : Calendar) (g : ServiceGrant) (r : DropRecord) : GrantAct :=
  { drop := g.drop,
    moved := if ∃ last, r.lastSample = some last ∧ (c.cycle - last).toInt < 4000 then r
      else { r with lastSample := some c.cycle },
    expected := expectedFor y c r g.entry,
    request := if ∃ last, r.lastSample = some last ∧ (c.cycle - last).toInt < 4000 then none
      else some (requestFor y c r .service g.position) }

theorem grantEcho_eq_act {s : State} {l : LegId} {y : Leg} {c : Calendar} {g : EchoGrant} {r : DropRecord}
    (hr : s.record l g.drop = some r) (hderived : (s.leg l).derived = y.derived) :
    State.grantEcho l c.cycle c.marker s g = State.act l s (echoAct y c s.params.interval g r) := by
  unfold State.grantEcho State.act echoAct
  rw [hr, hderived]
  by_cases hsoak : r.state = .soak
  · simp only [hsoak, if_true]
    rfl
  · simp only [hsoak, if_false]
    rfl

/-- A leg that expects a burst, and whose record then moves: in the other order. -/
theorem State.expect_setRecord (s : State) (l : LegId) (d : Nat) (o : Option DropRecord) (e : Expectation) :
    (s.mapLeg l fun x => x.expect e).setRecord l d o = (s.setRecord l d o).mapLeg l fun x => x.expect e := by
  simp [State.mapLeg, State.setRecord, State.setLeg, State.leg, Leg.expect, Leg.mapReceiver, Leg.setRecord]

theorem grantService_eq_act {s : State} {l : LegId} {y : Leg} {c : Calendar} {g : ServiceGrant} {r : DropRecord}
    (hr : s.record l g.drop = some r) (hderived : (s.leg l).derived = y.derived) :
    State.grantService l c.cycle c.marker s g = State.act l s (serviceAct y c g r) := by
  have hrecent : (∃ last, r.lastSample = some last ∧ (c.cycle - last).toInt < 4000) →
      serviceAct y c g r = { drop := g.drop, moved := r, expected := expectedFor y c r g.entry, request := none } := by
    intro h
    rw [serviceAct, if_pos h, if_pos h]
  have hdue : (¬ ∃ last, r.lastSample = some last ∧ (c.cycle - last).toInt < 4000) →
      serviceAct y c g r =
        { drop := g.drop, moved := { r with lastSample := some c.cycle }, expected := expectedFor y c r g.entry,
          request := some (requestFor y c r .service g.position) } := by
    intro h
    rw [serviceAct, if_neg h, if_neg h]
  unfold State.grantService
  rw [hr, hderived]
  dsimp only
  split
  · next last hlast =>
    split
    · next hsampled =>
      rw [hrecent ⟨last, hlast, of_decide_eq_true hsampled⟩, State.act]
      dsimp only
      rw [State.setRecord_self hr]
      rfl
    · next hsampled =>
      rw [hdue fun ⟨last', hlast', hlt⟩ => hsampled (decide_eq_true (Option.some.inj (hlast.symm.trans hlast') ▸ hlt)),
        State.act]
      dsimp only
      rw [State.expect_setRecord]
      rfl
  · next hlast =>
    rw [if_neg Bool.false_ne_true, hdue fun ⟨last', hlast', _⟩ => (nomatch hlast.symm.trans hlast'), State.act,
      State.expect_setRecord]
    rfl

/-- The acts of a calendar's grants, on the records of the leg `y` as it stood at the build. -/
def actsOf (y : Leg) (c : Calendar) (interval : Nat) : List GrantAct :=
  (c.echoes.filterMap fun g => (y.record g.drop).map (echoAct y c interval g)) ++
    c.services.filterMap fun g => (y.record g.drop).map (serviceAct y c g)

/-- Grants taken one after another are their acts: no act moves the record of another grant. -/
theorem foldl_grants_eq_acts {α : Type} {f : State → α → State} {drop : α → Nat} {act : α → DropRecord → GrantAct}
    {l : LegId} {y : Leg} {derived : Derived} {params : Activation}
    (hf : ∀ {s : State} {g : α} {r : DropRecord}, s.record l (drop g) = some r → (s.leg l).derived = derived →
      s.params = params → f s g = State.act l s (act g r))
    (hnone : ∀ {s : State} {g : α}, s.record l (drop g) = none → f s g = s)
    (hdrop : ∀ g r, (act g r).drop = drop g) {gs : List α} (hgs : (gs.map drop).Nodup) {s : State}
    (hsame : ∀ g ∈ gs, s.record l (drop g) = y.record (drop g)) (hderived : (s.leg l).derived = derived)
    (hparams : s.params = params) :
    gs.foldl f s = (gs.filterMap fun g => (y.record (drop g)).map (act g)).foldl (State.act l) s := by
  induction gs generalizing s with
  | nil => rfl
  | cons g gs ih =>
    rw [List.map_cons, List.nodup_cons] at hgs
    obtain ⟨hg, hgs⟩ := hgs
    have hrest : ∀ g' ∈ gs, s.record l (drop g') = y.record (drop g') := fun g' hg' =>
      hsame g' (List.mem_cons_of_mem g hg')
    have hfirst := hsame g List.mem_cons_self
    cases hr : y.record (drop g) with
    | none =>
      rw [List.foldl_cons, List.filterMap_cons_none (by rw [hr]; rfl), hnone (hfirst.trans hr)]
      exact ih hgs hrest hderived hparams
    | some r =>
      rw [List.foldl_cons, List.filterMap_cons_some (by rw [hr]; rfl), List.foldl_cons,
        hf (hfirst.trans hr) hderived hparams]
      have hacted : Acted l [act g r] s (State.act l s (act g r)) :=
        State.act_acted (by rw [hdrop]; exact Leg.record_lt (hfirst.trans hr))
      generalize State.act l s (act g r) = u at hacted
      have hleg : (u.leg l).derived = (s.leg l).derived := by rw [hacted.leg]
      have hstood : u.params = s.params := by rw [hacted.frame]
      refine ih hgs (fun g' hg' => ?_) (hleg.trans hderived) (hstood.trans hparams)
      rw [hacted.others, hrest g' hg']
      intro a ha
      rw [List.mem_singleton.mp ha, hdrop]
      exact fun heq => hg (heq ▸ List.mem_map_of_mem hg')

end Sys2Proof.Machine
end

section
/-! SUPPORT. The calendar built for a leg (R34 to R45): its grants are for the candidates, one for a drop, in rank order
and in ascending drop number, and its bursts fit between window and placement end. -/

namespace Sys2Proof.Machine

/-! ## The records of a leg -/

theorem liveFrom_ascending (i : Nat) (t : List (Option DropRecord)) :
    (liveFrom i t).Pairwise fun a b => a.1 < b.1 := by
  induction t generalizing i with
  | nil => exact .nil
  | cons o rest ih =>
    cases o with
    | none => exact ih (i + 1)
    | some r => exact List.pairwise_cons.mpr ⟨fun p hp => (mem_liveFrom hp).1, ih (i + 1)⟩

theorem Leg.live_ascending (x : Leg) : x.live.Pairwise fun a b => a.1 < b.1 := liveFrom_ascending 0 x.drops

theorem Leg.mem_live {x : Leg} {d : Nat} {r : DropRecord} : (d, r) ∈ x.live ↔ x.record d = some r := by
  refine ⟨Leg.record_of_mem_live, fun h => ?_⟩
  have hlive := mem_liveFrom_of_getElem? (Option.join_eq_some_iff.mp h) 0
  rwa [Nat.zero_add] at hlive

/-! ## The candidates -/

theorem insertRanked_perm (a : Nat × DropRecord) (cs : List (Nat × DropRecord)) :
    (insertRanked a cs).Perm (a :: cs) := by
  induction cs with
  | nil => exact .refl _
  | cons b rest ih =>
    unfold insertRanked
    split
    · exact (ih.cons b).trans (.swap a b rest)
    · exact .refl _

/-- Ranking moves the candidates only. -/
theorem rankEchoes_perm (cs : List (Nat × DropRecord)) : (rankEchoes cs).Perm cs := by
  induction cs with
  | nil => exact .refl _
  | cons a rest ih => exact (insertRanked_perm a _).trans (ih.cons a)

theorem Leg.echoCandidates_nodup (x : Leg) (n : Cycle) (held : Bool) (resumed : List Nat) :
    ((x.echoCandidates n held resumed).map Prod.fst).Nodup := by
  unfold Leg.echoCandidates
  split
  · exact .nil
  · have hlive : (x.live.map Prod.fst).Nodup :=
      List.pairwise_map.mpr (x.live_ascending.imp fun h => Nat.ne_of_lt h)
    exact ((rankEchoes_perm _).map Prod.fst).nodup_iff.mpr (hlive.sublist (List.filter_sublist.map _))

theorem Leg.serviceCandidates_ascending (x : Leg) (held : Bool) (resumed : List Nat) :
    (x.serviceCandidates held resumed).Pairwise fun a b => a.1 < b.1 := by
  unfold Leg.serviceCandidates
  split
  · exact .nil
  · exact x.live_ascending.sublist List.filter_sublist

theorem Leg.mem_echoCandidates {x : Leg} {n : Cycle} {held : Bool} {resumed : List Nat} {d : Nat} {r : DropRecord} :
    (d, r) ∈ x.echoCandidates n held resumed ↔
      x.record d = some r ∧ held = false ∧ x.state = .running ∧ x.echoCandidate n resumed d r = true := by
  unfold Leg.echoCandidates
  cases held <;> by_cases hs : x.state = .running <;>
    simp [hs, (rankEchoes_perm _).mem_iff, List.mem_filter, Leg.mem_live]

theorem Leg.mem_serviceCandidates {x : Leg} {held : Bool} {resumed : List Nat} {d : Nat} {r : DropRecord} :
    (d, r) ∈ x.serviceCandidates held resumed ↔
      x.record d = some r ∧ held = false ∧ x.serviceCandidate resumed d r = true := by
  unfold Leg.serviceCandidates
  cases held <;> simp [List.mem_filter, Leg.mem_live]

/-! ## The grants -/

/-- The echo slots stand 112 ticks apart (R41). -/
theorem placeEchoes_eq (pos : Nat) (cs : List (Nat × DropRecord)) :
    placeEchoes pos cs = cs.mapIdx fun k p => ⟨p.1, pos + 112 * k, p.2.echoSeq⟩ := by
  induction cs generalizing pos with
  | nil => rfl
  | cons c rest ih =>
    rw [placeEchoes, ih, List.mapIdx_cons]
    have hnext (k : Nat) : pos + Config.echoSlot + 112 * k = pos + 112 * (k + 1) := by
      simp only [Config.echoSlot]
      omega
    simp only [hnext]
    rfl

theorem placeEchoes_drops (pos : Nat) (cs : List (Nat × DropRecord)) :
    (placeEchoes pos cs).map EchoGrant.drop = cs.map Prod.fst := by
  induction cs generalizing pos with
  | nil => rfl
  | cons c rest ih => exact congrArg (List.cons c.1) (ih _)

theorem placeServices_drops (place : Nat → Nat) (limit pos : Nat) (cs : List (Nat × DropRecord)) :
    ((placeServices place limit pos cs).map ServiceGrant.drop).Sublist (cs.map Prod.fst) := by
  induction cs generalizing pos with
  | nil => exact .refl _
  | cons c rest ih =>
    unfold placeServices
    dsimp only
    split
    · exact (ih _).cons_cons c.1
    · exact List.nil_sublist _

/-- The position of a service grant, when the `k` candidates before it are placed (R45). -/
def servicePosition (place : Nat → Nat) (pos : Nat) (cs : List (Nat × DropRecord)) (k : Nat) : Nat :=
  pos + ((cs.take k).map fun p => place p.2.share + 56).sum

/-- The service grants are those of the first candidates, as far as they fit (R45). -/
theorem placeServices_eq (place : Nat → Nat) (limit pos : Nat) (cs : List (Nat × DropRecord)) :
    ∃ placed, placed ≤ cs.length ∧
      placeServices place limit pos cs =
        (cs.take placed).mapIdx (fun k p => ⟨p.1, servicePosition place pos cs k, place p.2.share⟩) ∧
      (∀ k, k < placed → servicePosition place pos cs (k + 1) ≤ limit) ∧
      (placed < cs.length → limit < servicePosition place pos cs (placed + 1)) := by
  induction cs generalizing pos with
  | nil => exact ⟨0, Nat.le_refl _, rfl, nofun, nofun⟩
  | cons c rest ih =>
    obtain ⟨d, r⟩ := c
    have hnext (k : Nat) : servicePosition place pos ((d, r) :: rest) (k + 1) =
        servicePosition place (pos + place r.share + 56) rest k := by
      simp [servicePosition, Nat.add_assoc]
    unfold placeServices
    dsimp only [Config.serviceGrantExtra]
    by_cases hfits : pos + place r.share + 56 ≤ limit
    · simp only [hfits, if_true]
      obtain ⟨placed, hle, heq, hin, hout⟩ := ih (pos + place r.share + 56)
      refine ⟨placed + 1, Nat.succ_le_succ hle, ?_, fun k hk => ?_, fun hlt => ?_⟩
      · rw [heq, List.take_succ_cons, List.mapIdx_cons]
        refine congrArg₂ _ rfl ?_
        simp only [hnext]
      · rw [hnext]
        cases k with
        | zero => exact hfits
        | succ k => exact hin k (Nat.lt_of_succ_lt_succ hk)
      · rw [hnext]
        exact hout (Nat.lt_of_succ_lt_succ hlt)
    · simp only [hfits, if_false]
      refine ⟨0, Nat.zero_le _, rfl, nofun, fun _ => ?_⟩
      rw [hnext]
      exact Nat.lt_of_not_le hfits

/-! ## Bursts one behind another -/

/-- Bursts (first position, ticks) stand one behind another from position `p` on, 16 ticks of guard after each; `q` is
the first position behind them. -/
def Stacked : Nat → List (Nat × Nat) → Nat → Prop
  | p, [], q => p = q
  | p, b :: rest, q => b.1 = p ∧ Stacked (p + b.2 + 16) rest q

theorem Stacked.append {p q r : Nat} {as bs : List (Nat × Nat)} (h : Stacked p as q) (h' : Stacked q bs r) :
    Stacked p (as ++ bs) r := by
  induction as generalizing p with
  | nil => exact h ▸ h'
  | cons a as ih => exact ⟨h.1, ih h.2⟩

/-- Every burst stands between the first position and the last. -/
theorem Stacked.within {p q : Nat} {bs : List (Nat × Nat)} (h : Stacked p bs q) :
    p ≤ q ∧ ∀ b ∈ bs, p ≤ b.1 ∧ b.1 + b.2 + 16 ≤ q := by
  induction bs generalizing p with
  | nil => exact ⟨Nat.le_of_eq h, by simp⟩
  | cons b rest ih =>
    obtain ⟨hb, hrest⟩ := h
    obtain ⟨hle, hall⟩ := ih hrest
    refine ⟨by omega, fun a ha => ?_⟩
    rcases List.mem_cons.mp ha with rfl | ha
    · omega
    · have := hall a ha
      omega

theorem Stacked.guards {p q : Nat} {bs : List (Nat × Nat)} (h : Stacked p bs q) :
    bs.Pairwise fun a b => a.1 + a.2 + 16 ≤ b.1 := by
  induction bs generalizing p with
  | nil => exact .nil
  | cons b rest ih =>
    obtain ⟨hb, hrest⟩ := h
    exact List.pairwise_cons.mpr ⟨fun a ha => hb ▸ (hrest.within.2 a ha).1, ih hrest⟩

theorem stacked_echoes (pos : Nat) (cs : List (Nat × DropRecord)) :
    Stacked pos ((placeEchoes pos cs).map fun g => (g.position, 96)) (pos + 112 * cs.length) := by
  induction cs generalizing pos with
  | nil => exact rfl
  | cons c rest ih =>
    refine ⟨rfl, ?_⟩
    have hend : pos + 112 * (c :: rest).length = pos + 96 + 16 + 112 * rest.length := by
      rw [List.length_cons]
      omega
    rw [hend]
    exact ih _

theorem stacked_services (place : Nat → Nat) (limit pos : Nat) (cs : List (Nat × DropRecord)) :
    ∃ q, Stacked pos ((placeServices place limit pos cs).map fun g => (g.position, g.share + 40)) q ∧
      (placeServices place limit pos cs ≠ [] → q ≤ limit) := by
  induction cs generalizing pos with
  | nil => exact ⟨pos, rfl, nofun⟩
  | cons c rest ih =>
    obtain ⟨d, r⟩ := c
    unfold placeServices
    by_cases hfits : pos + place r.share + Config.serviceGrantExtra ≤ limit
    · simp only [hfits, if_true]
      obtain ⟨q, hstacked, hq⟩ := ih (pos + place r.share + Config.serviceGrantExtra)
      refine ⟨q, ⟨rfl, hstacked⟩, fun _ => ?_⟩
      -- behind the last grant that fits
      by_cases hlast : placeServices place limit (pos + place r.share + Config.serviceGrantExtra) rest = []
      · rw [hlast] at hstacked
        exact hstacked ▸ hfits
      · exact hq hlast
    · simp only [hfits, if_false]
      exact ⟨pos, rfl, nofun⟩

/-! ## The calendar -/

/-- The end of the placed grants of a calendar (R35, R45). -/
def Calendar.placementEnd (c : Calendar) : Nat := if c.darkTail then 31186 else 31250

section Build

variable {y : Leg} {n : Cycle} {marker : Nat} {held : Bool} {resumed : List Nat} {c : Calendar}

/-- The echo slots of the calendar (R41). -/
def Leg.slotsIn (y : Leg) (n : Cycle) (held : Bool) (resumed : List Nat) (c : Calendar) : Nat :=
  min y.setup.maxEchoes
    (min (y.echoCandidates n held resumed).length ((c.placementEnd - c.firstFree) / 112))

/-- The time left for service grants (R44). -/
def Leg.availableIn (y : Leg) (n : Cycle) (held : Bool) (resumed : List Nat) (c : Calendar) : Int :=
  (c.placementEnd : Int) - (c.firstFree + 112 * y.slotsIn n held resumed c : Nat)
    - 56 * (y.serviceCandidates held resumed).length

/-- The shares that the service candidates hold (R44). -/
def Leg.totalShare (y : Leg) (held : Bool) (resumed : List Nat) : Nat :=
  ((y.serviceCandidates held resumed).map fun p => p.2.share).sum

/-- The share that is placed for a share `r` (R44). -/
def Leg.placedShare (y : Leg) (n : Cycle) (held : Bool) (resumed : List Nat) (c : Calendar) (r : Nat) : Nat :=
  if c.scaled then scaledShare r (y.availableIn n held resumed c).toNat (y.totalShare held resumed) else r

/-- What a calendar built for a leg grants. -/
theorem Leg.buildCalendar_grants (hc : y.buildCalendar n marker held resumed = c) :
    c.echoes = placeEchoes c.firstFree ((y.echoCandidates n held resumed).take (y.slotsIn n held resumed c)) ∧
      c.services = placeServices (y.placedShare n held resumed c) c.placementEnd
        (c.firstFree + 112 * y.slotsIn n held resumed c) (y.serviceCandidates held resumed) ∧
      c.scaled = (decide (y.availableIn n held resumed c < (y.totalShare held resumed : Nat)) &&
        !(y.serviceCandidates held resumed).isEmpty) := by
  subst hc
  exact ⟨rfl, rfl, rfl⟩

theorem Leg.slotsIn_le_length (y : Leg) (n : Cycle) (held : Bool) (resumed : List Nat) (c : Calendar) :
    ((y.echoCandidates n held resumed).take (y.slotsIn n held resumed c)).length = y.slotsIn n held resumed c := by
  rw [List.length_take]
  exact Nat.min_eq_left ((Nat.min_le_right _ _).trans (Nat.min_le_left _ _))

/-- Every calendar fits its cycle (R35, R41, R45). -/
theorem Leg.buildCalendar_fits (hc : y.buildCalendar n marker held resumed = c) : c.Fits := by
  obtain ⟨hechoes, hservices, -⟩ := Leg.buildCalendar_grants hc
  have hslots : 112 * y.slotsIn n held resumed c ≤ c.placementEnd - c.firstFree := by
    have hle : y.slotsIn n held resumed c ≤ (c.placementEnd - c.firstFree) / 112 :=
      (Nat.min_le_right _ _).trans (Nat.min_le_right _ _)
    omega
  have hecho := stacked_echoes c.firstFree
    ((y.echoCandidates n held resumed).take (y.slotsIn n held resumed c))
  rw [← hechoes, y.slotsIn_le_length] at hecho
  obtain ⟨q, hservice, hq⟩ := stacked_services (y.placedShare n held resumed c) c.placementEnd
    (c.firstFree + 112 * y.slotsIn n held resumed c) (y.serviceCandidates held resumed)
  rw [← hservices] at hservice hq
  have hbursts : Stacked c.firstFree c.bursts q := hecho.append hservice
  refine ⟨hbursts.guards, fun b hb => (hbursts.within.2 b hb).1, fun b hb => ?_⟩
  show b.1 + b.2 + 16 ≤ c.placementEnd
  rcases List.mem_append.mp hb with hb | hb
  · -- an echo ends with its slot, and there is room for the slots
    have hend := (hecho.within.2 b hb).2
    have hpos := (hecho.within.2 b hb).1
    omega
  · have hsome : c.services ≠ [] := by
      rintro hnil
      simp [hnil] at hb
    exact ((hservice.within.2 b hb).2).trans (hq hsome)

/-- The echoes go to echo candidates, and the service grants to service candidates with their placed shares. -/
theorem Leg.echo_of_mem (hc : y.buildCalendar n marker held resumed = c) {g : EchoGrant} (hg : g ∈ c.echoes) :
    ∃ r, (g.drop, r) ∈ y.echoCandidates n held resumed := by
  rw [(Leg.buildCalendar_grants hc).1] at hg
  obtain ⟨r, hr⟩ := drop_of_mem_placeEchoes hg
  exact ⟨r, List.mem_of_mem_take hr⟩

theorem Leg.service_of_mem (hc : y.buildCalendar n marker held resumed = c) {g : ServiceGrant} (hg : g ∈ c.services) :
    ∃ r, (g.drop, r) ∈ y.serviceCandidates held resumed ∧ g.share = y.placedShare n held resumed c r.share := by
  rw [(Leg.buildCalendar_grants hc).2.1] at hg
  obtain ⟨placed, -, heq, -⟩ := placeServices_eq (y.placedShare n held resumed c) c.placementEnd
    (c.firstFree + 112 * y.slotsIn n held resumed c) (y.serviceCandidates held resumed)
  rw [heq] at hg
  obtain ⟨k, hk, rfl⟩ := List.mem_mapIdx.mp hg
  exact ⟨_, List.mem_of_mem_take (List.getElem_mem hk), rfl⟩

/-- A placed share is 8 at least and the record's share at most, in multiples of 8 when that is (R44). -/
theorem Leg.placedShare_bounds (hc : y.buildCalendar n marker held resumed = c) {d : Nat} {r : DropRecord}
    (hr : (d, r) ∈ y.serviceCandidates held resumed) (h8 : 8 ≤ r.share) :
    8 ≤ y.placedShare n held resumed c r.share ∧ y.placedShare n held resumed c r.share ≤ r.share ∧
      (8 ∣ r.share → 8 ∣ y.placedShare n held resumed c r.share) := by
  unfold Leg.placedShare
  split
  · next hscaled =>
    rw [(Leg.buildCalendar_grants hc).2.2, Bool.and_eq_true, decide_eq_true_eq] at hscaled
    have hle : (y.availableIn n held resumed c).toNat ≤ y.totalShare held resumed := by omega
    have hpos : 0 < y.totalShare held resumed := by
      have := List.single_le_sum (fun _ _ => Nat.zero_le _) r.share (List.mem_map_of_mem (f := fun p => p.2.share) hr)
      unfold Leg.totalShare
      omega
    generalize (y.availableIn n held resumed c).toNat = available at hle
    generalize y.totalShare held resumed = total at hle hpos
    have hscale : r.share * available / (total * 8) ≤ r.share / 8 := by
      rw [← Nat.div_div_eq_div_mul]
      refine Nat.div_le_div_right ?_
      exact (Nat.div_le_div_right (Nat.mul_le_mul_left _ hle)).trans_eq (Nat.mul_div_cancel _ hpos)
    unfold scaledShare
    dsimp only
    split <;> omega
  · exact ⟨h8, Nat.le_refl _, id⟩

/-- No drop has two grants: echo candidates are under activation, and service candidates in service. -/
theorem Leg.buildCalendar_nodup (hc : y.buildCalendar n marker held resumed = c) :
    (c.echoes.map EchoGrant.drop).Nodup ∧ (c.services.map ServiceGrant.drop).Nodup ∧
      ∀ g ∈ c.echoes, ∀ h ∈ c.services, g.drop ≠ h.drop := by
  obtain ⟨hechoes, hservices, -⟩ := Leg.buildCalendar_grants hc
  refine ⟨?_, ?_, fun g hg h hh heq => ?_⟩
  · rw [hechoes, placeEchoes_drops]
    exact (y.echoCandidates_nodup n held resumed).sublist ((List.take_sublist _ _).map _)
  · rw [hservices]
    refine List.Pairwise.sublist (placeServices_drops _ _ _ _) ?_
    exact List.pairwise_map.mpr ((y.serviceCandidates_ascending held resumed).imp fun h => Nat.ne_of_lt h)
  · obtain ⟨r, hr⟩ := Leg.echo_of_mem hc hg
    obtain ⟨r', hr', -⟩ := Leg.service_of_mem hc hh
    obtain ⟨hrec, -, -, hcand⟩ := Leg.mem_echoCandidates.mp hr
    obtain ⟨hrec', -, hcand'⟩ := Leg.mem_serviceCandidates.mp hr'
    rw [heq, hrec'] at hrec
    obtain rfl := Option.some.inj hrec
    simp only [Leg.echoCandidate, Leg.serviceCandidate, Bool.and_eq_true, decide_eq_true_eq] at hcand hcand'
    obtain ⟨⟨⟨⟨⟨hclass, -⟩, -⟩, -⟩, -⟩, -⟩ := hcand
    obtain ⟨⟨⟨⟨hservice, -⟩, -⟩, -⟩, -⟩ := hcand'
    rw [hservice] at hclass
    exact absurd hclass (by decide)

end Build

end Sys2Proof.Machine
end

section
/-! SUPPORT. A leg that begins its cycle, exactly (R34, R42, R46): its departures, its hold and its calendar, and then the
acts of the calendar's grants on it and on the Level Meter. -/

namespace Sys2Proof.Machine

/-- The acts are on drops of the grants, with live records. -/
theorem mem_actsOf {y : Leg} {c : Calendar} {interval : Nat} {a : GrantAct} :
    a ∈ actsOf y c interval ↔
      (∃ g ∈ c.echoes, ∃ r, y.record g.drop = some r ∧ a = echoAct y c interval g r) ∨
        ∃ g ∈ c.services, ∃ r, y.record g.drop = some r ∧ a = serviceAct y c g r := by
  simp only [actsOf, List.mem_append, List.mem_filterMap, Option.map_eq_some_iff, eq_comm (a := a)]

theorem live_of_mem_actsOf {y : Leg} {c : Calendar} {interval : Nat} {a : GrantAct} (ha : a ∈ actsOf y c interval) :
    a.drop < y.drops.length := by
  rcases mem_actsOf.mp ha with ⟨g, -, r, hr, rfl⟩ | ⟨g, -, r, hr, rfl⟩
  · exact Leg.record_lt hr
  · exact Leg.record_lt hr

/-- The grants of a calendar, taken one after another on a leg whose records stand as at the build, are its acts. -/
theorem foldl_grants_eq_actsOf {s : State} {l : LegId} {y : Leg} {c : Calendar}
    (hechoes : (c.echoes.map EchoGrant.drop).Nodup) (hservices : (c.services.map ServiceGrant.drop).Nodup)
    (hapart : ∀ g ∈ c.echoes, ∀ h ∈ c.services, g.drop ≠ h.drop) (hrecords : ∀ d, s.record l d = y.record d)
    (hderived : (s.leg l).derived = y.derived) (hlength : (s.leg l).drops.length = y.drops.length) :
    c.services.foldl (State.grantService l c.cycle c.marker) (c.echoes.foldl (State.grantEcho l c.cycle c.marker) s) =
      (actsOf y c s.params.interval).foldl (State.act l) s := by
  have hecho := foldl_grants_eq_acts (y := y) (f := State.grantEcho l c.cycle c.marker)
    (act := echoAct y c s.params.interval) (params := s.params)
    (fun hr hd hp => hp ▸ grantEcho_eq_act hr hd) (fun h => State.grantEcho_none _ _ h) (fun _ _ => rfl) hechoes
    (fun g _ => hrecords g.drop) hderived rfl
  have hacted := acted_foldl (l := l) (s := s)
    (as := c.echoes.filterMap fun g => (y.record g.drop).map (echoAct y c s.params.interval g)) fun a ha =>
      hlength ▸ live_of_mem_actsOf (List.mem_append_left _ ha)
  rw [hecho, actsOf, List.foldl_append]
  generalize List.foldl (State.act l) s _ = u at hacted
  have hleg : (u.leg l).derived = (s.leg l).derived := by rw [hacted.leg]
  refine foldl_grants_eq_acts (y := y) (f := State.grantService l c.cycle c.marker) (act := serviceAct y c)
    (params := u.params) (fun hr hd _ => grantService_eq_act hr hd)
    (fun h => State.grantService_none _ _ h) (fun _ _ => rfl) hservices (fun h hh => ?_) (hleg.trans hderived) rfl
  rw [hacted.others, hrecords]
  intro a ha
  obtain ⟨g, hg, hga⟩ := List.mem_filterMap.mp ha
  obtain ⟨r, -, rfl⟩ := Option.map_eq_some_iff.mp hga
  exact hapart g hg h hh

/-- The acts of the calendar that a leg's cycle begins with. -/
def State.actsAt (s : State) (l : LegId) (marker : Nat) : List GrantAct :=
  actsOf ((s.leg l).departedHeld (s.leg l).count) ((s.leg l).nextCalendar (s.leg l).count marker) s.params.interval

/-- A leg begins its cycle: the departures, the hold and the calendar, and then the acts of its grants. -/
theorem State.beginCycle_acts (s : State) (l : LegId) (marker : Nat) :
    ∃ u : State,
      u.leg l = ((s.leg l).departedHeld (s.leg l).count).takeCalendar ((s.leg l).nextCalendar (s.leg l).count marker)
        ((leaving (s.leg l)).map (sentAs (s.leg l))) ∧
      u.meter = s.meter ∧ Acted l (s.actsAt l marker) u (s.beginCycle l marker) := by
  have hheld : ((s.setLeg l (((s.leg l).startRecords (s.leg l).count).depart (s.leg l).count).1).holdAtBuild l
      (s.leg l).count).leg l = (s.leg l).departedHeld (s.leg l).count := by
    rw [State.holdAtBuild_leg, State.setLeg_leg_same]
    unfold Leg.departedHeld
    rw [((s.leg l).depart_leg (s.leg l).count).1]
  have hstood := (onLegs_setLeg s l (((s.leg l).startRecords (s.leg l).count).depart (s.leg l).count).1).trans
    (holdAtBuild_onLegs _ l (s.leg l).count)
  have hmeter : ((s.setLeg l (((s.leg l).startRecords (s.leg l).count).depart (s.leg l).count).1).holdAtBuild l
      (s.leg l).count).meter = s.meter := by
    rw [State.holdAtBuild_eq, State.foldl_notify]
    rfl
  generalize hy : (s.leg l).departedHeld (s.leg l).count = y at hheld
  have hc : y.buildCalendar (s.leg l).count marker y.hold.isSome
      (resumedDrops ((leaving (s.leg l)).map (sentAs (s.leg l)))) = (s.leg l).nextCalendar (s.leg l).count marker := by
    rw [← hy]
    rfl
  unfold State.actsAt
  rw [hy]
  simp only [State.beginCycle, hheld, Leg.depart_sent, hc]
  generalize (s.setLeg l (((s.leg l).startRecords (s.leg l).count).depart (s.leg l).count).1).holdAtBuild l
    (s.leg l).count = v at hheld hstood hmeter
  generalize (s.leg l).nextCalendar (s.leg l).count marker = c at hc
  generalize (leaving (s.leg l)).map (sentAs (s.leg l)) = sent at hc
  have hcycle : c.cycle = (s.leg l).count := by rw [← hc]; rfl
  have hmarker : c.marker = marker := by rw [← hc]; rfl
  obtain ⟨hechoes, hservices, hapart⟩ := Leg.buildCalendar_nodup hc
  have htaken : (v.mapLeg l fun x => x.takeCalendar c sent).leg l = y.takeCalendar c sent := by
    rw [State.mapLeg_leg_same, hheld]
  refine ⟨v.mapLeg l fun x => x.takeCalendar c sent, htaken, hmeter, ?_⟩
  have hacts := foldl_grants_eq_actsOf (s := v.mapLeg l fun x => x.takeCalendar c sent) (l := l) (y := y) hechoes
    hservices hapart (fun d => by rw [State.record, htaken]; rfl) (by rw [htaken]; rfl) (by rw [htaken]; rfl)
  rw [hcycle, hmarker, State.mapLeg_params, hstood.params] at hacts
  rw [hacts]
  exact acted_foldl fun a ha => by rw [htaken]; exact live_of_mem_actsOf ha

end Sys2Proof.Machine
end

section
/-! SUPPORT. The commands that build a calendar of a leg (R34, R151, R158), and the leg and sample queue after them: those
of a state in which that leg alone begins its cycle. -/

namespace Sys2Proof.Machine

/-! ## The sample queue of a leg that takes no step -/

theorem beginCycle_queue_other (s : State) {l k : LegId} (h : k ≠ l) (marker : Nat) :
    (s.beginCycle l marker).meter.queues.get k = s.meter.queues.get k := by
  obtain ⟨u, -, hmeter, hacted⟩ := s.beginCycle_acts l marker
  rw [hacted.meter, Four.get_set_other _ _ h, hmeter]

theorem boundaryLeg_queue_other (marker : Nat) (s : State) {l k : LegId} (h : k ≠ l) :
    (State.boundaryLeg marker s l).meter.queues.get k = s.meter.queues.get k := by
  unfold State.boundaryLeg
  split
  · rfl
  · by_cases hs : (s.leg l).state = .stopped
    · rw [State.beginLeg_stopped hs, State.startCycles_eq]
      split
      · rfl
      · split
        · exact beginCycle_queue_other (s.setLeg l ((s.leg l).starting s.bias.state)) h marker
        · rfl
    · rw [State.beginLeg_started hs]
      exact beginCycle_queue_other (s.mapLeg l fun x => { x with count := x.count + 1#32 }) h marker

/-- One step of several takes effect on a view that the others leave. -/
theorem foldl_view {α : Type} {f : State → LegId → State} {view : State → α} {l : LegId}
    (hf : ∀ s k, k ≠ l → view (f s k) = view s) {ls : List LegId} (hls : ls.Nodup) (hl : l ∈ ls) (s : State) :
    ∃ u, view u = view s ∧ view (ls.foldl f s) = view (f u l) := by
  have hothers (ks : List LegId) (hks : l ∉ ks) (s : State) : view (ks.foldl f s) = view s := by
    induction ks generalizing s with
    | nil => rfl
    | cons k ks ih =>
      rw [List.mem_cons, not_or] at hks
      exact (ih hks.2 (f s k)).trans (hf s k (Ne.symm hks.1))
  induction ls generalizing s with
  | nil => simp at hl
  | cons k ls ih =>
    obtain ⟨hk, hrest⟩ := List.nodup_cons.mp hls
    by_cases hkl : l = k
    · subst hkl
      exact ⟨s, rfl, hothers ls hk (f s l)⟩
    · obtain ⟨u, hu, hstep⟩ := ih hrest ((List.mem_cons.mp hl).resolve_left hkl) (f s k)
      exact ⟨u, hu.trans (hf s k (Ne.symm hkl)), hstep⟩

/-! ## The sample queues after the legs -/

theorem addWant_queues (m : Meter) (l : LegId) (k : RangeId) : (m.addWant l k).queues = m.queues := by
  unfold Meter.addWant
  split <;> rfl

theorem invalidate_queues (m : Meter) (l : LegId) (k : RangeId) : (m.invalidate l k).queues = m.queues := by
  unfold Meter.invalidate
  split
  · dsimp only
    split
    · exact addWant_queues _ l k
    · rfl
  · rfl

theorem ageOffset_queues (m : Meter) (l : LegId) (k : RangeId) : (m.ageOffset l k).queues = m.queues := by
  unfold Meter.ageOffset
  dsimp only
  split
  · split
    · exact invalidate_queues m l k
    · rfl
  · rfl

/-- Steps over every range of every leg that keep the sample queues keep them together. -/
theorem foldl_ranges_queues {f : Meter → LegId → RangeId → Meter} (hf : ∀ m l k, (f m l k).queues = m.queues)
    (m : Meter) : (Quad.all.foldl (fun m l => Quad.all.foldl (fun m k => f m l k) m) m).queues = m.queues :=
  List.foldlRecOn (motive := fun m' : Meter => m'.queues = m.queues) Quad.all _ rfl fun _ hlegs l _ =>
    List.foldlRecOn (motive := fun m' : Meter => m'.queues = m.queues) Quad.all _ hlegs fun m' hranges k _ =>
      (hf m' l k).trans hranges

theorem arbitrateCalibration_queues (s : State) (instant : Nat) :
    (s.arbitrateCalibration instant).meter.queues = s.meter.queues := by
  unfold State.arbitrateCalibration
  split
  · rfl
  · split <;> rfl

theorem wakeLegs_meter (ls : List LegId) (s : State) : (ls.foldl State.wakeLeg s).meter = s.meter := by
  induction ls generalizing s with
  | nil => rfl
  | cons l ls ih =>
    refine (ih _).trans ?_
    unfold State.wakeLeg
    split <;> rfl

theorem enterReady_queues (s : State) (instant : Nat) : (s.enterReady instant).meter.queues = s.meter.queues := by
  unfold State.enterReady
  rw [wakeLegs_meter]
  exact foldl_ranges_queues invalidate_queues s.meter

theorem countBias_queues (s : State) (instant : Nat) : (s.countBias instant).meter.queues = s.meter.queues := by
  unfold State.countBias
  split
  · rfl
  · rfl
  · split
    · exact enterReady_queues s instant
    · rfl
  · split
    · split <;> rfl
    · rfl

/-- Only the legs place sample requests at a boundary. -/
theorem boundary_queues (s : State) : s.boundary.meter.queues = s.legsTaken.meter.queues := by
  have hbias (t : State) (instant : Nat) : (t.boundaryBias instant).meter.queues = t.meter.queues := by
    unfold State.boundaryBias
    dsimp only
    split
    · rfl
    · exact countBias_queues t instant
  have hlapse : s.legsTaken.lapseCandidates.meter = s.legsTaken.meter := by
    rw [State.lapseCandidates_eq]
  rw [State.boundary_eq_boundaryBias]
  refine (hbias _ _).trans ((foldl_ranges_queues ageOffset_queues _).trans ?_)
  rw [arbitrateCalibration_queues, hlapse]

/-! ## The leg that begins a cycle -/

/-- A leg as it begins cycle `n` from leg `x`, and a sample queue then, come from a state `v` in which it alone begins
it, with the queue and the parameters of `s`. -/
structure BeginsFrom (s v : State) (l : LegId) (x : Leg) (n : Cycle) : Prop where
  leg : v.leg l = { x with count := n }
  queue : v.meter.queues.get l = s.meter.queues.get l
  params : v.params = s.params

/-- What a step on one leg of the boundary sees and leaves: that leg, its sample queue, the bias and the parameters. -/
def State.viewOf (l : LegId) (s : State) : Leg × List SampleRequest × Bias × Activation :=
  (s.leg l, s.meter.queues.get l, s.bias, s.params)

theorem boundaryLeg_viewOf (marker : Nat) {l k : LegId} (h : k ≠ l) (s : State) :
    (State.boundaryLeg marker s k).viewOf l = s.viewOf l := by
  have honly := boundaryLeg_onLegs marker s k
  simp only [State.viewOf, honly.others l (by simpa using Ne.symm h), boundaryLeg_queue_other marker s (Ne.symm h),
    honly.bias, honly.params]

/-- At the boundary a leg that is started begins its next cycle, and one whose start is pending cycle 0. -/
theorem legsTaken_beginsFrom {s : State} {l : LegId} {x : Leg} {n : Cycle} (h : Builds s l .cycleBoundary x n) :
    ∃ v, BeginsFrom s v l x n ∧
      s.legsTaken.leg l = (v.beginCycle l (31250 * (s.boundaries + 1))).leg l ∧
      s.legsTaken.meter.queues.get l = (v.beginCycle l (31250 * (s.boundaries + 1))).meter.queues.get l := by
  obtain ⟨hahead, hcase⟩ := h
  obtain ⟨u, hview, hstep⟩ := foldl_view (view := State.viewOf l) (fun t k hk => boundaryLeg_viewOf s.comingInstant hk t)
    nodup_quad_all (mem_quad_all l) s
  simp only [State.viewOf, Prod.mk.injEq] at hview hstep
  obtain ⟨hleg, hqueue, hbias, hparams⟩ := hview
  obtain ⟨hleg', hqueue', -, -⟩ := hstep
  rw [State.boundaryLeg, hleg, hahead, if_neg Bool.false_ne_true] at hleg' hqueue'
  rcases hcase with ⟨-, hs, rfl, rfl⟩ | ⟨hcommand, -⟩ | ⟨-, hs, hf, hp, rfl, rfl⟩
  · rw [State.beginLeg_started (hleg ▸ hs)] at hleg' hqueue'
    refine ⟨u.mapLeg l fun x => { x with count := x.count + 1#32 }, ⟨?_, hqueue, hparams⟩, hleg', hqueue'⟩
    rw [State.mapLeg_leg_same, hleg]
  · cases hcommand
  · rw [State.beginLeg_stopped (hleg ▸ hs), hleg, hf, hp, State.startCycles_eq] at hleg' hqueue'
    refine ⟨u.setLeg l ((u.leg l).starting u.bias.state), ⟨?_, hqueue, hparams⟩, hleg', hqueue'⟩
    rw [State.setLeg_leg_same, hleg, hbias]
    rfl

/-- A hold that expires begins the leg's cycle ahead of the boundary (R158). -/
theorem exec_holdExpiry_due {s : State} {l : LegId} (hreset : s.inReset = none)
    (hexpires : (s.leg l).holdExpires = true) :
    exec (.holdExpiry l) s = .next
      (((s.mapLeg l fun x => { x with count := x.count + 1#32 }).beginCycle l (31250 * (s.boundaries + 1))).mapLeg l
        fun x => { x with ahead := true }).arbitrate := by
  have hstarted : (s.leg l).state ≠ .stopped := by
    intro hs
    simp [Leg.holdExpires, Leg.started, hs] at hexpires
  change execHoldExpiry l s = _
  rw [execHoldExpiry, event_alive _ hreset]
  rw [if_pos hexpires, State.beginLeg_started hstarted]
  rfl

/-- A command that builds a calendar of a leg leaves the leg and its sample queue as the leg's cycle, begun alone, does;
only the leg's state and its mark of the boundary may differ. -/
theorem exec_beginsFrom {s : State} {l : LegId} {command : Instr} {x : Leg} {n : Cycle} (hreset : s.inReset = none)
    (h : Builds s l command x n) :
    ∃ v t, exec command s = .next t ∧ BeginsFrom s v l x n ∧
      t.leg l = { (v.beginCycle l (31250 * (s.boundaries + 1))).leg l with
        state := (t.leg l).state, ahead := (t.leg l).ahead } ∧
      t.meter.queues.get l = (v.beginCycle l (31250 * (s.boundaries + 1))).meter.queues.get l := by
  have hboundary (h : Builds s l .cycleBoundary x n) : ∃ v t, exec .cycleBoundary s = .next t ∧ BeginsFrom s v l x n ∧
      t.leg l = { (v.beginCycle l (31250 * (s.boundaries + 1))).leg l with
        state := (t.leg l).state, ahead := (t.leg l).ahead } ∧
      t.meter.queues.get l = (v.beginCycle l (31250 * (s.boundaries + 1))).meter.queues.get l := by
    obtain ⟨v, hv, hleg, hqueue⟩ := legsTaken_beginsFrom h
    refine ⟨v, s.boundary.arbitrate, exec_cycleBoundary hreset, hv, ?_, ?_⟩
    · rw [State.arbitrate_leg, boundary_leg, hleg]
      rfl
    · rw [State.arbitrate_meter, boundary_queues, hqueue]
  have hcase := h.2
  rcases hcase with ⟨rfl, -⟩ | ⟨rfl, hs, rfl, rfl, hold, hhold, hend⟩ | ⟨rfl, -⟩
  · exact hboundary h
  · have hexpires : (s.leg l).holdExpires = true := by
      simp [Leg.holdExpires, Leg.started, hs, h.1, hhold, hend]
    refine ⟨s.mapLeg l fun x => { x with count := x.count + 1#32 }, _, exec_holdExpiry_due hreset hexpires,
      ⟨State.mapLeg_leg_same s l _, rfl, rfl⟩, ?_, rfl⟩
    rw [State.arbitrate_leg, State.mapLeg_leg_same]
  · exact hboundary h

end Sys2Proof.Machine
end

section
/-! SUPPORT. Holds (R157, R158): the calendar of a hold cycle grants nothing, and the expiry of a hold begins the leg's
cycle. -/

namespace Sys2Proof.Machine

/-! ## A leg that has begun its cycle -/

/-- The calendar, the content that the transmitter sends and the hold of a leg that has begun its cycle. -/
theorem beginCycle_leg (s : State) (l : LegId) (marker : Nat) :
    ((s.beginCycle l marker).leg l).calendar = some ((s.leg l).nextCalendar (s.leg l).count marker) ∧
      ((s.beginCycle l marker).leg l).downstream = some
        { cycle := (s.leg l).count, grants := ((s.leg l).nextCalendar (s.leg l).count marker).grantList,
          muster := if ((s.leg l).nextCalendar (s.leg l).count marker).window.isSome then some (s.leg l).derived.am
            else none,
          directives := (leaving (s.leg l)).map (sentAs (s.leg l)) } ∧
      ((s.beginCycle l marker).leg l).hold = heldAt (s.leg l).count (s.leg l).hold := by
  obtain ⟨u, hu, -, hacted⟩ := s.beginCycle_acts l marker
  rw [hacted.leg, hu, (s.leg l).departedHeld_eq (s.leg l).count]
  exact ⟨rfl, rfl, rfl⟩

/-- The Level Meter after a leg has begun its cycle: the sample requests placed, and their ranges wanted (R46, R127). -/
theorem beginCycle_meter (s : State) (l : LegId) (marker : Nat) :
    ∃ placed, (s.beginCycle l marker).meter =
      { s.meter with
        queues := s.meter.queues.set l (s.meter.queues.get l ++ placed),
        wants := s.meter.wants.set l (wantedBy s l placed) } := by
  obtain ⟨u, -, hmeter, hacted⟩ := s.beginCycle_acts l marker
  refine ⟨roomFor (s.meter.queues.get l) (s.actsAt l marker), ?_⟩
  have hwanted (placed : List SampleRequest) : wantedBy u l placed = wantedBy s l placed := by
    simp only [wantedBy, State.offset, hmeter]
  rw [hacted.meter, hwanted, hmeter]

/-! ## Hold cycles -/

/-- The calendar of a hold cycle has no window, no echo and no service grant (R157). -/
theorem Leg.buildCalendar_held (y : Leg) (n : Cycle) (marker : Nat) (resumed : List Nat) :
    (y.buildCalendar n marker true resumed).hold = true ∧ (y.buildCalendar n marker true resumed).window = none ∧
      (y.buildCalendar n marker true resumed).echoes = [] ∧ (y.buildCalendar n marker true resumed).services = [] := by
  have hechoes : y.echoCandidates n true resumed = [] := rfl
  have hservices : y.serviceCandidates true resumed = [] := rfl
  have hmuster : y.musters n true = false := by simp [Leg.musters]
  simp [Leg.buildCalendar, hechoes, hservices, hmuster, placeEchoes, placeServices]

/-- Whether a leg's calendar is a hold cycle's is what the build leaves of its hold. -/
theorem Leg.nextCalendar_eq (x : Leg) (n : Cycle) (marker : Nat) :
    x.nextCalendar n marker = (x.departedHeld n).buildCalendar n marker (heldAt n x.hold).isSome
      (resumedDrops ((leaving x).map (sentAs x))) := rfl

theorem heldAt_building {h : Hold} (hbuilding : h.built < h.length) (n : Cycle) :
    heldAt n (some h) = some { h with built := h.built + 1, first := some (h.first.getD n) } :=
  if_neg (Nat.not_le_of_lt hbuilding)

theorem heldAt_expired {h : Hold} (hend : h.length ≤ h.built) (n : Cycle) : heldAt n (some h) = none :=
  if_pos hend

/-- A hold that is not at its end does not expire. -/
theorem exec_holdExpiry_early {s : State} {l : LegId} {h : Hold} (hreset : s.inReset = none)
    (hhold : (s.leg l).hold = some h) (hbuilding : h.built < h.length) :
    exec (.holdExpiry l) s = .next { s with iface := s.iface.arbitrate } := by
  have hstays : ¬ (s.leg l).holdExpires = true := by
    simp [Leg.holdExpires, hhold, Nat.not_le_of_lt hbuilding]
  change execHoldExpiry l s = _
  rw [execHoldExpiry, event_alive _ hreset, if_neg hstays]
  rfl

section Hold

variable {l : LegId} {h : Hold} {s : State}

/-- A boundary within a hold makes a hold cycle, and places HOLD-BEGUN with the first (R157). -/
theorem boundary_holds (hreset : s.inReset = none) (hahead : (s.leg l).ahead = false)
    (hstarted : (s.leg l).state ≠ .stopped) (hhold : (s.leg l).hold = some h) (hbuilding : h.built < h.length) :
    ∃ t c d, exec .cycleBoundary s = .next t ∧ (t.leg l).calendar = some c ∧ (t.leg l).downstream = some d ∧
      (t.leg l).hold = some { h with built := h.built + 1, first := some (h.first.getD ((s.leg l).count + 1#32)) } ∧
      c.hold = true ∧ c.window = none ∧ c.echoes = [] ∧ c.services = [] ∧ d.grants = [] ∧ d.muster = none ∧
      t.iface = Interface.arbitrate ((boundaryNotices s t).foldl Interface.place s.iface) := by
  have hbuilds : Builds s l .cycleBoundary (s.leg l) ((s.leg l).count + 1#32) :=
    ⟨hahead, .inl ⟨rfl, hstarted, rfl, rfl⟩⟩
  obtain ⟨v, t, hexec, hv, hleg, -⟩ := exec_beginsFrom hreset hbuilds
  obtain ⟨t', hexec', -, -, -, -, -, -, -, -, -, hiface, -⟩ := everyLegBeginsItsCycle s hreset
  obtain rfl : t' = t := Host.Outcome.next.inj (hexec'.symm.trans hexec)
  obtain ⟨hcal, hdown, hheld⟩ := beginCycle_leg v l (31250 * (s.boundaries + 1))
  have hcount : (v.leg l).count = (s.leg l).count + 1#32 := by rw [hv.leg]
  have hnext : heldAt (v.leg l).count (v.leg l).hold =
      some { h with built := h.built + 1, first := some (h.first.getD ((s.leg l).count + 1#32)) } := by
    rw [hcount, hv.leg, ← heldAt_building hbuilding, ← hhold]
  have hbuilt := (v.leg l).nextCalendar_eq (v.leg l).count (31250 * (s.boundaries + 1))
  rw [hnext, Option.isSome_some] at hbuilt
  obtain ⟨hcycle, hwindow, hechoes, hservices⟩ := Leg.buildCalendar_held ((v.leg l).departedHeld (v.leg l).count)
    (v.leg l).count (31250 * (s.boundaries + 1)) (resumedDrops ((leaving (v.leg l)).map (sentAs (v.leg l))))
  rw [← hbuilt] at hcycle hwindow hechoes hservices
  refine ⟨t', _, _, hexec, .trans (by rw [hleg]) hcal, .trans (by rw [hleg]) hdown,
    .trans (by rw [hleg]) (hheld.trans hnext), hcycle, hwindow, hechoes, hservices, ?_, ?_, hiface⟩
  · rw [Calendar.grantList, hechoes, hservices]
    rfl
  · rw [hwindow]
    rfl

/-- The expiry of a hold begins the leg's cycle: its departures, its sample requests and HOLD-ENDED, and nothing of
another leg (R46, R127, R158). -/
theorem holdExpiry_begins (hreset : s.inReset = none) (hahead : (s.leg l).ahead = false)
    (hstarted : (s.leg l).state ≠ .stopped) (hhold : (s.leg l).hold = some h) (hend : h.length ≤ h.built) :
    ∃ t c, exec (.holdExpiry l) s = .next t ∧ (t.leg l).hold = none ∧ (t.leg l).ahead = true ∧
      (t.leg l).state = (s.leg l).state ∧
      (t.leg l).count = (s.leg l).count + 1#32 ∧ (t.leg l).calendar = some c ∧ c.hold = false ∧
      c.cycle = (s.leg l).count + 1#32 ∧ c.marker = 31250 * (s.boundaries + 1) ∧
      Departs (s.leg l) (t.leg l) ((s.leg l).count + 1#32) ∧
      t.iface = Interface.arbitrate
        (s.iface.place (.holdEnded l .expired h.built ((s.leg l).count + 1#32))) ∧
      (∃ placed, t.meter =
        { s.meter with
          queues := s.meter.queues.set l (s.meter.queues.get l ++ placed),
          wants := s.meter.wants.set l (wantedBy s l placed) }) ∧
      (∀ k, k ≠ l → t.leg k = s.leg k) ∧ t.boundaries = s.boundaries ∧ t.bias = s.bias ∧ t.rail = s.rail ∧
      t.roster = s.roster ∧ t.params = s.params ∧ t.candidates = s.candidates := by
  have hexpires : (s.leg l).holdExpires = true := by
    simp [Leg.holdExpires, Leg.started, hstarted, hahead, hhold, hend]
  have hexec := exec_holdExpiry_due hreset hexpires
  generalize hv : (s.mapLeg l fun x => { x with count := x.count + 1#32 }) = v at hexec
  have hvleg : v.leg l = { s.leg l with count := (s.leg l).count + 1#32 } := by
    rw [← hv, State.mapLeg_leg_same]
  have honly := (onLegs_mapLeg s l fun x => { x with count := x.count + 1#32 })
  rw [hv] at honly
  have honly' := honly.trans (beginCycle_onLegs v l (31250 * (s.boundaries + 1)))
  obtain ⟨hcal, -, hheld⟩ := beginCycle_leg v l (31250 * (s.boundaries + 1))
  have hbegins := v.beginCycle_begins l (31250 * (s.boundaries + 1))
  obtain ⟨placed, hplaced⟩ := beginCycle_meter v l (31250 * (s.boundaries + 1))
  have hwanted : wantedBy v l placed = wantedBy s l placed := by rw [← hv]; rfl
  have hvmeter : v.meter = s.meter := by rw [← hv]; rfl
  rw [hwanted, hvmeter] at hplaced
  rw [hvleg] at hcal hheld hbegins honly'
  have hnone : heldAt ((s.leg l).count + 1#32) (s.leg l).hold = none := by rw [hhold]; exact heldAt_expired hend _
  have hnotices : holdNotices l ((s.leg l).count + 1#32) (s.leg l).hold =
      [.holdEnded l .expired h.built ((s.leg l).count + 1#32)] := by
    rw [hhold]
    exact if_pos hend
  have hiface : (v.beginCycle l (31250 * (s.boundaries + 1))).iface =
      s.iface.place (.holdEnded l .expired h.built ((s.leg l).count + 1#32)) := by
    rw [honly'.iface]
    dsimp only
    rw [hnotices]
    rfl
  generalize v.beginCycle l (31250 * (s.boundaries + 1)) = u at hexec hcal hheld hbegins honly' hplaced hiface
  have hleg : ((u.mapLeg l fun x => { x with ahead := true }).arbitrate).leg l = { u.leg l with ahead := true } := by
    rw [State.arbitrate_leg, State.mapLeg_leg_same]
  refine ⟨_, _, hexec, ?_, ?_, ?_, ?_, .trans (by rw [hleg]) hcal, ?_, ?_, ?_, ?_, ?_, ⟨placed, hplaced⟩, fun k hk => ?_,
    honly'.boundaries, honly'.bias, honly'.rail, honly'.roster, honly'.params, honly'.candidates⟩
  · rw [hleg]; exact hheld.trans hnone
  · rw [hleg]
  · rw [hleg]; exact hbegins.state_eq
  · rw [hleg]; exact hbegins.count_eq
  · rw [Leg.nextCalendar_eq]
    show (heldAt _ (s.leg l).hold).isSome = false
    rw [hnone]
    rfl
  · rfl
  · rfl
  · rw [hleg]; exact hbegins.departs
  · rw [← hiface]; rfl
  · rw [State.arbitrate_leg, State.mapLeg_leg_other u _ hk]
    exact honly'.others k (by simpa using hk)

end Hold

end Sys2Proof.Machine

open Sys2Proof Sys2Proof.Machine

/-- Settles O38: a boundary within the hold builds a hold cycle, and the expiry after the last begins the leg's cycle. -/
theorem aHoldMakesHoldCyclesAndExpires : Obligations.AHoldMakesHoldCyclesAndExpires := by
  unfold Obligations.AHoldMakesHoldCyclesAndExpires
  intro l h s hreset hahead hstarted hhold
  refine ⟨fun hbuilding => ⟨?_, exec_holdExpiry_early hreset hhold hbuilding⟩,
    fun hend => holdExpiry_begins hreset hahead hstarted hhold hend⟩
  obtain ⟨t, c, d, hexec, hcal, hdown, hheld, hcycle, hwindow, hechoes, hservices, hgrants, hmuster, hiface⟩ :=
    boundary_holds hreset hahead hstarted hhold hbuilding
  have hnotices : legNotices s l = holdNotices l ((s.leg l).count + 1#32) (some h) := by
    rw [legNotices_started hahead hstarted, hhold]
  have hnot : ¬ h.length ≤ h.built := Nat.not_le_of_lt hbuilding
  refine ⟨t, c, d, hexec, hcal, hdown, hheld, hcycle, hwindow, hechoes, hservices, hgrants, hmuster, fun hfirst => ?_,
    fun hlater => ?_, hiface⟩
  · rw [hnotices, holdNotices, if_neg hnot, if_pos hfirst]
  · rw [hnotices, holdNotices, if_neg hnot, if_neg hlater]
end

section
/-! SUPPORT. The rank order of echo candidates (R41): within 2^30 cycles of the count a due cycle is as early as its age
is large, and the model's insertion puts the candidates in rank order. -/

namespace Sys2Proof.Machine

/-- A candidate for an echo in cycle `n`: under activation, and its echo is due and within 2^30 cycles of the count (R2,
R40). -/
structure DueIn (n : Cycle) (p : Nat × DropRecord) : Prop where
  active : p.2.state = .enrolling ∨ p.2.state = .levelling ∨ p.2.state = .soak
  due : ∃ c, p.2.echoDue = some c ∧ 0 ≤ (n - c).toInt ∧ (n - c).toInt ≤ 2 ^ 30

/-- The cycles since an echo is due. -/
def dueAge (n : Cycle) (p : Nat × DropRecord) : Int := p.2.echoDue.elim 0 fun c => (n - c).toInt

/-- Between cycles within 2^30 of the count the difference is that of their ages. -/
theorem toInt_sub_of_ages {n x y : Cycle} (hx : 0 ≤ (n - x).toInt ∧ (n - x).toInt ≤ 2 ^ 30)
    (hy : 0 ≤ (n - y).toInt ∧ (n - y).toInt ≤ 2 ^ 30) : (x - y).toInt = (n - y).toInt - (n - x).toInt := by
  have hdiff : x - y = (n - y) - (n - x) := by bv_omega
  rw [hdiff, BitVec.toInt_sub]
  refine Int.bmod_eq_of_le ?_ ?_ <;> omega

/-- The rank order by class, age and drop number (R41). -/
theorem ranks_iff {n : Cycle} {a b : Nat × DropRecord} (ha : DueIn n a) (hb : DueIn n b) :
    Ranks a b ↔ echoClass a.2.state < echoClass b.2.state ∨
      echoClass a.2.state = echoClass b.2.state ∧
        (dueAge n b < dueAge n a ∨ dueAge n a = dueAge n b ∧ a.1 < b.1) := by
  obtain ⟨-, x, hx, hxage⟩ := ha
  obtain ⟨-, y, hy, hyage⟩ := hb
  have hdiff := toInt_sub_of_ages hxage hyage
  have hsame : x = y ↔ (n - x).toInt = (n - y).toInt := by
    rw [BitVec.toInt_inj]
    constructor
    · exact fun h => h ▸ rfl
    · intro h
      bv_omega
  simp only [Ranks, dueAge, hx, hy, Option.some.injEq, exists_and_left, exists_eq_left', Option.elim_some, hsame, hdiff]
  omega

/-- The model's test of rank, before drop numbers decide. -/
theorem ranksBefore_iff {n : Cycle} {a b : Nat × DropRecord} (ha : DueIn n a) (hb : DueIn n b) :
    ranksBefore a.2 b.2 = true ↔ echoClass a.2.state < echoClass b.2.state ∨
      echoClass a.2.state = echoClass b.2.state ∧ dueAge n b < dueAge n a := by
  have hclass {r : DropRecord} (h : r.state = .enrolling ∨ r.state = .levelling ∨ r.state = .soak) :
      classRank r.state = echoClass r.state := by
    rcases h with h | h | h <;> rw [h] <;> rfl
  obtain ⟨hactive, x, hx, hxage⟩ := ha
  obtain ⟨hactive', y, hy, hyage⟩ := hb
  simp only [ranksBefore, hclass hactive, hclass hactive', hx, hy, cyclesSince, toInt_sub_of_ages hxage hyage, dueAge,
    Option.elim_some, Bool.or_eq_true, Bool.and_eq_true, decide_eq_true_eq]
  omega

/-- A candidate of a lower drop number than any of a ranked list takes its place in it. -/
theorem ranked_insert {n : Cycle} {a : Nat × DropRecord} {cs : List (Nat × DropRecord)} (ha : DueIn n a)
    (hcs : ∀ b ∈ cs, DueIn n b) (hdrop : ∀ b ∈ cs, a.1 < b.1) (hranked : cs.Pairwise Ranks) :
    (insertRanked a cs).Pairwise Ranks := by
  induction cs with
  | nil => exact List.pairwise_singleton _ _
  | cons b rest ih =>
    obtain ⟨hb, hrest⟩ := List.forall_mem_cons.mp hcs
    obtain ⟨hab, hdrops⟩ := List.forall_mem_cons.mp hdrop
    obtain ⟨hfirst, hlater⟩ := List.pairwise_cons.mp hranked
    have htest := ranksBefore_iff hb ha
    unfold insertRanked
    split
    · next hbefore =>
      have hba : Ranks b a := (ranks_iff hb ha).mpr (by have := htest.mp hbefore; omega)
      refine List.pairwise_cons.mpr ⟨fun c hc => ?_, ih hrest hdrops hlater⟩
      rcases mem_insertRanked hc with rfl | hc
      · exact hba
      · exact hfirst c hc
    · next hafter =>
      have hranks : Ranks a b := (ranks_iff ha hb).mpr (by have := mt htest.mpr hafter; omega)
      refine List.pairwise_cons.mpr ⟨fun c hc => ?_, hranked⟩
      rcases List.mem_cons.mp hc with rfl | hc
      · exact hranks
      · -- the order is transitive
        have hbc := (ranks_iff hb (hrest c hc)).mp (hfirst c hc)
        have hab := (ranks_iff ha hb).mp hranks
        exact (ranks_iff ha (hrest c hc)).mpr (by omega)

theorem ranked_rankEchoes {n : Cycle} {cs : List (Nat × DropRecord)} (hcs : ∀ b ∈ cs, DueIn n b)
    (hdrops : cs.Pairwise fun a b => a.1 < b.1) : (rankEchoes cs).Pairwise Ranks := by
  induction cs with
  | nil => exact .nil
  | cons a rest ih =>
    obtain ⟨ha, hrest⟩ := List.forall_mem_cons.mp hcs
    obtain ⟨hfirst, hlater⟩ := List.pairwise_cons.mp hdrops
    exact ranked_insert ha (fun b hb => hrest b (mem_rankEchoes hb)) (fun b hb => hfirst b (mem_rankEchoes hb))
      (ih hrest hlater)

/-- A cycle field held within 2^30 cycles of the count is so. -/
theorem age_le_of_heldWithin {n c : Cycle} {f : Option Cycle} (h : heldWithin n f = some c) :
    (n - c).toInt ≤ 2 ^ 30 := by
  obtain ⟨x, -, rfl⟩ := Option.map_eq_some_iff.mp h
  split
  · rw [sub_sub_cancel]
    decide
  · omega

/-- The echo of a record that stands at the build is not yet due, or due within 2^30 cycles of the count (R2). -/
theorem departedRecord_due {x : Leg} {n c : Cycle} {r : DropRecord} (h : (departedRecord x n r).echoDue = some c) :
    (n - c).toInt ≤ 2 ^ 30 := by
  have hdue : (departedRecord x n r).echoDue =
      if leavesFor x r.ident isEnrol then some (n + 1#32) else heldWithin n r.echoDue := rfl
  rw [hdue] at h
  split at h
  · cases h
    have hnext : n - (n + 1#32) = -1#32 := by bv_omega
    rw [hnext]
    decide
  · exact age_le_of_heldWithin h

end Sys2Proof.Machine
end

section
/-! SUPPORT. The calendar that is built is the one of the rules (R34 to R45): its candidates, its windows and its
grants. -/

namespace Sys2Proof.Machine

/-! ## The leg as it stands at the build -/

theorem departedHeld_eq_atBuild {x : Leg} (hx : InPlace x) (n : Cycle) :
    ({ x with count := n } : Leg).departedHeld n = atBuild x n := by
  have hdrops : (({ x with count := n } : Leg).departedHeld n).drops =
      x.drops.map (Option.map (departedRecord { x with count := n } n)) :=
    (({ x with count := n } : Leg).depart_leg n).2 hx
  rw [Leg.departedHeld_eq, hdrops]
  rfl

theorem atBuild_record (x : Leg) (n : Cycle) (d : Nat) :
    (atBuild x n).record d = (x.record d).map (departedRecord x n) := by
  simp only [Leg.record, atBuild, List.getElem?_map]
  rcases x.drops[d]? with _ | _ | r <;> rfl

/-- Records stand in their places at the build too. -/
theorem atBuild_inPlace {x : Leg} (hx : InPlace x) (n : Cycle) : InPlace (atBuild x n) := by
  intro d r hr
  rw [atBuild_record] at hr
  obtain ⟨r', hr', rfl⟩ := Option.map_eq_some_iff.mp hr
  exact hx d r' hr'

/-- What follows an entry is an Offset, a Launch or a Silence (R51). -/
theorem followedBy_kind {x : Leg} {q e : QueueEntry} (h : followedBy x q = some e) :
    e.dir.isEnrol = false ∧ e.dir.isResume = false := by
  unfold followedBy at h
  obtain ⟨r, -, h⟩ := Option.bind_eq_some_iff.mp h
  dsimp only at h
  split at h
  · cases h; exact ⟨rfl, rfl⟩
  · cases h; exact ⟨rfl, rfl⟩
  · cases h; exact ⟨rfl, rfl⟩
  · cases h

/-- An entry of a kind that follows nothing stands in the queue at the build when it did not leave. -/
theorem any_atBuild_queue {x : Leg} {n : Cycle} {p : QueueEntry → Bool}
    (hp : ∀ q e, followedBy x q = some e → p e = false) :
    (atBuild x n).queue.any p = true ↔ ∃ q ∈ x.queue.drop 8, p q = true := by
  show (x.queue.drop 8 ++ (leaving x).filterMap (followedBy x)).any p = true ↔ _
  have hnone : ((leaving x).filterMap (followedBy x)).any p = false := by
    refine List.any_eq_false.mpr fun e he => ?_
    obtain ⟨q, -, hq⟩ := List.mem_filterMap.mp he
    rw [hp q e hq]
    exact Bool.false_ne_true
  rw [List.any_append, hnone, Bool.or_false, List.any_eq_true]

theorem isEnrol_iff {dir : Directive} {d : Nat} :
    (dir.isEnrol && decide (dir.drop? = some d)) = true ↔ ∃ tag e launch, dir = .enrol tag d e launch := by
  cases dir <;> simp [Directive.isEnrol, Directive.drop?]

theorem isResume_iff {dir : Directive} {d : Nat} :
    (dir.isResume && decide (dir.drop? = some d)) = true ↔ dir = .resume d := by
  cases dir <;> simp [Directive.isResume, Directive.drop?]

/-- An Enrol for the drop stands in the queue at the build (R40). -/
theorem enrolQueued_atBuild {x : Leg} {n : Cycle} {d : Nat} :
    (atBuild x n).enrolQueued d = true ↔ ∃ q ∈ x.queue.drop 8, ∃ tag e launch, q.dir = .enrol tag d e launch := by
  unfold Leg.enrolQueued
  rw [any_atBuild_queue fun q e h => by rw [(followedBy_kind h).1, Bool.false_and]]
  simp only [isEnrol_iff]

/-- A directive sent as a Resume is one. -/
theorem sentAs_resume {x : Leg} {q : QueueEntry} {d : Nat} : sentAs x q = .resume d ↔ q.dir = .resume d := by
  unfold sentAs
  cases queuedFor x q <;> cases q.dir <;> simp

theorem mem_resumedDrops {ds : List Directive} {d : Nat} : d ∈ resumedDrops ds ↔ .resume d ∈ ds := by
  simp only [resumedDrops, List.mem_filterMap]
  constructor
  · rintro ⟨dir, hdir, hd⟩
    cases dir <;> simp at hd
    exact hd ▸ hdir
  · exact fun h => ⟨_, h, rfl⟩

/-- The Resume of a drop leaves or stands in the queue still, exactly when the build finds it there or among what has
left. -/
theorem resumeOnItsWay_iff {x : Leg} {n : Cycle} {d : Nat} :
    ResumeOnItsWay x d ↔
      (atBuild x n).resumeQueued d = true ∨ (resumedDrops ((leaving x).map (sentAs x))).contains d = true := by
  have hqueued : (atBuild x n).resumeQueued d = true ↔ ∃ q ∈ x.queue.drop 8, q.dir = .resume d := by
    unfold Leg.resumeQueued
    rw [any_atBuild_queue fun q e h => by rw [(followedBy_kind h).2, Bool.false_and]]
    simp only [isResume_iff]
  have hleft : (resumedDrops ((leaving x).map (sentAs x))).contains d = true ↔
      ∃ q ∈ x.queue.take 8, q.dir = .resume d := by
    rw [List.contains_iff_mem, mem_resumedDrops, List.mem_map]
    simp only [sentAs_resume, leaving]
  rw [hqueued, hleft, or_comm, ← exists_or, ResumeOnItsWay]
  simp only [← or_and_right, ← List.mem_append, List.take_append_drop]

/-! ## The candidates (R40, R43) -/

/-- The drops whose Resume leaves at the start of the cycle. -/
def resumedOf (x : Leg) : List Nat := resumedDrops ((leaving x).map (sentAs x))

section Candidates

variable {x : Leg} {n : Cycle} {held : Bool} {d : Nat} {r : DropRecord}

/-- The model's test of an echo candidate, condition by condition (R40). -/
theorem Leg.echoCandidate_iff {y : Leg} {resumed : List Nat} :
    y.echoCandidate n resumed d r = true ↔
      (r.state = .enrolling ∨ r.state = .levelling ∨ r.state = .soak) ∧ r.isolated = false ∧
        (∃ c, r.echoDue = some c ∧ 0 ≤ (n - c).toInt) ∧ ¬ y.enrolQueued d = true ∧
        ¬ (y.resumeQueued d = true ∨ resumed.contains d = true) := by
  have hclass : classRank r.state ≤ 2 ↔ r.state = .enrolling ∨ r.state = .levelling ∨ r.state = .soak := by
    cases r.state <;> simp [classRank]
  rw [← hclass]
  unfold Leg.echoCandidate
  cases r.echoDue with
  | none => simp
  | some c => simp [cyclesSince, and_assoc]

theorem mem_echoes_iff :
    (d, r) ∈ (atBuild x n).echoCandidates n held (resumedOf x) ↔
      (atBuild x n).record d = some r ∧ EchoCandidate x n held d r := by
  have henrol : ¬ (atBuild x n).enrolQueued d = true ↔
      ∀ q ∈ x.queue.drop 8, ∀ tag e launch, q.dir ≠ .enrol tag d e launch := by
    rw [enrolQueued_atBuild]
    push Not
    rfl
  rw [Leg.mem_echoCandidates, Leg.echoCandidate_iff, henrol, resumedOf, ← resumeOnItsWay_iff, EchoCandidate]
  exact and_congr_right fun _ => and_left_comm

theorem mem_services_iff :
    (d, r) ∈ (atBuild x n).serviceCandidates held (resumedOf x) ↔
      (atBuild x n).record d = some r ∧ ServiceCandidate x held d r := by
  rw [Leg.mem_serviceCandidates, ServiceCandidate, resumeOnItsWay_iff (n := n)]
  refine and_congr_right fun _ => and_congr_right fun _ => ?_
  simp [Leg.serviceCandidate, resumedOf, and_assoc]

/-- The echo candidates stand in rank order (R41). -/
theorem echoes_ranked (x : Leg) (n : Cycle) (held : Bool) :
    ((atBuild x n).echoCandidates n held (resumedOf x)).Pairwise Ranks := by
  have hdue : ∀ p ∈ (atBuild x n).echoCandidates n held (resumedOf x), DueIn n p := by
    rintro ⟨d, r⟩ hp
    obtain ⟨hrec, -, -, hactive, -, ⟨c, hc, hage⟩, -⟩ := mem_echoes_iff.mp hp
    rw [atBuild_record] at hrec
    obtain ⟨r', -, rfl⟩ := Option.map_eq_some_iff.mp hrec
    exact ⟨hactive, c, hc, hage, departedRecord_due hc⟩
  unfold Leg.echoCandidates at hdue ⊢
  split
  · exact .nil
  · next hopen =>
    rw [if_neg hopen] at hdue
    refine ranked_rankEchoes (fun p hp => hdue p ((rankEchoes_perm _).mem_iff.mpr hp)) ?_
    exact (Leg.live_ascending _).sublist List.filter_sublist

end Candidates

/-! ## The calendar -/

theorem musters_atBuild (x : Leg) (n : Cycle) (held : Bool) :
    (atBuild x n).musters n held = musterOpens (atBuild x n) n held := by
  have hrun : (atBuild x n).run.isNone = decide ((atBuild x n).run = none) := by
    cases (atBuild x n).run <;> rfl
  have hflag (b : Bool) : (!b) = decide (b = false) := by cases b <;> rfl
  have hon (b : Bool) : b = decide (b = true) := by cases b <;> rfl
  unfold Leg.musters musterOpens
  rw [hrun, hflag held, hflag (atBuild x n).receiver.latch]
  simp [Bool.and_assoc, Bool.decide_and]

theorem spills_iff {d : Derived} : d.spills = true ↔ 31186 < d.w := decide_eq_true_iff

theorem buildCalendar_windows {x : Leg} {n : Cycle} {marker : Nat} {held : Bool} {resumed : List Nat} {c : Calendar}
    (hc : (atBuild x n).buildCalendar n marker held resumed = c) :
    c.spill = (match x.calendar with
      | some p => if p.window.isSome ∧ 31186 < x.derived.w then some (x.derived.w - 31250) else none
      | none => none) ∧
    c.window = (if musterOpens (atBuild x n) n held = true then
      some (if 31186 < x.derived.w then 31250 else x.derived.w) else none) ∧
    (c.darkTail = false ↔ musterOpens (atBuild x n) n held = true ∧ 31186 < x.derived.w) := by
  subst hc
  refine ⟨?_, ?_, ?_⟩
  · show (atBuild x n).spillNow = _
    unfold Leg.spillNow
    show (match x.calendar with
      | some c => if c.window.isSome && x.derived.spills then some (x.derived.w - Config.cycleTicks) else none
      | none => none) = _
    cases x.calendar with
    | none => rfl
    | some p => exact if_congr (by rw [Bool.and_eq_true, spills_iff]) rfl rfl
  · show (if (atBuild x n).musters n held then some (atBuild x n).derived.windowHere else none) = _
    have hhere : (atBuild x n).derived.windowHere = if 31186 < x.derived.w then 31250 else x.derived.w :=
      if_congr spills_iff rfl rfl
    rw [musters_atBuild, hhere]
  · show (!((atBuild x n).musters n held && (atBuild x n).derived.spills)) = false ↔ _
    rw [musters_atBuild, Bool.not_eq_false', Bool.and_eq_true, spills_iff]
    rfl

end Sys2Proof.Machine
end

section
/-! SUPPORT. The calendar that is built, by the rules' own description of it (R34 to R45). -/

namespace Sys2Proof.Machine

/-- The share placed for a share `r` when `available` ticks are left for shares of `total` together (R44). -/
def sharePlaced (available : Int) (total r : Nat) : Nat :=
  if (total : Int) ≤ available then r else max 8 (r * available.toNat / (total * 8) * 8)

/-- A scaled share is a multiple of 8, and 8 at least (R44). -/
theorem scaledShare_eq (r available total : Nat) :
    scaledShare r available total = max 8 (r * available / (total * 8) * 8) := by
  unfold scaledShare
  dsimp only
  split <;> omega

section Built

variable {y : Leg} {n : Cycle} {marker : Nat} {held : Bool} {resumed : List Nat} {c : Calendar}

/-- The service grants are placed with the shares of the rules. -/
theorem Leg.services_eq (hc : y.buildCalendar n marker held resumed = c) :
    c.services = placeServices (sharePlaced (y.availableIn n held resumed c) (y.totalShare held resumed)) c.placementEnd
      (c.firstFree + 112 * y.slotsIn n held resumed c) (y.serviceCandidates held resumed) := by
  obtain ⟨-, hservices, hscaled⟩ := Leg.buildCalendar_grants hc
  rw [hservices]
  cases hserved : y.serviceCandidates held resumed with
  | nil => rfl
  | cons p rest =>
    have hplace : y.placedShare n held resumed c =
        sharePlaced (y.availableIn n held resumed c) (y.totalShare held resumed) := by
      funext r
      rw [hserved, List.isEmpty_cons, Bool.not_false, Bool.and_true] at hscaled
      rw [Leg.placedShare, sharePlaced, scaledShare_eq, hscaled]
      by_cases hfits : (y.totalShare held resumed : Int) ≤ y.availableIn n held resumed c
      · rw [if_pos hfits, if_neg (by simpa using hfits)]
      · rw [if_neg hfits, if_pos (by simpa using hfits)]
    rw [hplace]

theorem Leg.scaled_eq (hc : y.buildCalendar n marker held resumed = c) :
    c.scaled = decide (y.serviceCandidates held resumed ≠ [] ∧
      y.availableIn n held resumed c < (y.totalShare held resumed : Nat)) := by
  rw [(Leg.buildCalendar_grants hc).2.2]
  cases y.serviceCandidates held resumed <;> simp

theorem Leg.availableIn_eq (y : Leg) (n : Cycle) (held : Bool) (resumed : List Nat) (c : Calendar) :
    y.availableIn n held resumed c = (c.placementEnd : Int) - c.firstFree - 112 * y.slotsIn n held resumed c
      - 56 * (y.serviceCandidates held resumed).length := by
  unfold Leg.availableIn
  push_cast
  omega

end Built

/-- The calendar built for cycle `n` of a leg is the one of the rules. -/
theorem builtFor_atBuild (x : Leg) (n : Cycle) (marker : Nat) (held : Bool) :
    BuiltFor x n marker held ((atBuild x n).buildCalendar n marker held (resumedOf x)) := by
  generalize hc : (atBuild x n).buildCalendar n marker held (resumedOf x) = c
  obtain ⟨hspill, hwindow, htail⟩ := buildCalendar_windows hc
  obtain ⟨hechoes, -, -⟩ := Leg.buildCalendar_grants hc
  obtain ⟨placed, hplaced, hservices, hfit, hfull⟩ := placeServices_eq
    (sharePlaced ((atBuild x n).availableIn n held (resumedOf x) c) ((atBuild x n).totalShare held (resumedOf x)))
    c.placementEnd (c.firstFree + 112 * (atBuild x n).slotsIn n held (resumedOf x) c)
    ((atBuild x n).serviceCandidates held (resumedOf x))
  rw [← Leg.services_eq hc] at hservices
  rw [placeEchoes_eq] at hechoes
  have hscaled := Leg.scaled_eq hc
  have havailable := (atBuild x n).availableIn_eq n held (resumedOf x) c
  have hcycle : c.cycle = n ∧ c.marker = marker ∧ c.hold = held ∧ c.closed = false := by
    rw [← hc]
    exact ⟨rfl, rfl, rfl, rfl⟩
  obtain ⟨hcycle, hmarker, hhold, hclosed⟩ := hcycle
  refine ⟨hcycle, hmarker, hhold, hclosed, hspill, hwindow, htail,
    (atBuild x n).echoCandidates n held (resumedOf x), (atBuild x n).serviceCandidates held (resumedOf x),
    (atBuild x n).slotsIn n held (resumedOf x) c, (atBuild x n).availableIn n held (resumedOf x) c,
    (atBuild x n).totalShare held (resumedOf x), _, echoes_ranked x n held, fun d r => mem_echoes_iff, rfl, hechoes,
    (atBuild x n).serviceCandidates_ascending held (resumedOf x), fun d r => mem_services_iff, havailable, rfl, hscaled,
    fun r => rfl, placed, _, fun k => rfl, hservices, hplaced, hfit, hfull⟩

end Sys2Proof.Machine
end

section
/-! SUPPORT. What the build of a calendar hands on (R37, R42, R46, R47, R56, R101, R130): the acts of its grants are those
that the rules describe. -/

namespace Sys2Proof.Machine

/-! ## Acts and their drops -/

/-- The acts of grants with live records are on the drops of the grants, in their order. -/
theorem filterMap_drops_sublist {α : Type} {drop : α → Nat} {act : α → DropRecord → GrantAct} (y : Leg)
    (hdrop : ∀ g r, (act g r).drop = drop g) (gs : List α) :
    ((gs.filterMap fun g => (y.record (drop g)).map (act g)).map GrantAct.drop).Sublist (gs.map drop) := by
  induction gs with
  | nil => exact .refl _
  | cons g gs ih =>
    cases hr : y.record (drop g) with
    | none =>
      rw [List.filterMap_cons_none (by rw [hr]; rfl)]
      exact ih.cons (drop g)
    | some r =>
      rw [List.filterMap_cons_some (by rw [hr]; rfl), List.map_cons, List.map_cons, hdrop]
      exact ih.cons_cons (drop g)

theorem actsOf_drops_sublist (y : Leg) (c : Calendar) (interval : Nat) :
    ((actsOf y c interval).map GrantAct.drop).Sublist
      (c.echoes.map EchoGrant.drop ++ c.services.map ServiceGrant.drop) := by
  rw [actsOf, List.map_append]
  exact (filterMap_drops_sublist y (act := echoAct y c interval) (fun _ _ => rfl) _).append
    (filterMap_drops_sublist y (act := serviceAct y c) (fun _ _ => rfl) _)

/-- A request of an act is for the record of its drop. -/
def Addressed (as : List GrantAct) : Prop := ∀ a ∈ as, ∀ q, a.request = some q → q.ident.drop = a.drop

theorem requested_drops_sublist {as : List GrantAct} (h : Addressed as) :
    ((requested as).map fun q => q.ident.drop).Sublist (as.map GrantAct.drop) := by
  induction as with
  | nil => exact .refl _
  | cons a as ih =>
    obtain ⟨ha, hrest⟩ := List.forall_mem_cons.mp h
    unfold requested
    cases hq : a.request with
    | none =>
      rw [List.filterMap_cons_none hq]
      exact (ih hrest).cons a.drop
    | some q =>
      rw [List.filterMap_cons_some hq, List.map_cons, List.map_cons, ha q hq]
      exact (ih hrest).cons_cons a.drop

/-- With one act for a drop, the requests for its identity are its own. -/
theorem requested_for {as : List GrantAct} (h : Addressed as) (hdrops : (as.map GrantAct.drop).Nodup) {a : GrantAct}
    (ha : a ∈ as) {i : Identity} (hi : i.drop = a.drop) (hown : ∀ q, a.request = some q → q.ident = i) :
    ((requested as).filter fun q => decide (q.ident = i)) = a.request.toList := by
  induction as with
  | nil => simp at ha
  | cons b as ih =>
    obtain ⟨hb, hrest⟩ := List.forall_mem_cons.mp h
    obtain ⟨hfirst, hlater⟩ := List.nodup_cons.mp hdrops
    have hcons : requested (b :: as) = b.request.toList ++ requested as := by
      unfold requested
      cases hq : b.request <;> simp [hq]
    rw [hcons, List.filter_append]
    rcases List.mem_cons.mp ha with rfl | ha
    · -- no later act is for this drop
      have hnone : ((requested as).filter fun q => decide (q.ident = i)) = [] := by
        refine List.filter_eq_nil_iff.mpr fun q hq hqi => hfirst ?_
        obtain ⟨b, hbmem, hbq⟩ := List.mem_filterMap.mp hq
        rw [← hi, ← of_decide_eq_true hqi, hrest b hbmem q hbq]
        exact List.mem_map_of_mem hbmem
      rw [hnone, List.append_nil, List.filter_eq_self]
      intro q hq
      exact decide_eq_true (hown q (Option.mem_toList.mp hq))
    · have hother : (b.request.toList.filter fun q => decide (q.ident = i)) = [] := by
        refine List.filter_eq_nil_iff.mpr fun q hq hqi => hfirst ?_
        rw [← hb q (Option.mem_toList.mp hq), of_decide_eq_true hqi, hi]
        exact List.mem_map_of_mem ha
      rw [hother, List.nil_append]
      exact ih hrest hlater ha

/-! ## The acts of a calendar -/

section Acts

variable {y : Leg} {c : Calendar} {interval : Nat}

theorem requested_actsOf : requested (actsOf y c interval) = requestsOf y c := by
  unfold requested actsOf requestsOf
  rw [List.filterMap_append, List.filterMap_filterMap, List.filterMap_filterMap]
  refine congrArg₂ _ (List.filterMap_congr fun g _ => ?_) (List.filterMap_congr fun g _ => ?_)
  · cases y.record g.drop <;> rfl
  · cases y.record g.drop <;> rfl

theorem expected_actsOf : (actsOf y c interval).map GrantAct.expected =
    c.grantList.filterMap fun g => (y.record g.drop).map fun r => expectedFor y c r g := by
  unfold actsOf
  rw [Calendar.grantList_eq, List.map_append, List.filterMap_append, List.map_filterMap, List.map_filterMap,
    List.filterMap_map, List.filterMap_map]
  refine congrArg₂ _ (List.filterMap_congr fun g _ => ?_) (List.filterMap_congr fun g _ => ?_)
  · show _ = (y.record g.drop).map _
    cases y.record g.drop <;> rfl
  · show _ = (y.record g.drop).map _
    cases y.record g.drop <;> rfl

theorem addressed_actsOf (hy : InPlace y) : Addressed (actsOf y c interval) := by
  intro a ha q hq
  rcases mem_actsOf.mp ha with ⟨g, -, r, hr, rfl⟩ | ⟨g, -, r, hr, rfl⟩
  · have hident : q.ident = r.ident := by
      simp only [echoAct] at hq
      split at hq <;> cases hq
      rfl
    rw [hident]
    exact hy g.drop r hr
  · have hident : q.ident = r.ident := by
      simp only [serviceAct] at hq
      split at hq <;> cases hq
      rfl
    rw [hident]
    exact hy g.drop r hr

end Acts

/-! ## What is handed on -/

/-- The leg and its sample queue after the acts of a calendar's grants are those that the rules describe. -/
theorem handsOn_of_acted {u w : State} {l : LegId} {y : Leg} {c : Calendar} {sent : List Directive} {interval : Nat}
    (hy : InPlace y) (hu : u.leg l = y.takeCalendar c sent) (hacted : Acted l (actsOf y c interval) u w)
    (hechoes : (c.echoes.map EchoGrant.drop).Nodup) (hservices : (c.services.map ServiceGrant.drop).Nodup)
    (hapart : ∀ g ∈ c.echoes, ∀ h ∈ c.services, g.drop ≠ h.drop)
    (hlive : ∀ g ∈ c.grantList, ∃ r, y.record g.drop = some r) :
    HandsOn y (w.leg l) c interval (u.meter.queues.get l) (w.meter.queues.get l) := by
  have hgrants : (c.echoes.map EchoGrant.drop ++ c.services.map ServiceGrant.drop).Nodup := by
    refine hechoes.append hservices fun d hd hd' => ?_
    obtain ⟨g, hg, rfl⟩ := List.mem_map.mp hd
    obtain ⟨h, hh, heq⟩ := List.mem_map.mp hd'
    exact hapart g hg h hh heq.symm
  have hdrops := hgrants.sublist (actsOf_drops_sublist y c interval)
  have haddressed := addressed_actsOf (c := c) (interval := interval) hy
  have hrequests : (requested (actsOf y c interval)).Nodup :=
    (hdrops.sublist (requested_drops_sublist haddressed)).of_map _
  have hroom : roomFor (u.meter.queues.get l) (actsOf y c interval) =
      (requestsOf y c).take (16 - (u.meter.queues.get l).length) := by rw [roomFor, requested_actsOf]
  have hrecords := hacted.records hdrops hrequests
  rw [hroom] at hrecords
  generalize htaken : (requestsOf y c).take (16 - (u.meter.queues.get l).length) = taken at hroom hrecords
  -- an act's record measures the requests for its identity
  have hmeasured {a : GrantAct} (ha : a ∈ actsOf y c interval) {r : DropRecord} (hr : y.record a.drop = some r)
      (hown : ∀ q, a.request = some q → q.ident = r.ident) :
      (((requestsOf y c).filter fun q => decide (q.ident = r.ident)).map (measureOf taken)) =
        (a.request.map (measureOf taken)).toList := by
    rw [← requested_actsOf (interval := interval),
      requested_for haddressed hdrops ha (hy a.drop r hr) hown]
    cases a.request <;> rfl
  have hleg := hacted.leg
  rw [hu] at hleg
  refine ⟨?_, ?_, ?_, ?_, fun hmuster => ?_, fun hnone => ?_, ?_, fun d r hr hd => ?_, fun g hg => ?_, fun g hg => ?_⟩
  · rw [hacted.meter, Four.get_set_same, hroom, htaken]
  · rw [hleg]; rfl
  · rw [hleg]; rfl
  · rw [hleg]; rfl
  · rw [hleg]
    exact if_pos hmuster
  · rw [hleg]
    exact if_neg (by rw [hnone]; exact Bool.false_ne_true)
  · rw [hleg, expected_actsOf]
    rfl
  · have hu' : u.record l d = some r := by rw [State.record, hu]; exact hr
    refine (hacted.others d fun a ha => ?_).trans hu'
    rcases mem_actsOf.mp ha with ⟨g, hg, r', -, rfl⟩ | ⟨g, hg, r', -, rfl⟩
    · exact hd g.entry (List.mem_append_left _ (List.mem_map_of_mem hg))
    · exact hd g.entry (List.mem_append_right _ (List.mem_map_of_mem hg))
  · obtain ⟨r, hr⟩ := hlive g.entry (List.mem_append_left _ (List.mem_map_of_mem hg))
    have ha : echoAct y c interval g r ∈ actsOf y c interval := mem_actsOf.mpr (.inl ⟨g, hg, r, hr, rfl⟩)
    have hown : ∀ q, (echoAct y c interval g r).request = some q → q.ident = r.ident := by
      intro q hq
      simp only [echoAct] at hq
      split at hq <;> cases hq
      rfl
    refine ⟨r, hr, (hrecords _ ha).trans ?_⟩
    dsimp only
    rw [htaken, hmeasured ha hr hown]
    rfl
  · obtain ⟨r, hr⟩ := hlive g.entry (List.mem_append_right _ (List.mem_map_of_mem hg))
    have ha : serviceAct y c g r ∈ actsOf y c interval := mem_actsOf.mpr (.inr ⟨g, hg, r, hr, rfl⟩)
    have hown : ∀ q, (serviceAct y c g r).request = some q → q.ident = r.ident := by
      intro q hq
      simp only [serviceAct] at hq
      split at hq <;> cases hq
      rfl
    refine ⟨r, hr, (hrecords _ ha).trans ?_⟩
    simp only [htaken, hmeasured ha hr hown]
    by_cases hrecent : ∃ last, r.lastSample = some last ∧ (c.cycle - last).toInt < 4000
    · simp only [serviceAct, if_pos hrecent]
      rfl
    · simp only [serviceAct, if_neg hrecent]
      rfl

end Sys2Proof.Machine
end

section
/-! SUPPORT. The calendar with which a leg begins its cycle (R34 to R46): it fits, its grants are for live records that
may have them, and a window stands in it under the conditions of R36 only. -/

namespace Sys2Proof.Machine

section Build

variable {y : Leg} {n : Cycle} {marker : Nat} {held : Bool} {resumed : List Nat} {c : Calendar}

theorem Leg.buildCalendar_grantDrops (hc : y.buildCalendar n marker held resumed = c) :
    (c.grantList.map GrantEntry.drop).Nodup := by
  obtain ⟨hechoes, hservices, hapart⟩ := Leg.buildCalendar_nodup hc
  rw [Calendar.grantList_eq, List.map_append, List.map_map, List.map_map]
  refine hechoes.append hservices fun d hd hd' => ?_
  obtain ⟨g, hg, rfl⟩ := List.mem_map.mp hd
  obtain ⟨h, hh, heq⟩ := List.mem_map.mp hd'
  exact hapart g hg h hh heq.symm

theorem Leg.buildCalendar_echoes_le (hc : y.buildCalendar n marker held resumed = c) :
    c.echoes.length ≤ y.setup.maxEchoes := by
  rw [(Leg.buildCalendar_grants hc).1, placeEchoes_eq, List.length_mapIdx, Leg.slotsIn_le_length]
  exact Nat.min_le_left _ _

/-- The record of an echo grant is under activation and not isolated (R40). -/
theorem Leg.echoed_record (hc : y.buildCalendar n marker held resumed = c) {g : EchoGrant} (hg : g ∈ c.echoes) :
    ∃ r, y.record g.drop = some r ∧ r.isolated = false ∧
      (r.state = .enrolling ∨ r.state = .levelling ∨ r.state = .soak) := by
  obtain ⟨r, hr⟩ := Leg.echo_of_mem hc hg
  obtain ⟨hrecord, -, -, hcandidate⟩ := Leg.mem_echoCandidates.mp hr
  obtain ⟨hactive, hisolated, -⟩ := Leg.echoCandidate_iff.mp hcandidate
  exact ⟨r, hrecord, hisolated, hactive⟩

/-- The record of a service grant is in service and not isolated, and has the granted share at least (R43, R44). -/
theorem Leg.served_record (hc : y.buildCalendar n marker held resumed = c) {g : ServiceGrant} (hg : g ∈ c.services) :
    ∃ r, y.record g.drop = some r ∧ r.isolated = false ∧ r.state = .inService ∧
      8 ≤ g.share ∧ g.share ≤ r.share ∧ (8 ∣ r.share → 8 ∣ g.share) := by
  obtain ⟨r, hr, hshare⟩ := Leg.service_of_mem hc hg
  obtain ⟨hrecord, -, hcandidate⟩ := Leg.mem_serviceCandidates.mp hr
  simp only [Leg.serviceCandidate, Bool.and_eq_true, decide_eq_true_eq, Bool.not_eq_true'] at hcandidate
  obtain ⟨⟨⟨⟨hservice, hisolated⟩, hleast⟩, -⟩, -⟩ := hcandidate
  rw [hshare]
  exact ⟨r, hrecord, hisolated, hservice, Leg.placedShare_bounds hc hr hleast⟩

/-- Every grant is for a live record. -/
theorem Leg.granted_record (hc : y.buildCalendar n marker held resumed = c) {g : GrantEntry} (hg : g ∈ c.grantList) :
    ∃ r, y.record g.drop = some r := by
  rw [Calendar.grantList_eq, List.mem_append, List.mem_map, List.mem_map] at hg
  rcases hg with ⟨e, he, rfl⟩ | ⟨e, he, rfl⟩
  · obtain ⟨r, hr, -⟩ := Leg.echoed_record hc he
    exact ⟨r, hr⟩
  · obtain ⟨r, hr, -⟩ := Leg.served_record hc he
    exact ⟨r, hr⟩

/-- A window stands in a calendar under the conditions of R36. -/
theorem Leg.buildCalendar_window (hc : y.buildCalendar n marker held resumed = c) (hwindow : c.window.isSome = true) :
    y.state = .running ∧ y.setup.musterOn = true ∧ y.receiver.latch = false ∧ y.run = none ∧ c.hold = false ∧
      c.cycle.toNat % y.setup.interval = 0 := by
  subst hc
  have hmuster : y.musters n held = true := by
    by_contra hnot
    have hnone : (y.buildCalendar n marker held resumed).window = none := if_neg hnot
    rw [hnone] at hwindow
    exact absurd hwindow Bool.false_ne_true
  simp only [Leg.musters, Bool.and_eq_true, decide_eq_true_eq, Bool.not_eq_true', Option.isNone_iff_eq_none] at hmuster
  obtain ⟨⟨⟨⟨⟨⟨hcycle, -⟩, hstate⟩, hon⟩, hheld⟩, hrun⟩, hlatch⟩ := hmuster
  exact ⟨hstate, hon, hlatch, hrun, hheld, hcycle⟩

end Build

/-! ## The leg that has begun its cycle -/

/-- What the grants of a calendar leave of a record that stood at the build. -/
theorem beginCycle_record {s : State} {l : LegId} {marker d : Nat} {r : DropRecord}
    (hr : ((s.leg l).departedHeld (s.leg l).count).record d = some r) :
    ∃ r', ((s.beginCycle l marker).leg l).record d = some r' ∧ r'.isolated = r.isolated ∧ r'.state = r.state ∧
      r'.share = r.share := by
  obtain ⟨r', hr', hmove, -⟩ := (s.beginCycle_granted l marker).live d r hr
  refine ⟨r', hr', ?_, ?_, ?_⟩ <;> rw [hmove]

/-- What the build hands on, to the leg that begins its cycle with every record in its place. -/
theorem beginCycle_handsOn {s v : State} {l : LegId} {x : Leg} {n : Cycle} (hv : BeginsFrom s v l x n)
    (hx : InPlace x) (marker : Nat) :
    HandsOn (atBuild x n) ((v.beginCycle l marker).leg l) ((v.leg l).nextCalendar (v.leg l).count marker)
      s.params.interval (s.meter.queues.get l) ((v.beginCycle l marker).meter.queues.get l) := by
  obtain ⟨u, hu, hmeter, hacted⟩ := v.beginCycle_acts l marker
  have hbuild : (v.leg l).departedHeld (v.leg l).count = atBuild x n := by
    rw [hv.leg]
    exact departedHeld_eq_atBuild hx n
  have hc := (v.leg l).nextCalendar_eq (v.leg l).count marker
  unfold State.actsAt at hacted
  rw [hbuild] at hu hacted hc
  rw [hv.params] at hacted
  have hqueue : u.meter.queues.get l = s.meter.queues.get l := by rw [hmeter, hv.queue]
  obtain ⟨hechoes, hservices, hapart⟩ := Leg.buildCalendar_nodup hc.symm
  rw [← hqueue]
  exact handsOn_of_acted (atBuild_inPlace hx n) hu hacted hechoes hservices hapart
    fun g hg => Leg.granted_record hc.symm hg

/-- The calendar with which the leg begins its cycle is the one of the rules. -/
theorem nextCalendar_builtFor {x : Leg} (hx : InPlace x) (n : Cycle) (marker : Nat) :
    BuiltFor x n marker (heldAt n x.hold).isSome (({ x with count := n } : Leg).nextCalendar n marker) := by
  rw [Leg.nextCalendar_eq, departedHeld_eq_atBuild hx]
  exact builtFor_atBuild x n marker (heldAt n x.hold).isSome

/-- The setup of the leg on which a calendar is built is the leg's. -/
theorem Builds.setup_eq {s : State} {l : LegId} {command : Instr} {x : Leg} {n : Cycle} (h : Builds s l command x n) :
    x.setup = (s.leg l).setup := by
  obtain ⟨-, ⟨-, -, rfl, -⟩ | ⟨-, -, rfl, -⟩ | ⟨-, -, -, -, -, rfl⟩⟩ := h <;> rfl

end Sys2Proof.Machine

open Sys2Proof Sys2Proof.Machine

/-- Settles O39: the leg's cycle, begun alone, has the calendar of its build, and the grants keep a record's state and
share. -/
theorem theCalendarFitsItsCycle : Obligations.TheCalendarFitsItsCycle := by
  unfold Obligations.TheCalendarFitsItsCycle
  intro l command s x n hreset hbuilds
  obtain ⟨v, t, hexec, hv, hleg, hqueue⟩ := exec_beginsFrom hreset hbuilds
  obtain ⟨hcalendar, -, -⟩ := beginCycle_leg v l (31250 * (s.boundaries + 1))
  have hc := ((v.leg l).nextCalendar_eq (v.leg l).count (31250 * (s.boundaries + 1))).symm
  have hhandsOn := fun hx => beginCycle_handsOn hv hx (31250 * (s.boundaries + 1))
  have hbuiltFor := fun hx => nextCalendar_builtFor (x := x) hx n (31250 * (s.boundaries + 1))
  have hstands := (v.leg l).departedHeld_eq (v.leg l).count
  have hcount : (v.leg l).count = n := by rw [hv.leg]
  have hrecord {d : Nat} {r : DropRecord} (hr : ((v.leg l).departedHeld (v.leg l).count).record d = some r) :
      ∃ r', t.record l d = some r' ∧ r'.isolated = r.isolated ∧ r'.state = r.state ∧ r'.share = r.share := by
    rw [State.record, hleg]
    exact beginCycle_record hr
  rw [← hqueue] at hhandsOn
  rw [hcount, hv.leg] at hcalendar hc hhandsOn hstands hrecord
  generalize ({ x with count := n } : Leg).nextCalendar n (31250 * (s.boundaries + 1)) = c
    at hcalendar hc hhandsOn hbuiltFor
  refine ⟨t, c, hexec, .trans (by rw [hleg]) hcalendar, Leg.buildCalendar_fits hc, Leg.buildCalendar_grantDrops hc, ?_,
    fun g hg => ?_, fun g hg => ?_, fun hwindow => ?_, fun hx => ⟨hbuiltFor hx, ?_⟩⟩
  · rw [← hbuilds.setup_eq]
    refine (Leg.buildCalendar_echoes_le hc).trans_eq ?_
    rw [hstands]
  · obtain ⟨r, hr, hisolated, hactive⟩ := Leg.echoed_record hc hg
    obtain ⟨r', hr', hisolated', hstate, -⟩ := hrecord hr
    exact ⟨r', hr', hisolated'.trans hisolated, by rwa [hstate]⟩
  · obtain ⟨r, hr, hisolated, hservice, hshare⟩ := Leg.served_record hc hg
    obtain ⟨r', hr', hisolated', hstate, hsame⟩ := hrecord hr
    exact ⟨r', hr', hisolated'.trans hisolated, hstate.trans hservice, by rwa [hsame]⟩
  · obtain ⟨hstate, hon, hlatch, hrun, hhold, hcycle⟩ := Leg.buildCalendar_window hc hwindow
    rw [hstands] at hstate hon hlatch hrun hcycle
    exact ⟨hstate, hon, hlatch, Option.map_eq_none_iff.mp hrun, hhold, hcycle⟩
  · rw [hleg]
    exact hhandsOn hx
end

section
/-! SUPPORT. The part right after a power reset (R139, R144, R148, R174, R175): a part whose legs are all as after a
reset holds nothing that its bias could contradict. -/

namespace Sys2Proof.Machine

/-- A leg as after a reset holds nothing of a run, a hold, a calendar, a record or a burst (R148, R152). -/
theorem Leg.empty_afterRequest (x : Leg) : x.afterRequest.Empty := by
  refine ⟨rfl, rfl, rfl, fun d => ?_, rfl, rfl, rfl, rfl, rfl, rfl⟩
  by_cases hd : d < Config.dropsPerLeg <;> simp [Leg.record, Leg.afterRequest, Leg.reset, hd]

theorem Leg.sound_afterRequest (x : Leg) (b : BiasState) : x.afterRequest.Sound b where
  running h := nomatch h
  blind h := nomatch h
  started _ := ⟨rfl, rfl⟩
  marks h := nomatch h.1
  stopped _ := x.empty_afterRequest
  onlyOne := .inl rfl
  run h := absurd rfl h
  hold _ h := nomatch h
  clean := ⟨(by decide : 0 < Config.clearRun), fun _ => rfl⟩

theorem Bias.sound_reset : Bias.reset.Sound := ⟨by decide, by decide, fun _ => rfl, fun _ => rfl⟩

/-- A part whose legs are all as after a reset, with the bias and the Level Meter, but for its tables, at their reset
values and no candidate. -/
theorem State.supervised_of_fresh {s : State} (hlegs : ∀ l, ∃ x : Leg, s.leg l = x.afterRequest)
    (hbias : s.bias = Bias.reset) {tables : Four (List Int)} (hmeter : s.meter = { Meter.reset with tables := tables })
    (hcandidates : s.candidates = []) : s.Supervised where
  bias := hbias ▸ Bias.sound_reset
  legs l := by
    obtain ⟨x, hx⟩ := hlegs l
    exact hx ▸ x.sound_afterRequest _
  converter l h := by
    rw [hmeter] at h
    cases h
  stopped l _ := by
    rw [hmeter, hcandidates]
    exact ⟨Four.get_const _ l, Four.get_const _ l, List.forall_mem_nil _, List.forall_mem_nil _⟩

/-- READY, in transmission, occupies no place of the buffer, and nothing else waits (R170, R175). -/
theorem State.reset_interfaceSound : State.reset.iface.Sound :=
  ⟨by decide, by decide, by decide, rfl, nofun, nofun⟩

theorem State.reset_leg (l : LegId) : State.reset.leg l = Leg.reset := Four.get_const _ l

theorem State.reset_offset (l k : LegId) : State.reset.offset l k = OffsetEntry.invalid :=
  (congrArg (Four.get · k) (Four.get_const _ l)).trans (Four.get_const _ k)

end Sys2Proof.Machine

open Sys2Proof Sys2Proof.Machine

/-- Settles O60: the blocks after a full reset meet the invariants, and READY alone is on the line. -/
theorem resetLeavesTheStatedValues : Obligations.ResetLeavesTheStatedValues := by
  unfold Obligations.ResetLeavesTheStatedValues
  have hsupervised : State.reset.Supervised :=
    State.supervised_of_fresh (fun l => ⟨Leg.reset, State.reset_leg l⟩) rfl rfl rfl
  refine ⟨State.reset_interfaceSound, hsupervised, State.blocks.fullReset_linked.of_same rfl rfl rfl,
    State.blocks.fullReset_equalized.of_same rfl rfl, rfl, rfl, rfl, rfl, rfl, rfl, rfl, rfl, rfl, fun l => ?_⟩
  rw [State.reset_leg]
  exact ⟨rfl, rfl, rfl, rfl, rfl, fun k => by rw [State.reset_offset]; rfl, rfl, rfl, rfl⟩
end

section
/-! SUPPORT. The result of a sample (R66, R101, R124, R134, R135): the power value of its code, and the measurement
entry or the announce that it reaches. -/

namespace Sys2Proof.Machine

/-! ## The power value (R134, R135) -/

theorem tablePoint_eq {table : List Int} {i : Nat} {v : Int} (h : table[i]? = some v) : tablePoint table i = v := by
  simp [tablePoint, List.getD_eq_getElem?_getD, h]

theorem powerOf_eq {code o : Nat} {table : List Int} {v : Int} {high low : Bool}
    (h : PowerIs code o table v high low) : powerOf code o table = (v, high, low) := by
  unfold powerOf
  rcases h with ⟨hover, hv, rfl, rfl⟩ | ⟨hcode, hunder, hv, rfl, rfl⟩ | ⟨hcode, hinside, rfl, rfl, a, b, ha, hb, rfl⟩
  · rw [if_pos hover, tablePoint_eq hv]
  · have hsmall : code - o < 40 := by omega
    rw [if_neg (Nat.not_le.mpr hcode)]
    dsimp only
    rw [if_pos hsmall, tablePoint_eq hv]
  · have hlarge : ¬ code - o < 40 := by omega
    have hrest : code - o - 500 * ((code - o) / 500) = (code - o) % 500 := by omega
    rw [if_neg (Nat.not_le.mpr hcode)]
    dsimp only
    rw [if_neg hlarge, tablePoint_eq ha, tablePoint_eq hb, hrest]

theorem powerResult_eq {code o : Nat} {table : List Int} {v : Int} {high low : Bool}
    (h : PowerIs code o table v high low) (floor ceiling : Int) :
    powerResult code o table floor ceiling =
      (v, { overRange := high, underRange := low, weak := decide (v < floor), strong := decide (ceiling < v) }) := by
  rw [powerResult, powerOf_eq h]

/-! ## What the result serves (R66, R101, R124) -/

/-- An outcome whose verdict has not come waits in its slot (R101). -/
theorem deliverOutcome_waits {s : State} {l : LegId} {ident : Identity} {r : DropRecord} {grant : Cycle} {m : Measure}
    (hr : s.record l ident.drop = some r) (hi : r.ident = ident) (hm : r.measure grant = some m)
    (hverdict : m.verdict = none) (o : PowerOutcome) :
    s.deliverOutcome l ident grant o =
      s.setRecord l ident.drop (some (r.mapMeasure grant fun m => { m with outcome := some o })) := by
  simp only [State.deliverOutcome, hr, if_pos hi, hm, hverdict]

section Result

variable {s : State} {l : LegId} {range : RangeId} {start o : Nat} {code : BitVec 12} {v : Int} {levels : LevelAttrs}

theorem exec_sampleResult_drop {q : SampleRequest} (hreset : s.inReset = none)
    (hconverter : s.meter.converter = .sampling l (.drop q) range start o)
    (hpower : powerResult code.toNat o (s.meter.tables.get range) s.params.floor s.params.ceiling = (v, levels)) :
    exec (.sampleResult code) s = .next
      ((s.setMeter { s.meter with converter := .idle }).deliverOutcome l q.ident q.cycle
        (.result v levels)).arbitrate := by
  change execSampleResult code s = _
  rw [execSampleResult, event_alive _ hreset, hconverter]
  dsimp only
  rw [hpower]

theorem exec_sampleResult_announce {a : Nat} (hreset : s.inReset = none)
    (hconverter : s.meter.converter = .sampling l (.announce a) range start o)
    (hpower : powerResult code.toNat o (s.meter.tables.get range) s.params.floor s.params.ceiling = (v, levels)) :
    exec (.sampleResult code) s = .next
      ((s.setMeter { s.meter with converter := .idle }).mapLeg l fun x => x.mapScan fun w =>
        w.result a (.returned v levels)).arbitrate := by
  change execSampleResult code s = _
  rw [execSampleResult, event_alive _ hreset, hconverter]
  dsimp only
  rw [hpower]

end Result

end Sys2Proof.Machine

open Sys2Proof Sys2Proof.Machine

/-- Settles O51: the code's power value is the model's, and it goes to the measurement entry or the announce that the
sample in hand names. -/
theorem aResultReachesWhatItServes : Obligations.AResultReachesWhatItServes := by
  unfold Obligations.AResultReachesWhatItServes
  intro l range start o code v high low s hreset hpower levels
  have hresult := powerResult_eq hpower s.params.floor s.params.ceiling
  refine ⟨fun q r m hconverter hr hi hm hverdict => ?_, fun a w hconverter hscan => ?_⟩
  · rw [exec_sampleResult_drop hreset hconverter hresult,
      deliverOutcome_waits (s := s.setMeter { s.meter with converter := .idle }) hr hi hm hverdict]
    rfl
  · rw [exec_sampleResult_announce hreset hconverter hresult,
      mapLeg_mapScan_arbitrate (s := s.setMeter { s.meter with converter := .idle }) hscan]
    rfl
end

section
/-! SUPPORT. The turns of an isolation run (R116, R161 to R163), on the drop table, directive queue, run and interface
that they act on. -/

namespace Sys2Proof.Machine

/-! ## One leg's drop table, directive queue and run, and the interface -/

/-- The state with the drop table, the directive queue and the isolation run of leg `l` and the interface as given. -/
def State.turned (s : State) (l : LegId) (drops : List (Option DropRecord)) (queue : List QueueEntry)
    (run : Option IsolationRun) (i : Interface) : State :=
  { s with legs := s.legs.set l { s.leg l with drops := drops, queue := queue, run := run }, iface := i }

section Turned

variable (s : State) (l : LegId) (drops : List (Option DropRecord)) (queue : List QueueEntry)
  (run : Option IsolationRun) (i : Interface)

/-- Every state has its own drop table, queue, run and interface. -/
theorem State.turned_self : s.turned l (s.leg l).drops (s.leg l).queue (s.leg l).run s.iface = s := by
  have hlegs : s.legs.set l (s.leg l) = s.legs := Four.set_get s.legs l
  rw [State.turned, hlegs]

@[simp] theorem State.turned_leg :
    (s.turned l drops queue run i).leg l = { s.leg l with drops := drops, queue := queue, run := run } :=
  Four.get_set_same _ _ _

@[simp] theorem State.turned_record (d : Nat) : (s.turned l drops queue run i).record l d = drops[d]?.join := by
  rw [State.record, State.turned_leg]
  rfl

theorem State.turned_mapLeg (f : Leg → Leg) (drops' : List (Option DropRecord)) (queue' : List QueueEntry)
    (run' : Option IsolationRun)
    (hf : f { s.leg l with drops := drops, queue := queue, run := run } =
      { s.leg l with drops := drops', queue := queue', run := run' }) :
    (s.turned l drops queue run i).mapLeg l f = s.turned l drops' queue' run' i := by
  rw [State.mapLeg, State.turned_leg, hf]
  simp [State.setLeg, State.turned]

theorem State.turned_setRecord (d : Nat) (o : Option DropRecord) :
    (s.turned l drops queue run i).setRecord l d o = s.turned l (drops.set d o) queue run i :=
  s.turned_mapLeg l drops queue run i (fun x => x.setRecord d o) _ _ _ rfl

theorem State.turned_direct (new : Directive) (ident : Identity) :
    (s.turned l drops queue run i).direct l new ident =
      s.turned l drops (enqueue ident.drop new (some ident) queue) run i :=
  s.turned_mapLeg l drops queue run i (fun x => x.direct new ident) _ _ _ rfl

theorem State.turned_setRun (run' : Option IsolationRun) :
    (s.turned l drops queue run i).mapLeg l (fun x => { x with run := run' }) = s.turned l drops queue run' i :=
  s.turned_mapLeg l drops queue run i _ _ _ _ rfl

theorem State.turned_notify (n : Notice) :
    (s.turned l drops queue run i).notify n = s.turned l drops queue run (i.place n) := rfl

end Turned

/-! ## The end of a run (R162) -/

section Run

variable {s : State} {l : LegId} {drops : List (Option DropRecord)} {queue : List QueueEntry} {run : IsolationRun}
  {i : Interface}

theorem turned_endRun (outcome : RunOutcome) (culprit : Option (Nat × FactoryTag)) :
    (s.turned l drops queue (some run) i).endRun l outcome culprit =
      s.turned l drops queue none
        (i.place (.isolationDone l outcome (culprit.map Prod.fst) (culprit.map Prod.snd) run.begun
          (s.leg l).count)) := by
  simp only [State.endRun, State.turned_leg, State.turned_setRun, State.turned_notify]

/-! ## The turn that begins next (R161, R163) -/

/-- A candidate of a turn list is skipped: no live record holds its identity, or the one that does is SILENCED. -/
def Skips (drops : List (Option DropRecord)) (t : Identity) : Prop :=
  ∀ r, drops[t.drop]?.join = some r → r.ident ≠ t ∨ r.state = .silenced

theorem beginTurn_skipped {skipped : List Identity} (h : ∀ t ∈ skipped, Skips (s.leg l).drops t)
    (rest : List Identity) (pos : Nat) :
    beginTurn l run (skipped ++ rest) pos s = beginTurn l run rest (pos + skipped.length) s := by
  induction skipped generalizing pos with
  | nil => rfl
  | cons t ts ih =>
    rw [List.forall_mem_cons] at h
    obtain ⟨ht, hts⟩ := h
    have hnext : beginTurn l run (t :: (ts ++ rest)) pos s = beginTurn l run (ts ++ rest) (pos + 1) s := by
      rw [beginTurn]
      split
      · rfl
      · next r hr =>
        refine if_neg fun ⟨hident, hstate⟩ => ?_
        exact (ht r hr).elim (absurd hident) hstate
    rw [List.cons_append, hnext, ih hts, List.length_cons, Nat.add_right_comm, Nat.add_assoc]

/-- With every candidate left skipped, the run ends NONE. -/
theorem turned_nextTurn_none {skipped : List Identity} (hleft : run.list.drop (run.pos + 1) = skipped)
    (hskipped : ∀ t ∈ skipped, Skips drops t) :
    (s.turned l drops queue (some run) i).nextTurn l =
      s.turned l drops queue none (i.place (.isolationDone l .none none none run.begun (s.leg l).count)) := by
  have hskips : ∀ t ∈ skipped, Skips ((s.turned l drops queue (some run) i).leg l).drops t := by
    rwa [State.turned_leg]
  have hall := beginTurn_skipped (run := run) hskips [] (run.pos + 1)
  rw [List.append_nil] at hall
  rw [State.nextTurn, State.turned_leg]
  dsimp only
  rw [hleft, hall, beginTurn, turned_endRun]
  rfl

/-- The first candidate left that is not skipped begins its turn. -/
theorem turned_nextTurn_some {skipped more : List Identity} {u : DropRecord}
    (hleft : run.list.drop (run.pos + 1) = skipped ++ u.ident :: more) (hskipped : ∀ t ∈ skipped, Skips drops t)
    (hu : drops[u.ident.drop]?.join = some u) (hstate : u.state ≠ .silenced) :
    (s.turned l drops queue (some run) i).nextTurn l =
      s.turned l (drops.set u.ident.drop (some { u with isolated := true }))
        (enqueue u.ident.drop (.silence u.ident.drop) (some u.ident) queue)
        (some
          { run with pos := run.pos + 1 + skipped.length, begun := run.begun + 1, phase := .silenceQueued,
                     silence := none, clean := 0 })
        i := by
  have hskips : ∀ t ∈ skipped, Skips ((s.turned l drops queue (some run) i).leg l).drops t := by
    rwa [State.turned_leg]
  rw [State.nextTurn, State.turned_leg]
  dsimp only
  rw [hleft, beginTurn_skipped hskips, beginTurn, State.turned_record, hu]
  dsimp only
  rw [if_pos ⟨rfl, hstate⟩, State.turned_setRecord, State.turned_setRun, State.turned_direct]

/-! ## The turn that ends (R116, R162) -/

section Current

variable {r : DropRecord} (hturn : run.list[run.pos]? = some r.ident) (hr : drops[r.ident.drop]?.join = some r)
include hturn hr

theorem turned_endTurn (hisolated : r.isolated = true) :
    (s.turned l drops queue (some run) i).endTurn l =
      s.turned l (drops.set r.ident.drop (some { r with isolated := false }))
        (if r.state = .silenced then queue
          else enqueue r.ident.drop (.resume r.ident.drop) (some r.ident) queue)
        (some run) i := by
  rw [State.endTurn, State.turned_leg]
  dsimp only
  rw [hturn]
  dsimp only
  rw [State.turned_record, hr]
  dsimp only
  rw [if_pos hisolated, State.turned_setRecord, State.turned_direct, apply_ite (s.turned l _ · (some run) i)]

theorem turned_nameCulprit :
    (s.turned l drops queue (some run) i).nameCulprit l =
      s.turned l
        (drops.set r.ident.drop (some
          { r with isolated := false, state := .silenced,
                   resumeTo := if r.state = .silenced then r.resumeTo else some r.state }))
        queue none
        (i.place (.isolationDone l .culprit (some r.ident.drop) (some r.tag) run.begun (s.leg l).count)) := by
  rw [State.nameCulprit, State.turned_leg]
  dsimp only
  rw [hturn]
  dsimp only
  rw [State.turned_record, hr]
  dsimp only
  rw [State.turned_setRecord, turned_endRun]
  rfl

end Current

/-! ## A cycle's class reaches the run (R161, R162) -/

/-- Once the Silence has left, the cycles since then decide what a class does to the run. -/
theorem turned_updateRun {silence : Cycle} (hsilence : run.silence = some silence)
    (hphase : run.phase ≠ .silenceQueued) (n : Cycle) (k : CycleClass) :
    (s.turned l drops queue (some run) i).updateRun l n k =
      if (n - silence).toInt = 2 then s.turned l drops queue (some { run with phase := .watch }) i
      else if 3 ≤ (n - silence).toInt then (s.turned l drops queue (some run) i).watchTurn l run k
      else s.turned l drops queue (some run) i := by
  rw [State.updateRun, State.turned_leg]
  dsimp only
  rw [hsilence]
  cases hp : run.phase with
  | silenceQueued => exact absurd hp hphase
  | wait => dsimp only; rw [State.turned_setRun]; rfl
  | watch => dsimp only; rw [State.turned_setRun]; rfl

/-- A clean watched cycle is counted, and the fourth names the culprit. -/
theorem turned_watchTurn_clean :
    (s.turned l drops queue (some run) i).watchTurn l run .clean =
      if 4 ≤ run.clean + 1 then (s.turned l drops queue (some { run with clean := run.clean + 1 }) i).nameCulprit l
      else s.turned l drops queue (some { run with clean := run.clean + 1 }) i := by
  rw [State.watchTurn, State.turned_setRun]
  rfl

end Run

end Sys2Proof.Machine
end

section
/-! SUPPORT. The close of a calendar in an isolation turn (R71, R72, R116, R161 to R163). -/

namespace Sys2Proof.Machine

/-- The clean-cycle count that a class leaves while the latch is set and does not clear (R72). -/
def latchedCount (count : Nat) : CycleClass → Nat
  | .stray => 0
  | .clean => count + 1
  | .neutral => count

section Close

variable {s : State} {l : LegId} {n : Cycle} {history : BitVec 48} {k : CycleClass}

/-- The state in which the calendar of cycle `n` has closed with class `k`, while the latch is set and does not
clear. -/
def State.closedLatched (s : State) (l : LegId) (n : Cycle) (history : BitVec 48) (k : CycleClass) : State :=
  s.setReceiver l
    (closedReceiver (s.leg l).receiver n history true (latchedCount (s.leg l).receiver.cleanCount k))

/-- A latch that is set and not cleared moves its count alone (R72). -/
theorem updateLatch_latched (hlatch : (s.leg l).receiver.latch = true)
    (hfew : latchedCount (s.leg l).receiver.cleanCount k < 16) :
    (s.setReceiver l (Receiver.close { (s.leg l).receiver with lightHistory := history } n)).updateLatch l n k =
      s.closedLatched l n history k := by
  have hclosed : (Receiver.close { (s.leg l).receiver with lightHistory := history } n).latch = true := hlatch
  rw [State.updateLatch_setReceiver, hclosed]
  cases k with
  | stray => rfl
  | clean => exact if_neg (Nat.not_le_of_lt hfew)
  | neutral => exact congrArg (s.setReceiver l) (closedReceiver_unmoved hlatch n history).symm

theorem closedLatched_leg : (s.closedLatched l n history k).leg l =
    { s.leg l with
      receiver :=
        closedReceiver (s.leg l).receiver n history true (latchedCount (s.leg l).receiver.cleanCount k) } :=
  s.setReceiver_leg l _

/-- What the run leaves after the latch, as the statements write it. -/
theorem closedLatched_turned_arbitrate (drops : List (Option DropRecord)) (queue : List QueueEntry)
    (run : Option IsolationRun) (i : Interface) :
    ((s.closedLatched l n history k).turned l drops queue run i).arbitrate =
      { s with
        legs := s.legs.set l
          { s.leg l with
            drops := drops, queue := queue, run := run,
            receiver :=
              closedReceiver (s.leg l).receiver n history true (latchedCount (s.leg l).receiver.cleanCount k) },
        iface := i.arbitrate } := by
  rw [State.turned, closedLatched_leg]
  simp [State.closedLatched, State.setReceiver, State.setLeg, State.arbitrate, State.setIface]

/-- The close of a calendar while the latch is set and does not clear: the class goes on to the run, on the leg's own
drop table and directive queue. -/
theorem exec_calendarClose_latched {lit : List (Nat × Nat)} {c : Calendar} {next : Option Calendar}
    (hreset : s.inReset = none) (hclosing : Closing (s.leg l).receiver c next) (hclass : ClassIs s l c next lit k)
    (hhistory : HistoryIs lit history) (hlatch : (s.leg l).receiver.latch = true)
    (hfew : latchedCount (s.leg l).receiver.cleanCount k < 16) :
    exec (.calendarClose l lit) s = .next
      ((((s.closedLatched l c.cycle history k).turned l (s.leg l).drops (s.leg l).queue (s.leg l).run
        s.iface).updateRun l c.cycle k).arbitrate) := by
  have hself := (s.closedLatched l c.cycle history k).turned_self l
  rw [closedLatched_leg] at hself
  rw [exec_calendarClose hreset hclosing hclass hhistory, updateLatch_latched hlatch hfew]
  exact congrArg (fun v => Host.Outcome.next (State.updateRun v l c.cycle k).arbitrate) hself.symm

end Close

end Sys2Proof.Machine

open Sys2Proof Sys2Proof.Machine

/-- Settles O50: the latch stays set, and then the run goes by the cycles since its Silence and the class. -/
theorem anIsolationTurnIsWatched : Obligations.AnIsolationTurnIsWatched := by
  unfold Obligations.AnIsolationTurnIsWatched
  intro l lit s c next k history run silence r d latched hreset hclosing hrun hclass hhistory hlatch hlatched hfew
    hsilence hturn hdrop hr hisolated after becomes freed resumed
  subst hdrop
  obtain rfl : latched = latchedCount (s.leg l).receiver.cleanCount k := by rw [hlatched]; cases k <;> rfl
  have hclose := exec_calendarClose_latched hreset hclosing hclass hhistory hlatch hfew
  have hcount : ((s.closedLatched l c.cycle history k).leg l).count = (s.leg l).count := by rw [closedLatched_leg]
  rw [hrun] at hclose
  -- what the run leaves of the drop table, the queue, itself and the interface is the outcome
  have hbecomes {drops : List (Option DropRecord)} {queue : List QueueEntry} {run' : Option IsolationRun}
      {i : Interface} (h : ((s.closedLatched l c.cycle history k).turned l (s.leg l).drops (s.leg l).queue (some run)
        s.iface).updateRun l c.cycle k = (s.closedLatched l c.cycle history k).turned l drops queue run' i) :
      becomes drops queue run' i := by
    rw [h, closedLatched_turned_arbitrate] at hclose
    exact hclose
  have hreached (hphase : run.phase ≠ .silenceQueued) := turned_updateRun (s := s.closedLatched l c.cycle history k)
    (l := l) (drops := (s.leg l).drops) (queue := (s.leg l).queue) (i := s.iface) hsilence hphase c.cycle k
  have hwaited (hphase : run.phase = .wait) := hreached (hphase ▸ nofun)
  have hwatched (hphase : run.phase = .watch) (hafter : 3 ≤ after) := (hreached (hphase ▸ nofun)).trans
    ((if_neg (by omega)).trans (if_pos hafter))
  refine ⟨fun hphase hafter => ?early, fun hphase hafter => ?second, fun hphase hafter hk => ?unmoved,
    fun hphase hafter hk hfour => ?counted, fun hphase hafter hk hfour => ?culprit, fun hphase hafter hk hleft => ?last,
    fun u n us hphase hafter hk hleft hn hother hu hlive => ?next⟩
  case early => exact hbecomes ((hwaited hphase).trans ((if_neg (by omega)).trans (if_neg (by omega))))
  case second => exact hbecomes ((hwaited hphase).trans (if_pos hafter))
  all_goals
    refine hbecomes ((hwatched hphase hafter).trans ?_)
    subst hk
  case unmoved => rfl
  case counted => exact turned_watchTurn_clean.trans (if_neg (Nat.not_le_of_lt hfour))
  case culprit =>
    rw [turned_watchTurn_clean, if_pos hfour,
      turned_nameCulprit (run := { run with clean := run.clean + 1 }) hturn hr, hcount]
  case last =>
    rw [State.watchTurn, turned_endTurn hturn hr hisolated, turned_nextTurn_none hleft nofun, hcount]
  case next =>
    subst hn
    have hu' : ((s.leg l).drops.set r.ident.drop (some { r with isolated := false }))[u.ident.drop]?.join = some u := by
      rw [List.getElem?_set_ne (Ne.symm hother)]
      exact hu
    rw [State.watchTurn, turned_endTurn hturn hr hisolated,
      turned_nextTurn_some (skipped := []) hleft nofun hu' hlive]
    rfl
end

section
/-! SUPPORT. The operations of admission on an announce (R81 to R88, R98, R99): the roster entry of its tag as heard,
the allocation from an announce, and a record that ends with no Release. -/

namespace Sys2Proof.Machine

/-! ## The roster entry as heard (R81) -/

/-- An entry replaced by one of its tag is found in its place. -/
theorem findTag_set {tag : FactoryTag} {t : List (Option RosterEntry)} {k i : Nat} {e e' : RosterEntry}
    (h : findTag tag k t = some (i, e)) (htag : e'.tag = tag) :
    findTag tag k (t.set (i - k) (some e')) = some (i, e') := by
  have hbehind {k : Nat} {x : Option RosterEntry} {xs : List (Option RosterEntry)}
      (h : findTag tag (k + 1) xs = some (i, e)) :
      (x :: xs).set (i - k) (some e') = x :: xs.set (i - (k + 1)) (some e') := by
    obtain ⟨hle, -⟩ := findTag_spec h
    rw [show i - k = i - (k + 1) + 1 by omega, List.set_cons_succ]
  induction t generalizing k with
  | nil => cases h
  | cons x xs ih =>
    cases x with
    | none =>
      rw [hbehind h]
      exact ih h
    | some f =>
      by_cases hf : f.tag = tag
      · obtain ⟨rfl, -⟩ := Prod.mk.inj (Option.some.inj ((if_pos hf).symm.trans h))
        rw [Nat.sub_self, List.set_cons_zero]
        exact if_pos htag
      · have hrest : findTag tag (k + 1) xs = some (i, e) := (if_neg hf).symm.trans h
        rw [hbehind hrest]
        exact (if_neg hf).trans (ih hrest)

section Announced

variable {s t : State} {l : LegId} {a : Announce}

theorem heard_eq_heardOn : s.heard a.tag l a.cycle = heardOn l a s := by
  unfold State.heard heardOn
  split <;> rfl

theorem heardOn_of_some {i : Nat} {e : RosterEntry} (h : s.rosterEntry a.tag = some (i, e)) :
    (heardOn l a s).rosterEntry a.tag = some (i, { e with lastHeard := some (l, a.cycle) }) := by
  have hset : (heardOn l a s).roster = s.roster.set i (some { e with lastHeard := some (l, a.cycle) }) := by
    simp only [heardOn, h]
  rw [State.rosterEntry, hset]
  exact findTag_set h (State.rosterEntry_spec h).2

theorem heardOn_of_none (h : s.rosterEntry a.tag = none) : heardOn l a s = s := by
  simp only [heardOn, h]

/-! ## An announce that is held or admitted (R85, R86, R88, R99) -/

theorem held_iff {reason : HeldReason} {i : Option Nat} :
    Held l a reason i s t ↔ t = s.holdCandidate l a reason i := by
  unfold Held State.holdCandidate
  by_cases hroom : s.candidates.length < Config.maxCandidates
  · have hroom' : s.candidates.length < 16 := hroom
    rw [if_pos hroom]
    exact ⟨fun h => h.elim And.right fun hfull => absurd hroom' (Nat.not_lt_of_le hfull.1), fun h => .inl ⟨hroom', h⟩⟩
  · have hfull : 16 ≤ s.candidates.length := Nat.le_of_not_lt hroom
    rw [if_neg hroom]
    exact ⟨fun h => h.elim (fun hroom' => absurd hroom'.1 hroom) And.right, fun h => .inr ⟨hfull, h⟩⟩

/-- The lowest FREE record is allocated from an announce and the roster entry of its tag. -/
theorem takeIn_eq {i d : Nat} {e f : RosterEntry} (hfree : firstFree (s.leg l).drops = some d)
    (hat : s.rosterAt i = some f) (htag : e.tag = a.tag) :
    s.takeIn l i e a.r a.launch a.power a.vector =
      { s with
        roster := s.roster.set i (some { f with state := .active, link := some (l, d) }),
        legs := s.legs.set l (admitted (s.leg l) d i e.plot e.share (heldAs l a .unknown none)) } := by
  have hentry (g : Leg → Leg) : (s.mapLeg l g).rosterAt i = some f := hat
  rw [State.takeIn, hfree]
  dsimp only
  rw [State.allocate]
  dsimp only
  rw [hentry, htag]
  simp only [State.direct, State.mapLeg, State.setRosterAt, State.setRoster_leg, State.setLeg_leg_same]
  simp only [State.setRoster, State.setLeg, Four.set_set]
  rfl

/-- Steps 5 to 7 of R81, for an entry that stands in the roster as heard, its state and link as they may be. -/
theorem decidesExpected_eq {i : Nat} {e : RosterEntry} {state : RosterState} {link : Option (LegId × Nat)}
    (hat : s.rosterAt i = some { e with lastHeard := some (l, a.cycle), state := state, link := link })
    (htag : e.tag = a.tag) (h : DecidesExpected l a i e s t) :
    t = s.decideExpected l a i { e with lastHeard := some (l, a.cycle), state := state, link := link } := by
  rcases h with ⟨hcrossed, hheld⟩ | ⟨hhere, hfull, hheld⟩ | ⟨hhere, d, hfree, rfl⟩
  · exact (held_iff.mp hheld).trans (if_neg hcrossed).symm
  · refine (held_iff.mp hheld).trans (.trans ?_ (if_pos hhere).symm)
    rw [hfull]
  · refine .trans ?_ (if_pos hhere).symm
    rw [hfree]
    exact (takeIn_eq hfree hat htag).symm

theorem exists_decidesExpected (l : LegId) (a : Announce) (i : Nat) (e : RosterEntry) (s : State) :
    ∃ t, DecidesExpected l a i e s t := by
  by_cases hhere : e.expected = .any ∨ e.expected = .leg l
  · cases hfree : firstFree (s.leg l).drops with
    | none => exact ⟨_, .inr (.inl ⟨hhere, hfree, held_iff.mpr rfl⟩)⟩
    | some d => exact ⟨_, .inr (.inr ⟨hhere, d, hfree, rfl⟩)⟩
  · exact ⟨_, .inl ⟨hhere, held_iff.mpr rfl⟩⟩

end Announced

/-! ## A record that ends with no Release (R98, R163) -/

section Superseded

variable {s t : State} {l : LegId} {d i : Nat} {r : DropRecord} {e : RosterEntry}

theorem State.turned_clearFollow (drops : List (Option DropRecord)) (queue : List QueueEntry)
    (run : Option IsolationRun) (j : Interface) :
    (s.turned l drops queue run j).mapLeg l (fun x => x.clearFollow d) =
      s.turned l drops
        (queue.map fun q => if q.dir.drop? = some d then { q with follow := FollowOn.empty } else q) run j :=
  s.turned_mapLeg l drops queue run j _ _ _ _ rfl

/-- The state in which a record has ended SUPERSEDED with no Release, before an isolation turn it was in is skipped. -/
def State.afterSupersede (s : State) (l : LegId) (d : Nat) (r : DropRecord) (e : RosterEntry) : State :=
  (s.setRosterAt r.rosterIndex (some { e with state := .expected, link := none })).turned l ((s.leg l).drops.set d none)
    ((s.leg l).queue.map fun q => if q.dir.drop? = some d then { q with follow := FollowOn.empty } else q) (s.leg l).run
    (s.iface.place
      (.dropEnded l d r.tag r.plot r.rosterIndex .superseded r.state r.attempts r.misses (s.leg l).count))

theorem endRecord_superseded (hr : s.record l d = some r) (he : s.rosterAt r.rosterIndex = some e) :
    s.endRecord l d .superseded false =
      if r.isolated then (s.afterSupersede l d r e).nextTurn l else s.afterSupersede l d r e := by
  have hself := (s.setRosterAt r.rosterIndex (some { e with state := .expected, link := none })).turned_self l
  rw [State.endRecord, hr]
  dsimp only
  rw [State.unlink, he]
  dsimp only
  rw [if_neg Bool.false_ne_true, ← hself, State.turned_clearFollow, State.turned_setRecord, State.turned_notify,
    State.turned_leg]
  rfl

theorem endRecord_rosterAt (hr : s.record l d = some r) (he : s.rosterAt r.rosterIndex = some e) (reason : EndReason)
    (release : Bool) :
    (s.endRecord l d reason release).rosterAt r.rosterIndex = some { e with state := .expected, link := none } := by
  rw [State.rosterAt, State.endRecord_roster hr]
  exact (s.unlink_rosterAt _ _).trans (by rw [if_pos rfl, he]; rfl)

/-- A candidate that is passed over once drop `d` is FREE is skipped. -/
theorem skips_of_passedOver {x : Leg} {u : Identity} (hr : x.record d = some r) (h : PassedOver x d u) :
    Skips (x.drops.set d none) u := by
  intro v hv
  by_cases hu : u.drop = d
  · rw [hu, List.getElem?_set_self (Leg.record_lt hr)] at hv
    cases hv
  · rw [List.getElem?_set_ne (Ne.symm hu)] at hv
    exact h.resolve_left hu v hv

/-- The turn of a record that has ended is skipped, and the run goes on, or the record was in no turn. -/
theorem endsSuperseded_eq (hr : s.record l d = some r) (hi : r.rosterIndex = i) (he : s.rosterAt i = some e)
    (h : EndsSuperseded l d r i e s t) : t = s.endRecord l d .superseded false := by
  subst hi
  rw [endRecord_superseded hr he]
  rcases h with ⟨hisolated, rfl⟩ | ⟨hisolated, run, skipped, rest, hrun, hleft, hpassed, hnext⟩
  · rw [if_neg (by rw [hisolated]; nofun)]
    rfl
  · have hskipped : ∀ u ∈ skipped, Skips ((s.leg l).drops.set d none) u :=
      fun u hu => skips_of_passedOver hr (hpassed u hu)
    rw [if_pos hisolated, State.afterSupersede, hrun]
    rcases hnext with ⟨rfl, rfl⟩ | ⟨u, n, more, rfl, rfl, hother, hu, hlive, rfl⟩
    · rw [List.append_nil] at hleft
      rw [turned_nextTurn_none hleft hskipped]
      rfl
    · have hu' : ((s.leg l).drops.set d none)[u.ident.drop]?.join = some u := by
        rw [List.getElem?_set_ne (Ne.symm hother)]
        exact hu
      rw [turned_nextTurn_some hleft hskipped hu' hlive]
      rfl

/-- A list stands as the elements before the first without a property, and the rest. -/
theorem exists_first_without {α : Type} (p : α → Prop) (ts : List α) :
    ∃ before rest, ts = before ++ rest ∧ (∀ t ∈ before, p t) ∧ (rest = [] ∨ ∃ t more, rest = t :: more ∧ ¬ p t) := by
  induction ts with
  | nil => exact ⟨[], [], rfl, nofun, .inl rfl⟩
  | cons t ts ih =>
    by_cases ht : p t
    · obtain ⟨before, rest, rfl, hbefore, hrest⟩ := ih
      exact ⟨t :: before, rest, rfl, List.forall_mem_cons.mpr ⟨ht, hbefore⟩, hrest⟩
    · exact ⟨[], t :: ts, rfl, nofun, .inr ⟨t, ts, rfl, ht⟩⟩

theorem exists_endsSuperseded (l : LegId) (d : Nat) (i : Nat) (e : RosterEntry)
    (hrun : r.isolated = true → (s.leg l).run ≠ none) : ∃ t, EndsSuperseded l d r i e s t := by
  cases hisolated : r.isolated with
  | false => exact ⟨_, .inl ⟨hisolated, rfl⟩⟩
  | true =>
    obtain ⟨run, hrun⟩ := Option.ne_none_iff_exists'.mp (hrun hisolated)
    obtain ⟨skipped, rest, hleft, hpassed, rfl | ⟨u, more, rfl, hu⟩⟩ :=
      exists_first_without (PassedOver (s.leg l) d) (run.list.drop (run.pos + 1))
    · exact ⟨_, .inr ⟨hisolated, run, skipped, [], hrun, hleft, hpassed, .inl ⟨rfl, rfl⟩⟩⟩
    · simp only [PassedOver] at hu
      push Not at hu
      obtain ⟨hother, v, hv, rfl, hlive⟩ := hu
      exact ⟨_, .inr ⟨hisolated, run, skipped, _, hrun, hleft, hpassed,
        .inr ⟨v, _, more, rfl, rfl, hother, hv, hlive, rfl⟩⟩⟩

end Superseded

end Sys2Proof.Machine
end

section
/-! SUPPORT. The announces of a window, decided one after another at its end (R70, R81 to R88). -/

namespace Sys2Proof.Machine

section Decisions

variable {s t : State} {l : LegId} {a : Announce}

/-! ## One announce (R81) -/

/-- A record on the leg that heard its tag again is left as it stands while ENROLLING, and else ends first (R84). -/
theorem restarted_eq {i d : Nat} {e : RosterEntry} {r : DropRecord} (hr : s.record l d = some r) :
    s.restarted l a i e d =
      if r.state = .enrolling then s
      else (s.endRecord l d .superseded false).decideExpected l a i { e with state := .expected, link := none } := by
  rw [State.restarted, hr]

/-- What the rules decide on an announce is what admission does. -/
theorem admission_eq (h : Decides l a s t) : t = s.admission l a := by
  unfold State.admission
  rw [heard_eq_heardOn]
  dsimp only
  have hcandidate : (heardOn l a s).candidate a.tag = s.candidate a.tag := rfl
  rw [hcandidate]
  rcases h with ⟨c, hc, ⟨hhere, rfl⟩ | ⟨hother, rfl⟩⟩ | ⟨hc, ⟨hnone, hunknown⟩ | ⟨i, e, he, hstate⟩⟩
  · rw [hc]
    exact (if_pos hhere).symm
  · rw [hc]
    exact (if_neg hother).symm
  · rw [hc, heardOn_of_none hnone, hnone]
    rw [heardOn_of_none hnone] at hunknown
    dsimp only
    rcases hunknown with ⟨hpolicy, hheld⟩ | ⟨hpolicy, rfl⟩
    · rw [hpolicy]
      exact held_iff.mp hheld
    · rw [hpolicy]
  · have hheard := heardOn_of_some (l := l) he
    obtain ⟨hat, -⟩ := State.rosterEntry_spec hheard
    obtain ⟨-, htag⟩ := State.rosterEntry_spec he
    rw [hc, hheard]
    dsimp only
    rcases hstate with ⟨hbarred, rfl⟩ | ⟨hexpected, hdecides⟩ | ⟨k, d, hactive, hlink, honLeg⟩
    · rw [hbarred]
      rfl
    · rw [hexpected]
      exact decidesExpected_eq (state := e.state) (link := e.link) hat htag hdecides
    · rw [hactive, hlink]
      dsimp only
      rcases honLeg with ⟨hother, hheld⟩ | ⟨rfl, r, hr, ⟨henrolling, rfl⟩ | ⟨hlive, rfl, u, hends, hdecides⟩⟩
      · rw [if_neg hother]
        exact held_iff.mp hheld
      · rw [if_pos rfl, restarted_eq (s := heardOn k a s) hr, if_pos henrolling]
      · rw [if_pos rfl, restarted_eq (s := heardOn k a s) hr, if_neg hlive]
        obtain rfl := endsSuperseded_eq (s := heardOn k a s) hr rfl hat hends
        exact decidesExpected_eq (endRecord_rosterAt (s := heardOn k a s) hr hat _ _) htag hdecides

/-- An announce of an ACTIVE tag without a candidate is decided, where the entry's link names its record and an
isolation turn of a record on the leg that heard it is one of a run. -/
theorem exists_decides_active {i d : Nat} {e : RosterEntry} {k : LegId} {r : DropRecord}
    (hc : s.candidate a.tag = none) (he : s.rosterEntry a.tag = some (i, e)) (hactive : e.state = .active)
    (hlink : e.link = some (k, d)) (hr : s.record k d = some r) (hindex : r.rosterIndex = i)
    (hrun : k = l → r.isolated = true → (s.leg l).run ≠ none) : ∃ t, Decides l a s t := by
  refine Exists.imp (fun t h => .inr ⟨hc, .inr ⟨i, e, he, .inr (.inr ⟨k, d, hactive, hlink, h⟩)⟩⟩) ?_
  by_cases hhere : k = l
  · subst hhere
    by_cases henrolling : r.state = .enrolling
    · exact ⟨_, .inr ⟨rfl, r, hr, .inl ⟨henrolling, rfl⟩⟩⟩
    · obtain ⟨u, hu⟩ := exists_endsSuperseded (s := heardOn k a s) k d i
        { e with lastHeard := some (k, a.cycle) } (hrun rfl)
      obtain ⟨t, ht⟩ := exists_decidesExpected k a i e u
      exact ⟨t, .inr ⟨rfl, r, hr, .inr ⟨henrolling, hindex, u, hu, ht⟩⟩⟩
  · exact ⟨_, .inl ⟨hhere, held_iff.mpr rfl⟩⟩

/-- Where the roster, the records and the Candidate List agree, every announce is decided: an ACTIVE entry's link names
a live record, and an isolation turn that a record is in is one of a run. -/
theorem exists_decides (hlinked : s.Linked)
    (hruns : ∀ d r, s.record l d = some r → r.isolated = true → (s.leg l).run ≠ none) : ∃ t, Decides l a s t := by
  cases hc : s.candidate a.tag with
  | some c =>
    by_cases hhere : c.leg = l
    · exact ⟨_, .inl ⟨c, hc, .inl ⟨hhere, rfl⟩⟩⟩
    · exact ⟨_, .inl ⟨c, hc, .inr ⟨hhere, rfl⟩⟩⟩
  | none =>
    cases he : s.rosterEntry a.tag with
    | none =>
      cases hpolicy : (s.leg l).setup.policy with
      | hold => exact ⟨_, .inr ⟨hc, .inl ⟨he, .inl ⟨hpolicy, held_iff.mpr rfl⟩⟩⟩⟩
      | discard => exact ⟨_, .inr ⟨hc, .inl ⟨he, .inr ⟨hpolicy, rfl⟩⟩⟩⟩
    | some p =>
      obtain ⟨i, e⟩ := p
      cases hstate : e.state with
      | barred => exact ⟨_, .inr ⟨hc, .inr ⟨i, e, he, .inl ⟨hstate, rfl⟩⟩⟩⟩
      | expected =>
        obtain ⟨t, ht⟩ := exists_decidesExpected l a i e (heardOn l a s)
        exact ⟨t, .inr ⟨hc, .inr ⟨i, e, he, .inr (.inl ⟨hstate, ht⟩)⟩⟩⟩
      | active =>
        obtain ⟨hat, -⟩ := State.rosterEntry_spec he
        obtain ⟨-, hinactive⟩ | ⟨k, d, r, hlink, -, hr, hindex, -⟩ :=
          (entrySound_iff s i e).mp (hlinked.entries i e hat)
        · exact absurd hstate hinactive
        · exact exists_decides_active hc he hstate hlink hr hindex fun hhere => hhere ▸ hruns d r (hhere ▸ hr)

/-! ## The announces of a window (R70) -/

theorem decidedInTurn_eq {as : List Announce} (h : DecidedInTurn l as s t) :
    t = as.foldl (fun s a => s.admission l a) s := by
  induction as generalizing s with
  | nil => exact h
  | cons a as ih =>
    obtain ⟨u, hu, hrest⟩ := h
    rw [List.foldl_cons, ← admission_eq hu]
    exact ih hrest

/-- The scan ends once no announce of it is in judgement, and hands its queue to admission. -/
theorem exec_windowScanEnd {w : WindowScan} (hreset : s.inReset = none) (hscan : (s.leg l).receiver.scan = some w) :
    exec (.windowScanEnd l) s = .next
      (if w.found = [] then
        (s.leg l).receiver.announces.foldl (fun s a => s.admission l a)
          (s.mapLeg l fun x => x.mapReceiver fun rx => Receiver.prune { rx with scan := none, announces := [] })
      else s).arbitrate := by
  change execWindowScanEnd l s = _
  rw [execWindowScanEnd, event_alive _ hreset, hscan]
  dsimp only
  simp only [List.isEmpty_iff]

end Decisions

end Sys2Proof.Machine

open Sys2Proof Sys2Proof.Machine

/-- Settles O48: each decision of the rules is admission's, so the announces decided in turn are those that the scan's
end hands over; and a decision exists where the blocks agree. -/
theorem theWindowsEndAdmitsItsAnnounces : Obligations.TheWindowsEndAdmitsItsAnnounces := by
  unfold Obligations.TheWindowsEndAdmitsItsAnnounces
  refine ⟨fun l s w hreset hscan => ⟨fun hfound => ?_, fun hfound t ht => ?_⟩,
    fun l a s hlinked hruns => exists_decides hlinked hruns⟩
  · rw [exec_windowScanEnd hreset hscan, if_neg hfound]
    rfl
  · rw [exec_windowScanEnd hreset hscan, if_pos hfound, decidedInTurn_eq ht]
    rfl
end

section
/-! SUPPORT. How a request that is taken is answered (R167 to R171): the interface that its command leaves, from what
the request does to the state in which it acts. -/

namespace Sys2Proof.Machine

section Answered

variable {s t : State} {tag code : Byte} {act : State → Answer} {reply : ReplyCode} {values : List Byte}

/-- The interface with the place of a request occupied and the receive side HUNTING. -/
def Interface.taken (i : Interface) (tag code : Byte) : Interface :=
  { i with rx := none, buffer := i.buffer ++ [⟨tag, code⟩] }

/-- A notice of the request goes beside its place in the buffer. -/
theorem Interface.taken_place (i : Interface) (tag code : Byte) (n : Notice) :
    (i.taken tag code).place n = (i.place n).taken tag code := by
  by_cases hroom : i.notices.length < Config.maxNotices
  · simp [Interface.place, Interface.taken, hroom]
  · simp [Interface.place, Interface.taken, hroom]

/-- A request that is taken leaves what it does to the state, with its reply formed on the interface it leaves. -/
theorem event_answered {i : Interface} (htakes : s.takes) (hact : act (s.took tag code) = ⟨t, reply, values⟩)
    (hiface : t.iface = i.taken tag code) :
    event (frameRequest tag code act) s = .next { t with iface := i.answered tag code reply values } := by
  rw [event_request tag code act htakes, hact]
  dsimp only
  rw [State.reply, hiface]
  rfl

/-- A request that is refused changes the interface alone (R168). -/
theorem event_refused (htakes : s.takes) (hact : act (s.took tag code) = refuse reply (s.took tag code)) :
    event (frameRequest tag code act) s = .next { s with iface := s.iface.answered tag code reply [] } :=
  event_answered (t := s.took tag code) htakes hact rfl

/-- A request that reads the state alone changes the interface alone. -/
theorem event_reported (htakes : s.takes) (hact : act (s.took tag code) = done (s.took tag code) values) :
    event (frameRequest tag code act) s = .next { s with iface := s.iface.answered tag code .done values } :=
  event_answered (t := s.took tag code) htakes hact rfl

end Answered

end Sys2Proof.Machine
end

section
/-! SUPPORT. ROSTER-PUT, ROSTER-REMOVE and ROSTER-READ (R76 to R80), each answer by the case of its rule. -/

namespace Sys2Proof

theorem Quad.ofNat?_eq_none_iff {n : Nat} : Quad.ofNat? n = none ↔ 3 < n := by
  refine ⟨fun h => ?_, fun h => ?_⟩
  · by_contra hn
    have hlow : n < 4 := by omega
    interval_cases n <;> cases h
  · obtain ⟨m, rfl⟩ := Nat.exists_eq_add_of_lt h
    rw [show 3 + m + 1 = m + 4 by omega]
    rfl

theorem Quad.ofNat?_eq_some_iff {n : Nat} {q : Quad} : Quad.ofNat? n = some q ↔ n = q.val := by
  refine ⟨fun h => ?_, fun h => h ▸ Quad.ofNat?_val q⟩
  unfold Quad.ofNat? at h
  split at h <;> cases h <;> rfl

end Sys2Proof

namespace Sys2Proof.Machine

/-! ## The roster values (R74, R177) -/

theorem rosterValuesOk_iff {plot share : Nat} :
    rosterValuesOk plot share = true ↔ 1 ≤ plot ∧ plot ≤ 4095 ∧ share ≤ 8000 ∧ share % 8 = 0 := by
  simp [rosterValuesOk, and_assoc]

theorem expectedOf_eq_none_iff {n : Nat} : expectedOf n = none ↔ ¬ (n ≤ 3 ∨ n = 255) := by
  by_cases hany : n = 255
  · simp [expectedOf, hany]
  · simp [expectedOf, hany, Quad.ofNat?_eq_none_iff]

section Put

variable {s : State} {payload : List Byte} {f : RosterPutFields} {leg : ExpectedLeg} {i : Nat} {e : RosterEntry}

/-! ## ROSTER-PUT (R76, R77) -/

theorem answerRosterPut_outOfRange (hparse : parseRosterPut payload = some f)
    (hbad : ¬ (1 ≤ f.plot ∧ f.plot ≤ 4095 ∧ f.share ≤ 8000 ∧ f.share % 8 = 0 ∧ (f.leg ≤ 3 ∨ f.leg = 255))) :
    answerRosterPut payload s = refuse .outOfRange s := by
  rw [answerRosterPut, parsed_some _ _ hparse]
  split
  · next leg hvalues hleg =>
    obtain ⟨hlow, hhigh, hshare, heighth⟩ := rosterValuesOk_iff.mp hvalues
    have hbadLeg := expectedOf_eq_none_iff.mpr fun h => hbad ⟨hlow, hhigh, hshare, heighth, h⟩
    cases hbadLeg.symm.trans hleg
  · rfl

theorem answerRosterPut_new (hparse : parseRosterPut payload = some f)
    (hvalues : rosterValuesOk f.plot f.share = true) (hleg : expectedOf f.leg = some leg)
    (hnone : s.rosterEntry f.tag = none) : answerRosterPut payload s = s.putNew f leg := by
  simp only [answerRosterPut, parsed_some _ _ hparse, hvalues, hleg, hnone]

theorem answerRosterPut_held (hparse : parseRosterPut payload = some f)
    (hvalues : rosterValuesOk f.plot f.share = true) (hleg : expectedOf f.leg = some leg)
    (he : s.rosterEntry f.tag = some (i, e)) : answerRosterPut payload s = s.putOver f leg i e := by
  simp only [answerRosterPut, parsed_some _ _ hparse, hvalues, hleg, he]

theorem putNew_full (hfull : firstFree s.roster = none) : s.putNew f leg = refuse .noRoom s := by
  rw [State.putNew, hfull]

theorem putNew_free (hfree : firstFree s.roster = some i) :
    s.putNew f leg =
      done ((s.setRosterAt i (some
        { tag := f.tag, plot := f.plot, expected := leg, share := f.share, state := putState f.barred, link := none,
          lastHeard := none })).indexCandidate f.tag (some i)) (u16 i) := by
  rw [State.putNew, hfree]

theorem putOver_inactive (hstate : e.state ≠ .active) :
    s.putOver f leg i e =
      done (s.setRosterAt i (some
        { e with plot := f.plot, expected := leg, share := f.share, state := putState f.barred })) (u16 i) :=
  if_neg hstate

theorem putOver_refused (hstate : e.state = .active) (hbad : f.barred = true ∨ e.expected ≠ leg) :
    s.putOver f leg i e = refuse .wrongState s :=
  (if_pos hstate).trans (if_pos hbad)

theorem relabel_linked {l : LegId} {d : Nat} {r : DropRecord} (hr : s.record l d = some r) (plot share : Nat) :
    s.relabel (some (l, d)) plot share = s.setRecord l d (some { r with plot := plot, share := share }) := by
  simp only [State.relabel, hr]

/-- An ACTIVE entry and the record of its link take the plot label and the share (R77). -/
theorem putOver_active {l : LegId} {d : Nat} {r : DropRecord} (hstate : e.state = .active) (hclear : f.barred = false)
    (hleg : e.expected = leg) (hlink : e.link = some (l, d)) (hr : s.record l d = some r) :
    s.putOver f leg i e =
      done ((s.setRosterAt i (some { e with plot := f.plot, share := f.share })).setRecord l d
        (some { r with plot := f.plot, share := f.share })) (u16 i) := by
  have hgood : ¬ (f.barred = true ∨ e.expected ≠ leg) := by simp [hclear, hleg]
  rw [State.putOver, if_pos hstate, if_neg hgood, hlink, relabel_linked (r := r)]
  exact hr

end Put

section Remove

variable {s : State} {payload : List Byte} {tag : FactoryTag} {i : Nat} {e : RosterEntry}

/-! ## ROSTER-REMOVE (R78) -/

theorem answerRosterRemove_notFound (hparse : parseTag payload = some tag) (hnone : s.rosterEntry tag = none) :
    answerRosterRemove payload s = refuse .notFound s := by
  rw [answerRosterRemove, parsed_some _ _ hparse, hnone]

theorem answerRosterRemove_held (hparse : parseTag payload = some tag) (he : s.rosterEntry tag = some (i, e)) :
    answerRosterRemove payload s =
      if e.state = .active then refuse .wrongState s
      else done ((s.setRosterAt i none).indexCandidate tag none) (u16 i) := by
  rw [answerRosterRemove, parsed_some _ _ hparse, he]

/-! ## ROSTER-READ (R79) -/

theorem RosterEntry.values_eq_rosterReply (e : RosterEntry) (i : Nat) : e.values i = rosterReply i e := by
  obtain ⟨tag, plot, expected, share, state, link, lastHeard⟩ := e
  cases expected <;> cases link <;> cases lastHeard <;> rfl

theorem answerRosterRead_outOfRange (hparse : parseRosterKey payload = some (.number i)) (hhigh : 255 < i) :
    answerRosterRead payload s = refuse .outOfRange s := by
  simp only [answerRosterRead, parsed_some _ _ hparse, if_pos hhigh]

theorem answerRosterRead_unused (hparse : parseRosterKey payload = some (.number i)) (hlow : i ≤ 255)
    (hnone : s.rosterAt i = none) : answerRosterRead payload s = refuse .notFound s := by
  simp only [answerRosterRead, parsed_some _ _ hparse, if_neg (Nat.not_lt_of_le hlow), hnone]

theorem answerRosterRead_at (hparse : parseRosterKey payload = some (.number i)) (hlow : i ≤ 255)
    (he : s.rosterAt i = some e) : answerRosterRead payload s = done s (rosterReply i e) := by
  simp only [answerRosterRead, parsed_some _ _ hparse, if_neg (Nat.not_lt_of_le hlow), he,
    RosterEntry.values_eq_rosterReply]

theorem answerRosterRead_unknown (hparse : parseRosterKey payload = some (.tag tag))
    (hnone : s.rosterEntry tag = none) : answerRosterRead payload s = refuse .notFound s := by
  simp only [answerRosterRead, parsed_some _ _ hparse, hnone]

theorem answerRosterRead_tag (hparse : parseRosterKey payload = some (.tag tag))
    (he : s.rosterEntry tag = some (i, e)) : answerRosterRead payload s = done s (rosterReply i e) := by
  simp only [answerRosterRead, parsed_some _ _ hparse, he, RosterEntry.values_eq_rosterReply]

end Remove

end Sys2Proof.Machine

open Sys2Proof Sys2Proof.Machine

/-- Settles O15: the values' ranges, and then the lowest free index of the roster. -/
theorem rosterPutCreatesAnEntry : Obligations.RosterPutCreatesAnEntry := by
  unfold Obligations.RosterPutCreatesAnEntry
  intro tag payload f s htakes hparse
  refine ⟨fun hbad => event_refused htakes (answerRosterPut_outOfRange hparse hbad),
    fun leg hlow hhigh hshare heighth hleg hnone => ?_⟩
  have hvalues := rosterValuesOk_iff.mpr ⟨hlow, hhigh, hshare, heighth⟩
  have hnew := answerRosterPut_new (s := s.took tag 0x20#8) hparse hvalues hleg hnone
  exact ⟨fun hfull => event_refused htakes (hnew.trans (putNew_full hfull)),
    fun i hfree => event_answered htakes (hnew.trans (putNew_free hfree)) rfl⟩

/-- Settles O16: the entry that holds the tag is not ACTIVE, or is refused, or changes with its record. -/
theorem rosterPutChangesAnEntry : Obligations.RosterPutChangesAnEntry := by
  unfold Obligations.RosterPutChangesAnEntry
  intro tag payload f s leg i e htakes hparse hlow hhigh hshare heighth hleg he
  have hvalues := rosterValuesOk_iff.mpr ⟨hlow, hhigh, hshare, heighth⟩
  have hover := answerRosterPut_held (s := s.took tag 0x20#8) hparse hvalues hleg he
  exact ⟨fun hstate => event_answered htakes (hover.trans (putOver_inactive hstate)) rfl,
    fun hstate hbad => event_refused htakes (hover.trans (putOver_refused hstate hbad)),
    fun l d r hstate hclear hexpected hlink hr =>
      event_answered htakes (hover.trans (putOver_active hstate hclear hexpected hlink hr)) rfl⟩

/-- Settles O17: the entry that holds the tag is not found, is ACTIVE, or leaves its index free. -/
theorem rosterRemoveFreesTheIndex : Obligations.RosterRemoveFreesTheIndex := by
  unfold Obligations.RosterRemoveFreesTheIndex
  intro tag payload f s htakes hparse
  refine ⟨fun hnone => event_refused htakes (answerRosterRemove_notFound hparse hnone), fun i e he => ?_⟩
  have hheld := answerRosterRemove_held (s := s.took tag 0x21#8) hparse he
  exact ⟨fun hactive => event_refused htakes (hheld.trans (if_pos hactive)),
    fun hinactive => event_answered htakes (hheld.trans (if_neg hinactive)) rfl⟩

/-- Settles O18: an index is checked before its entry, and a tag is looked up; the values are the statement's. -/
theorem rosterReadReportsAnEntry : Obligations.RosterReadReportsAnEntry := by
  unfold Obligations.RosterReadReportsAnEntry
  intro tag payload s htakes
  exact ⟨fun i hparse => ⟨fun hhigh => event_refused htakes (answerRosterRead_outOfRange hparse hhigh),
      fun hlow hnone => event_refused htakes (answerRosterRead_unused hparse hlow hnone),
      fun e hlow he => event_reported htakes (answerRosterRead_at hparse hlow he)⟩,
    fun f hparse => ⟨fun hnone => event_refused htakes (answerRosterRead_unknown hparse hnone),
      fun i e he => event_reported htakes (answerRosterRead_tag hparse he)⟩⟩
end

section
/-! SUPPORT. VERDICT (R90 to R94): the checks of an ADMIT in their order, and what an ADMIT does once it has passed
them. -/

namespace Sys2Proof.Machine

/-! ## The roster values of a new entry (R91) -/

theorem expectedOf_any_iff {n : Nat} : expectedOf n = some .any ↔ n = 255 := by
  by_cases hany : n = 255 <;> simp [expectedOf, hany]

theorem expectedOf_leg_iff {n : Nat} {l : LegId} : expectedOf n = some (.leg l) ↔ n = l.val := by
  by_cases hany : n = 255
  · subst hany
    cases l <;> simp [expectedOf, Quad.val]
  · simp [expectedOf, hany, Quad.ofNat?_eq_some_iff]

section NewEntry

variable {f : VerdictFields} {l : LegId} {leg : ExpectedLeg}

theorem newEntry_malformed (h : f.plot = 0 ∨ f.share = 65535 ∨ f.leg = 254) : f.newEntry l = .error .malformed :=
  if_pos h

theorem newEntry_outOfRange (hpresent : ¬ (f.plot = 0 ∨ f.share = 65535 ∨ f.leg = 254))
    (hbad : ¬ (f.plot ≤ 4095 ∧ f.share ≤ 8000 ∧ f.share % 8 = 0 ∧ (f.leg = l.val ∨ f.leg = 255))) :
    f.newEntry l = .error .outOfRange := by
  have hleg (hvalues : rosterValuesOk f.plot f.share = true) : ¬ (f.leg = l.val ∨ f.leg = 255) := fun h =>
    have ⟨_, hhigh, hshare, heighth⟩ := rosterValuesOk_iff.mp hvalues
    hbad ⟨hhigh, hshare, heighth, h⟩
  rw [VerdictFields.newEntry, if_neg hpresent]
  split
  · next hvalues hany => exact absurd (.inr (expectedOf_any_iff.mp hany)) (hleg hvalues)
  · next l' hvalues hexpected =>
    have hother : l' ≠ l := fun h => hleg hvalues (.inl (h ▸ expectedOf_leg_iff.mp hexpected))
    exact if_neg hother
  · rfl

theorem newEntry_ok (hplot : f.plot ≠ 0) (hhigh : f.plot ≤ 4095) (hshare : f.share ≤ 8000) (heighth : f.share % 8 = 0)
    (hleg : expectedOf f.leg = some leg) (hhere : leg = .any ∨ leg = .leg l) : f.newEntry l = .ok leg := by
  have hvalues := rosterValuesOk_iff.mpr ⟨Nat.pos_of_ne_zero hplot, hhigh, hshare, heighth⟩
  have hpresent : ¬ (f.plot = 0 ∨ f.share = 65535 ∨ f.leg = 254) := by
    rintro (h | h | h)
    · exact hplot h
    · omega
    · cases hleg.symm.trans (expectedOf_eq_none_iff.mpr (by omega))
  rw [VerdictFields.newEntry, if_neg hpresent, hvalues, hleg]
  rcases hhere with rfl | rfl
  · rfl
  · exact if_pos rfl

end NewEntry

/-! ## The checks of an ADMIT (R91) -/

section Check

variable {s : State} {f : VerdictFields} {c : Candidate} {i d : Nat} {e : RosterEntry} {leg : ExpectedLeg}

theorem admitCheck_barred (he : s.rosterEntry f.tag = some (i, e)) (hstate : e.state = .barred) :
    s.admitCheck f c = .error .wrongState := by
  simp only [State.admitCheck, he, if_pos hstate]

theorem admitCheck_held_full (he : s.rosterEntry f.tag = some (i, e)) (hstate : e.state ≠ .barred)
    (hfull : firstFree (s.leg c.leg).drops = none) : s.admitCheck f c = .error .noRoom := by
  simp only [State.admitCheck, he, if_neg hstate, hfull, Bool.false_eq_true, if_false]

theorem admitCheck_held (he : s.rosterEntry f.tag = some (i, e)) (hstate : e.state ≠ .barred)
    (hfree : firstFree (s.leg c.leg).drops = some d) : s.admitCheck f c = .ok (i, e) := by
  simp only [State.admitCheck, he, if_neg hstate, hfree, if_true]

theorem admitCheck_new_refused {reply : ReplyCode} (hnone : s.rosterEntry f.tag = none)
    (hnew : f.newEntry c.leg = .error reply) : s.admitCheck f c = .error reply := by
  simp only [State.admitCheck, hnone, hnew]

theorem admitCheck_new_full (hnone : s.rosterEntry f.tag = none) (hnew : f.newEntry c.leg = .ok leg)
    (hfull : firstFree s.roster = none ∨ firstFree (s.leg c.leg).drops = none) :
    s.admitCheck f c = .error .noRoom := by
  cases hroster : firstFree s.roster with
  | none => simp only [State.admitCheck, hnone, hnew, hroster]
  | some i =>
    have hdrops := hfull.resolve_left (by rw [hroster]; nofun)
    simp only [State.admitCheck, hnone, hnew, hroster, hdrops, Bool.false_eq_true, if_false]

theorem admitCheck_new (hnone : s.rosterEntry f.tag = none) (hnew : f.newEntry c.leg = .ok leg)
    (hroster : firstFree s.roster = some i) (hfree : firstFree (s.leg c.leg).drops = some d) :
    s.admitCheck f c =
      .ok (i, { tag := f.tag, plot := f.plot, expected := leg, share := f.share, state := .expected, link := none,
                lastHeard := none }) := by
  simp only [State.admitCheck, hnone, hnew, hroster, hfree, if_true]

end Check

/-! ## An ADMIT that has passed its checks (R92, R98, R99) -/

section Carry

variable {s : State} {c : Candidate} {i d : Nat} {e g : RosterEntry} {tag : FactoryTag}

theorem RosterEntry.correct_eq (e : RosterEntry) (l : LegId) :
    e.correct l = { e with expected := if e.expected = .any then .any else .leg l } := by
  obtain ⟨tag, plot, expected, share, state, link, lastHeard⟩ := e
  cases expected <;> rfl

theorem State.ended_roster {k : LegId} {n j : Nat} {queue : List QueueEntry} {iface : Interface} :
    (s.ended k n j e queue iface).roster = s.roster.set j (some { e with state := .expected, link := none }) := rfl

theorem State.ended_leg_other {k l : LegId} {n j : Nat} {queue : List QueueEntry} {iface : Interface} (h : l ≠ k) :
    (s.ended k n j e queue iface).leg l = s.leg l :=
  Four.get_set_other _ _ h

theorem supersedeLinked_inactive (hstate : e.state ≠ .active) : s.supersedeLinked e = s := by
  cases h : e.state with
  | active => exact absurd h hstate
  | expected => simp only [State.supersedeLinked, h]
  | barred => simp only [State.supersedeLinked, h]

/-- The record of an ACTIVE entry, in no isolation turn, ends with a Release on its own leg (R92, R98). -/
theorem supersedeLinked_active {k : LegId} {n : Nat} {r : DropRecord} (he : s.rosterAt r.rosterIndex = some e)
    (hstate : e.state = .active) (hlink : e.link = some (k, n)) (hr : s.record k n = some r)
    (hisolated : r.isolated = false) (hdrop : r.ident.drop = n) :
    s.supersedeLinked e =
      s.ended k n r.rosterIndex e (enqueue n (.release n) (some r.ident) (s.leg k).queue)
        (s.iface.place
          (.dropEnded k n r.tag r.plot r.rosterIndex .superseded r.state r.attempts r.misses (s.leg k).count)) := by
  have hsupersede : s.supersedeLinked e = s.endRecord k n .superseded true := by
    simp only [State.supersedeLinked, hstate, hlink]
  have hends := endRecord_holding (queue := (s.leg k).queue) (i := s.iface) (Leg.record_lt hr) hisolated hdrop he
    .superseded
  rwa [State.holding_self hr, ← hsupersede] at hends

/-- The lowest FREE record is allocated from a candidate as from the announce that was held (R85, R92). -/
theorem takeIn_candidate (hfree : firstFree (s.leg c.leg).drops = some d) (hat : s.rosterAt i = some g)
    (htag : e.tag = c.tag) :
    s.takeIn c.leg i e c.r c.launch c.power c.vector =
      { s with
        roster := s.roster.set i (some { g with state := .active, link := some (c.leg, d) }),
        legs := s.legs.set c.leg (admitted (s.leg c.leg) d i e.plot e.share c) } :=
  takeIn_eq (a := { cycle := c.lastHeard, tag := c.tag, holdoff := 0, launch := c.launch, a := 0, p := 0, r := c.r,
                    power := c.power, vector := c.vector }) hfree hat htag

/-- The ADMIT from the state `u` that the correction of the expected leg and the end of a superseded record leave. -/
theorem carryAdmit_eq {u : State}
    (hu : (s.setRosterAt i (some (e.correct c.leg))).supersedeLinked (e.correct c.leg) = u)
    (hfree : firstFree (u.leg c.leg).drops = some d) (hat : u.rosterAt i = some g) (htag : e.tag = c.tag) :
    s.carryAdmit c i e =
      { u with
        roster := u.roster.set i (some { g with state := .active, link := some (c.leg, d) }),
        legs := u.legs.set c.leg (admitted (u.leg c.leg) d i e.plot e.share c),
        candidates := u.candidates.filter fun b => decide (b.tag ≠ c.tag) } := by
  have htakes := takeIn_candidate (e := e.correct c.leg) hfree hat (by rw [RosterEntry.correct_eq, htag])
  rw [State.carryAdmit, hu, htakes, RosterEntry.correct_eq]
  rfl

/-- An entry that is not ACTIVE, in use or new. -/
theorem carryAdmit_inactive (hstate : e.state ≠ .active) (hi : i < s.roster.length)
    (hfree : firstFree (s.leg c.leg).drops = some d) (hctag : c.tag = tag) (htag : e.tag = tag) :
    s.carryAdmit c i e =
      { s with
        roster := s.roster.set i (some
          { e with expected := if e.expected = .any then .any else .leg c.leg,
                   state := .active, link := some (c.leg, d) }),
        legs := s.legs.set c.leg (admitted (s.leg c.leg) d i e.plot e.share c),
        candidates := s.candidates.filter fun b => decide (b.tag ≠ tag) } := by
  have hat := State.setRosterAt_rosterAt_same hi (some (e.correct c.leg))
  have hcorrect : (e.correct c.leg).state ≠ .active := by rwa [RosterEntry.correct_eq]
  rw [carryAdmit_eq (supersedeLinked_inactive hcorrect) hfree hat (htag.trans hctag.symm), hctag,
    State.setRosterAt_roster, List.set_set, RosterEntry.correct_eq]
  rfl

/-- An ACTIVE entry whose record is on another leg and in no isolation turn. -/
theorem carryAdmit_active {k : LegId} {n : Nat} {r : DropRecord} (he : s.rosterAt i = some e)
    (hstate : e.state = .active) (hlink : e.link = some (k, n)) (hr : s.record k n = some r)
    (hindex : r.rosterIndex = i) (hisolated : r.isolated = false) (hdrop : r.ident.drop = n) (hother : k ≠ c.leg)
    (hfree : firstFree (s.leg c.leg).drops = some d) (hctag : c.tag = tag) (htag : e.tag = tag) :
    s.carryAdmit c i e =
      { s with
        roster := s.roster.set i (some
          { e with expected := if e.expected = .any then .any else .leg c.leg,
                   state := .active, link := some (c.leg, d) }),
        legs := (s.legs.set k
            { s.leg k with drops := (s.leg k).drops.set n none,
                           queue := enqueue n (.release n) (some r.ident) (s.leg k).queue }).set
          c.leg (admitted (s.leg c.leg) d i e.plot e.share c),
        candidates := s.candidates.filter fun b => decide (b.tag ≠ tag),
        iface := s.iface.place
          (.dropEnded k n r.tag r.plot r.rosterIndex .superseded r.state r.attempts r.misses (s.leg k).count) } := by
  subst hindex
  have hi := State.rosterAt_lt he
  have hat := State.setRosterAt_rosterAt_same hi (some (e.correct c.leg))
  have hends := supersedeLinked_active (s := s.setRosterAt r.rosterIndex (some (e.correct c.leg))) (k := k) (r := r) hat
    (by rwa [RosterEntry.correct_eq]) (by rwa [RosterEntry.correct_eq]) hr hisolated hdrop
  have hat' := State.setRosterAt_rosterAt_same (s := s.setRosterAt r.rosterIndex (some (e.correct c.leg)))
    (by simpa using hi) (some { e.correct c.leg with state := .expected, link := none })
  rw [carryAdmit_eq hends (by rwa [State.ended_leg_other hother.symm]) hat' (htag.trans hctag.symm), hctag,
    State.ended_leg_other hother.symm, State.ended_roster, List.set_set, State.setRosterAt_roster, List.set_set,
    RosterEntry.correct_eq]
  rfl

end Carry

/-! ## The answer to a VERDICT (R90, R94) -/

section Verdict

variable {s t : State} {payload : List Byte} {f : VerdictFields} {c : Candidate} {i d : Nat} {e g : RosterEntry}

theorem answerVerdict_notFound (hparse : parseVerdict payload = some f) (hnone : s.candidate f.tag = none) :
    answerVerdict payload s = refuse .notFound s := by
  simp only [answerVerdict, parsed_some _ _ hparse, hnone]

theorem answerVerdict_reject (hparse : parseVerdict payload = some f) (hc : s.candidate f.tag = some c)
    (hreject : f.reject = true) :
    answerVerdict payload s = done ((s.dropCandidate f.tag).mapLeg c.leg fun x => x.park f.tag) [] := by
  simp only [answerVerdict, parsed_some _ _ hparse, hc, if_pos hreject]

/-- An ADMIT is refused with the reply of the first check that fails. -/
theorem answerVerdict_refused {reply : ReplyCode} (hparse : parseVerdict payload = some f)
    (hc : s.candidate f.tag = some c) (hadmit : f.reject = false) (hcheck : s.admitCheck f c = .error reply) :
    answerVerdict payload s = refuse reply s := by
  simp only [answerVerdict, parsed_some _ _ hparse, hc, hadmit, hcheck, Bool.false_eq_true, if_false]

/-- An ADMIT that has passed its checks is answered with the index of its entry and the drop that the entry's link
names. -/
theorem answerVerdict_admit {l : LegId} (hparse : parseVerdict payload = some f) (hc : s.candidate f.tag = some c)
    (hadmit : f.reject = false) (hcheck : s.admitCheck f c = .ok (i, e)) (ht : s.carryAdmit c i e = t)
    (hat : t.rosterAt i = some g) (hlink : g.link = some (l, d)) :
    answerVerdict payload s = done t (u16 i ++ u8 d) := by
  simp only [answerVerdict, parsed_some _ _ hparse, hc, hadmit, hcheck, ht, hat, hlink, Bool.false_eq_true, if_false]
  rfl

/-- The answer to an ADMIT for an entry that is not ACTIVE, in use or new. -/
theorem answerVerdict_admit_inactive (hparse : parseVerdict payload = some f) (hc : s.candidate f.tag = some c)
    (hadmit : f.reject = false) (hcheck : s.admitCheck f c = .ok (i, e)) (hstate : e.state ≠ .active)
    (hi : i < s.roster.length) (hfree : firstFree (s.leg c.leg).drops = some d) (htag : e.tag = f.tag) :
    answerVerdict payload s =
      done
        { s with
          roster := s.roster.set i (some
            { e with expected := if e.expected = .any then .any else .leg c.leg,
                     state := .active, link := some (c.leg, d) }),
          legs := s.legs.set c.leg (admitted (s.leg c.leg) d i e.plot e.share c),
          candidates := s.candidates.filter fun b => decide (b.tag ≠ f.tag) }
        (u16 i ++ u8 d) :=
  answerVerdict_admit hparse hc hadmit hcheck (carryAdmit_inactive hstate hi hfree (State.candidate_spec hc).2 htag)
    (State.setRosterAt_rosterAt_same hi _) rfl

/-- The answer to an ADMIT for an ACTIVE entry whose record is on another leg and in no isolation turn. -/
theorem answerVerdict_admit_active {k : LegId} {n : Nat} {r : DropRecord} (hparse : parseVerdict payload = some f)
    (hc : s.candidate f.tag = some c) (hadmit : f.reject = false) (he : s.rosterEntry f.tag = some (i, e))
    (hstate : e.state = .active) (hlink : e.link = some (k, n)) (hr : s.record k n = some r)
    (hindex : r.rosterIndex = i) (hisolated : r.isolated = false) (hdrop : r.ident.drop = n) (hother : k ≠ c.leg)
    (hfree : firstFree (s.leg c.leg).drops = some d) :
    answerVerdict payload s =
      done
        { s with
          roster := s.roster.set i (some
            { e with expected := if e.expected = .any then .any else .leg c.leg,
                     state := .active, link := some (c.leg, d) }),
          legs := (s.legs.set k
              { s.leg k with drops := (s.leg k).drops.set n none,
                             queue := enqueue n (.release n) (some r.ident) (s.leg k).queue }).set
            c.leg (admitted (s.leg c.leg) d i e.plot e.share c),
          candidates := s.candidates.filter fun b => decide (b.tag ≠ f.tag),
          iface := s.iface.place
            (.dropEnded k n r.tag r.plot r.rosterIndex .superseded r.state r.attempts r.misses (s.leg k).count) }
        (u16 i ++ u8 d) := by
  obtain ⟨hat, htag⟩ := State.rosterEntry_spec he
  have hcheck := admitCheck_held (c := c) he (by rw [hstate]; nofun) hfree
  exact answerVerdict_admit hparse hc hadmit hcheck
    (carryAdmit_active hat hstate hlink hr hindex hisolated hdrop hother hfree (State.candidate_spec hc).2 htag)
    (State.setRosterAt_rosterAt_same (State.rosterAt_lt hat) _) rfl

end Verdict

end Sys2Proof.Machine

open Sys2Proof Sys2Proof.Machine

/-- Settles O19: no candidate, a REJECT, and the checks of an ADMIT from the entry's state to the free places. -/
theorem verdictRejectsAndRefuses : Obligations.VerdictRejectsAndRefuses := by
  unfold Obligations.VerdictRejectsAndRefuses
  intro tag payload f s htakes hparse
  refine ⟨fun hnone => event_refused htakes (answerVerdict_notFound hparse hnone),
    fun c hc hreject => event_answered htakes (answerVerdict_reject hparse hc hreject) rfl, fun c hc hadmit => ?_⟩
  have hrefused {reply : ReplyCode} (hcheck : (s.took tag 0x23#8).admitCheck f c = .error reply) :=
    event_refused htakes (answerVerdict_refused hparse hc hadmit hcheck)
  refine ⟨fun i e he hstate => hrefused (admitCheck_barred he hstate),
    fun hnone hcarried => hrefused (admitCheck_new_refused hnone (newEntry_malformed hcarried)),
    fun hnone hplot hshare hleg hbad => ?range, fun hnone hplot hhigh hshare heighth hleg hfull => ?room,
    fun i e he hstate hfull => hrefused (admitCheck_held_full he hstate hfull)⟩
  case range =>
    have hpresent : ¬ (f.plot = 0 ∨ f.share = 65535 ∨ f.leg = 254) := by simp [hplot, hshare, hleg]
    exact hrefused (admitCheck_new_refused hnone (newEntry_outOfRange hpresent hbad))
  case room =>
    rcases hleg with hown | hany
    · have hnew := newEntry_ok hplot hhigh hshare heighth (expectedOf_leg_iff.mpr hown) (.inr rfl)
      exact hrefused (admitCheck_new_full hnone hnew hfull)
    · have hnew := newEntry_ok (l := c.leg) hplot hhigh hshare heighth (expectedOf_any_iff.mpr hany) (.inl rfl)
      exact hrefused (admitCheck_new_full hnone hnew hfull)

/-- Settles O20: the entry that the checks give is in use or new, and an ACTIVE one's record ends first. -/
theorem verdictAdmitAllocatesADrop : Obligations.VerdictAdmitAllocatesADrop := by
  unfold Obligations.VerdictAdmitAllocatesADrop
  intro tag payload f s c d htakes hparse hadmit hc hfree
  refine ⟨fun i e he hstate => ?expected, fun i leg hnone hplot hhigh hshare heighth hleg hhere hroster => ?new,
    fun i e k n r he hstate hlink hr hindex hisolated hdrop hother => ?active⟩
  case expected =>
    obtain ⟨hat, htag⟩ := State.rosterEntry_spec he
    have hcheck := admitCheck_held (s := s.took tag 0x23#8) (c := c) he (by rw [hstate]; nofun) hfree
    exact event_answered htakes (answerVerdict_admit_inactive hparse hc hadmit hcheck (by rw [hstate]; nofun)
      (State.rosterAt_lt hat) hfree htag) rfl
  case new =>
    have hnew := newEntry_ok hplot hhigh hshare heighth hleg hhere
    have hcheck := admitCheck_new (s := s.took tag 0x23#8) hnone hnew hroster hfree
    have hanswer := answerVerdict_admit_inactive (s := s.took tag 0x23#8) hparse hc hadmit hcheck nofun
      (State.rosterAt_of_firstFree hroster).1 hfree rfl
    have hcorrect : (if leg = .any then .any else .leg c.leg) = leg := by
      rcases hhere with rfl | rfl
      · rfl
      · exact if_neg nofun
    simp only [hcorrect] at hanswer
    exact event_answered htakes hanswer rfl
  case active =>
    exact event_answered htakes (answerVerdict_admit_active (s := s.took tag 0x23#8) hparse hc hadmit he hstate hlink hr
      hindex hisolated hdrop hother hfree) (Interface.taken_place _ _ _ _)
end

section
/-! SUPPORT. The statement about CANDIDATE-READ (R95). -/

namespace Sys2Proof.Machine

section CandidateRead

variable {s : State} {payload : List Byte} {pos : Nat} {tag : FactoryTag} {c : Candidate}

theorem Candidate.values_eq_candidateReply (c : Candidate) (pos n : Nat) : c.values pos n = candidateReply pos n c := by
  obtain ⟨tag, leg, reason, r, power, vector, launch, rosterIndex, firstHeard, lastHeard⟩ := c
  cases power <;> cases rosterIndex <;> rfl

/-! ## By list position -/

theorem answerCandidateRead_outOfRange (hparse : parseCandidateKey payload = some (.number pos)) (hhigh : 16 ≤ pos) :
    answerCandidateRead payload s = refuse .outOfRange s := by
  simp only [answerCandidateRead, parsed_some _ _ hparse]
  exact if_pos hhigh

theorem answerCandidateRead_position_none (hparse : parseCandidateKey payload = some (.number pos)) (hlow : pos < 16)
    (hnone : s.candidates[pos]? = none) : answerCandidateRead payload s = refuse .notFound s := by
  simp only [answerCandidateRead, parsed_some _ _ hparse, hnone]
  exact if_neg (Nat.not_le_of_lt hlow)

theorem answerCandidateRead_position (hparse : parseCandidateKey payload = some (.number pos)) (hlow : pos < 16)
    (hc : s.candidates[pos]? = some c) :
    answerCandidateRead payload s = done s (candidateReply pos s.candidates.length c) := by
  simp only [answerCandidateRead, parsed_some _ _ hparse, hc, Candidate.values_eq_candidateReply]
  exact if_neg (Nat.not_le_of_lt hlow)

/-! ## By tag -/

theorem answerCandidateRead_tag_none (hparse : parseCandidateKey payload = some (.tag tag))
    (hnone : ∀ c ∈ s.candidates, c.tag ≠ tag) : answerCandidateRead payload s = refuse .notFound s := by
  have hpast : s.candidates.findIdx (fun c => decide (c.tag = tag)) = s.candidates.length :=
    List.findIdx_eq_length_of_false fun c hc => decide_eq_false (hnone c hc)
  simp only [answerCandidateRead, parsed_some _ _ hparse, hpast, List.getElem?_length]

/-- The first candidate that holds the tag is the one reported. -/
theorem answerCandidateRead_tag (hparse : parseCandidateKey payload = some (.tag tag))
    (hc : s.candidates[pos]? = some c) (htag : c.tag = tag)
    (hfirst : ∀ j b, j < pos → s.candidates[j]? = some b → b.tag ≠ tag) :
    answerCandidateRead payload s = done s (candidateReply pos s.candidates.length c) := by
  obtain ⟨hlt, hat⟩ := List.getElem?_eq_some_iff.mp hc
  have hpos : s.candidates.findIdx (fun c => decide (c.tag = tag)) = pos :=
    (List.findIdx_eq hlt).mpr ⟨decide_eq_true (hat ▸ htag),
      fun j hj => decide_eq_false (hfirst j _ hj (List.getElem?_eq_getElem (hj.trans hlt)))⟩
  simp only [answerCandidateRead, parsed_some _ _ hparse, hpos, hc, Candidate.values_eq_candidateReply]

end CandidateRead

end Sys2Proof.Machine

open Sys2Proof Sys2Proof.Machine

/-- Settles O21: a position is checked before its entry, and a tag names the first entry that holds it. -/
theorem candidateReadReportsAnEntry : Obligations.CandidateReadReportsAnEntry := by
  unfold Obligations.CandidateReadReportsAnEntry
  intro tag payload s htakes
  exact ⟨fun pos hparse => ⟨fun hhigh => event_refused htakes (answerCandidateRead_outOfRange hparse hhigh),
      fun hlow hnone => event_refused htakes (answerCandidateRead_position_none hparse hlow hnone),
      fun c hlow hc => event_reported htakes (answerCandidateRead_position hparse hlow hc)⟩,
    fun f hparse => ⟨fun hnone => event_refused htakes (answerCandidateRead_tag_none hparse hnone),
      fun pos c hc htag hfirst => event_reported htakes (answerCandidateRead_tag hparse hc htag hfirst)⟩⟩
end

section
/-! SUPPORT. The statement about the end of the RESET reply (R173 to R175). -/

namespace Sys2Proof.Machine

/-- The RESET reply sent with its reset pending resets the part, which then leaves reset (R173). -/
theorem State.sent_reset {s : State} {x : Sending} {r : Reply} (hline : s.iface.lineOut = some x)
    (hreply : x.frame = .reply r) (hrequest : r.request = 0x02#8) (hdone : r.code = .done)
    (hpending : s.iface.resetPending = true) (railMv : Nat) :
    s.sent railMv = s.requestReset.leaveReset .request railMv := by
  have hsent : s.iface.resetSent r = true := by simp [Interface.resetSent, hpending, hrequest, hdone]
  simp only [State.sent, hline, hreply, hsent, if_true]

/-- READY begins transmission as the part leaves reset, so the arbiter has nothing left to do (R170, R175). -/
theorem State.leaveReset_arbitrate (blocks : State) (cause : ResetCause) (railMv : Nat) :
    (blocks.leaveReset cause railMv).arbitrate =
      { blocks with
        iface := { Interface.reset with cause := cause, lineOut := some ⟨.notice (.ready cause), false⟩ },
        rail := railAt cause railMv, inReset := none } := rfl

end Sys2Proof.Machine

open Sys2Proof Sys2Proof.Machine

/-- Settles O34: the RESET reply sent is the request reset, and READY is on the line as the part leaves it. -/
theorem aRequestedResetKeepsTheHostsTables : Obligations.ARequestedResetKeepsTheHostsTables := by
  unfold Obligations.ARequestedResetKeepsTheHostsTables
  intro railMv s x r hreset hline hreply hrequest hdone hpending
  have hsent := event_alive (fun s => s.sent railMv) hreset
  rw [State.sent_reset hline hreply hrequest hdone hpending, State.leaveReset_arbitrate] at hsent
  exact hsent
end

section
/-! SUPPORT. The operand forms read back from the bytes they are written as (R177). -/

namespace Sys2Proof.Machine

/-! ## Field codings -/

theorem toNat_byte {n : Nat} (h : n < 256) : (BitVec.ofNat 8 n).toNat = n :=
  Nat.mod_eq_of_lt h

theorem num16_bytes {n : Nat} (h : n < 65536) : num16 (BitVec.ofNat 8 (n / 256)) (BitVec.ofNat 8 n) = n := by
  simp only [num16, BitVec.toNat_ofNat]
  omega

theorem num32_bytes {n : Nat} (h : n < 4294967296) :
    num32 (BitVec.ofNat 8 (n / 16777216)) (BitVec.ofNat 8 (n / 65536)) (BitVec.ofNat 8 (n / 256)) (BitVec.ofNat 8 n) =
      n := by
  simp only [num32, num16, BitVec.toNat_ofNat]
  omega

/-- The two bytes of a 16-bit word join to the word. -/
theorem append_bytes16 (x : BitVec 16) : BitVec.ofNat 8 (x.toNat / 256) ++ BitVec.ofNat 8 x.toNat = x := by
  have hhigh : BitVec.ofNat 8 (x.toNat / 256) = x.extractLsb' 8 8 := by
    rw [BitVec.extractLsb', Nat.shiftRight_eq_div_pow]
  have hlow : BitVec.ofNat 8 x.toNat = x.extractLsb' 0 8 := by
    rw [BitVec.extractLsb', Nat.shiftRight_zero]
  rw [hhigh, hlow]
  exact (BitVec.extractLsb'_append_extractLsb'_eq_extractLsb' (start₁ := 0) (len₁ := 8) rfl).trans
    BitVec.extractLsb'_eq_self

theorem signed16_bytes {v : Int} (hlow : -32768 ≤ v) (hhigh : v < 32768) :
    signed16 (BitVec.ofNat 8 ((BitVec.ofInt 16 v).toNat / 256)) (BitVec.ofNat 8 (BitVec.ofInt 16 v).toNat) = v := by
  rw [signed16, append_bytes16]
  exact BitVec.toInt_ofInt_eq_self (by decide) hlow hhigh

theorem choiceOf_flag (b : Bool) : choiceOf (BitVec.ofNat 8 (if b then 1 else 0)) = some b := by
  cases b <;> rfl

theorem choiceOf_policyNo (p : UnknownPolicy) : (choiceOf (BitVec.ofNat 8 (policyNo p))).map policyOf = some p := by
  cases p <;> rfl

/-- A set of attributes is one byte, which reads back as the set. -/
theorem attrByte_eq (a : AttrSet) : ∃ b, attrByte a = [b] ∧ attrOf b = some a := by
  refine ⟨_, rfl, ?_⟩
  obtain ⟨outOfBand, unsampled, overRange, underRange, weak, strong, crowded⟩ := a
  revert outOfBand unsampled overRange underRange weak strong crowded
  decide

theorem tagOf_bytes (t : FactoryTag) :
    tagOf (t.maker.extractLsb' 24 8) (t.maker.extractLsb' 16 8) (t.maker.extractLsb' 8 8) (t.maker.extractLsb' 0 8)
      (t.unit.extractLsb' 24 8) (t.unit.extractLsb' 16 8) (t.unit.extractLsb' 8 8) (t.unit.extractLsb' 0 8) = t := by
  rw [tagOf, append_bytes, append_bytes]

/-! ## Requests about a leg or a drop -/

theorem parseLegMuster_bytes (f : LegMusterFields) (hleg : f.leg < 256) :
    parseLegMuster (legMusterBytes f) = some f := by
  simp [parseLegMuster, legMusterBytes, u8, flagByte, choiceOf_flag, toNat_byte hleg]

theorem parseHold_bytes (f : HoldFields) (hleg : f.leg < 256) (hlength : f.length < 65536) :
    parseHold (holdBytes f) = some f := by
  simp only [parseHold, holdBytes, u8, u16, List.cons_append, List.nil_append, toNat_byte hleg, num16_bytes hlength]

theorem parseDrop_bytes (f : DropFields) (hleg : f.leg < 256) (hdrop : f.drop < 256) :
    parseDrop (dropBytes f) = some f := by
  simp only [parseDrop, dropBytes, u8, List.cons_append, List.nil_append, toNat_byte hleg, toNat_byte hdrop]

theorem parseSetup_bytes (f : SetupFields) (hleg : f.leg < 256) (hnear : f.near < 256) (hfar : f.far < 256)
    (hz : f.zEntered < 4294967296) (htrim : f.trim < 65536) (hinterval : f.interval < 65536)
    (hechoes : f.maxEchoes < 256) (hrange : f.announceRange < 256) : parseSetup (setupBytes f) = some f := by
  obtain ⟨mask, hmask, hmaskOf⟩ := attrByte_eq f.mask
  obtain ⟨matched, hmatched, hmatchedOf⟩ := attrByte_eq f.matchSet
  obtain ⟨discard, hdiscard, hpolicy⟩ := Option.map_eq_some_iff.mp (choiceOf_policyNo f.policy)
  simp only [parseSetup, setupBytes, u8, u16, u32, flagByte, hmask, hmatched, List.cons_append, List.nil_append,
    hmaskOf, hmatchedOf, hdiscard, hpolicy, choiceOf_flag, toNat_byte hleg, toNat_byte hnear, toNat_byte hfar,
    num32_bytes hz, num16_bytes htrim, num16_bytes hinterval, toNat_byte hechoes, toNat_byte hrange]

/-! ## Requests about the roster and the candidates -/

theorem parseRosterPut_bytes (f : RosterPutFields) (hplot : f.plot < 65536) (hleg : f.leg < 256)
    (hshare : f.share < 65536) : parseRosterPut (rosterPutBytes f) = some f := by
  simp [parseRosterPut, rosterPutBytes, tagBytes, u8, u16, flagByte, tagOf_bytes, choiceOf_flag, num16_bytes hplot,
    toNat_byte hleg, num16_bytes hshare]

theorem parseTag_bytes (t : FactoryTag) : parseTag (tagBytes t) = some t :=
  congrArg some (tagOf_bytes t)

theorem parseRosterKey_tag (t : FactoryTag) : parseRosterKey (rosterKeyBytes (.tag t)) = some (.tag t) :=
  congrArg (Option.map EntryKey.tag) (parseTag_bytes t)

theorem parseCandidateKey_tag (t : FactoryTag) : parseCandidateKey (candidateKeyBytes (.tag t)) = some (.tag t) :=
  congrArg (Option.map EntryKey.tag) (parseTag_bytes t)

theorem parseRosterKey_number {n : Nat} (h : n < 65536) :
    parseRosterKey (rosterKeyBytes (.number n)) = some (.number n) :=
  congrArg (fun m => some (EntryKey.number m)) (num16_bytes h)

theorem parseCandidateKey_number {n : Nat} (h : n < 256) :
    parseCandidateKey (candidateKeyBytes (.number n)) = some (.number n) :=
  congrArg (fun m => some (EntryKey.number m)) (toNat_byte h)

theorem parseVerdict_bytes (f : VerdictFields) (hplot : f.plot < 65536) (hshare : f.share < 65536)
    (hleg : f.leg < 256) : parseVerdict (verdictBytes f) = some f := by
  simp [parseVerdict, verdictBytes, tagBytes, u8, u16, flagByte, tagOf_bytes, choiceOf_flag, num16_bytes hplot,
    num16_bytes hshare, toNat_byte hleg]

/-! ## Activation parameters and calibration tables -/

theorem parseActivation_bytes (f : ActivationFields) (hstreak : f.streak < 256) (hinterval : f.interval < 256)
    (hmiss : f.missLim < 256) (hfloor : -32768 ≤ f.floor ∧ f.floor < 32768)
    (hceiling : -32768 ≤ f.ceiling ∧ f.ceiling < 32768) (htimeout : f.timeout < 65536) :
    parseActivation (activationBytes f) = some f := by
  simp only [parseActivation, activationBytes, u8, i16, u16, List.cons_append, List.nil_append, toNat_byte hstreak,
    toNat_byte hinterval, toNat_byte hmiss, signed16_bytes hfloor.1 hfloor.2, signed16_bytes hceiling.1 hceiling.2,
    num16_bytes htimeout]

theorem signedPairs_bytes {vs : List Int} (h : ∀ v ∈ vs, -32768 ≤ v ∧ v < 32768) :
    signedPairs (vs.flatMap i16) = some vs := by
  induction vs with
  | nil => rfl
  | cons v vs ih =>
    obtain ⟨⟨hlow, hhigh⟩, hrest⟩ := List.forall_mem_cons.mp h
    simp only [List.flatMap_cons, i16, u16, List.cons_append, List.nil_append, signedPairs, signed16_bytes hlow hhigh]
    exact congrArg (Option.map (List.cons v)) (ih hrest)

theorem parseCalLoad_bytes (f : CalLoadFields) (hrange : f.range < 256) (hlength : f.values.length = 9)
    (hvalues : ∀ v ∈ f.values, -32768 ≤ v ∧ v < 32768) : parseCalLoad (calLoadBytes f) = some f := by
  have hbytes : (f.values.flatMap i16).length = 18 := by
    simp [List.length_flatMap, i16, u16, hlength]
  simp only [parseCalLoad, calLoadBytes, u8, List.cons_append, List.nil_append, if_pos hbytes,
    signedPairs_bytes hvalues, Option.map_some, toNat_byte hrange]

end Sys2Proof.Machine

open Sys2Proof Sys2Proof.Machine

/-- Settles O55: each form's bytes read back, field by field. -/
theorem requestPayloadsRoundTrip : Obligations.RequestPayloadsRoundTrip := by
  unfold Obligations.RequestPayloadsRoundTrip
  exact ⟨parseLegMuster_bytes, parseHold_bytes, parseSetup_bytes, parseRosterPut_bytes,
    fun t => ⟨parseTag_bytes t, parseRosterKey_tag t, parseCandidateKey_tag t⟩, fun _ => parseRosterKey_number,
    fun _ => parseCandidateKey_number, parseVerdict_bytes,
    fun f hstreak hinterval hmiss hlow hhigh hlow' hhigh' =>
      parseActivation_bytes f hstreak hinterval hmiss ⟨hlow, hhigh⟩ ⟨hlow', hhigh'⟩,
    parseDrop_bytes, parseCalLoad_bytes⟩
end

section
/-! SUPPORT. The requests about the activation parameters and drop records (R114, R115, R117, R120 to R122), each answer
by the case of its rule. -/

namespace Sys2Proof.Machine

section Activation

variable {s : State} {payload : List Byte} {f : ActivationFields}

/-! ## SET-ACTIVATION (R120) -/

theorem ActivationFields.ok_iff :
    f.ok = true ↔ 4 ≤ f.streak ∧ f.streak ≤ 64 ∧ 1 ≤ f.interval ∧ f.interval ≤ 64 ∧ 1 ≤ f.missLim ∧ f.missLim ≤ 16 ∧
      -500 ≤ f.floor ∧ f.floor < f.ceiling ∧ f.ceiling ≤ 100 ∧ 400 ≤ f.timeout ∧ f.timeout ≤ 40000 := by
  simp only [ActivationFields.ok, Bool.and_eq_true, decide_eq_true_eq, and_assoc]

theorem any_started_iff : (Quad.all.any fun l => (s.leg l).started) = true ↔ ∃ l, (s.leg l).state ≠ .stopped := by
  simp only [List.any_eq_true, mem_quad_all, true_and, Leg.started_iff]

theorem answerSetActivation_started (hparse : parseActivation payload = some f)
    (hstarted : ∃ l, (s.leg l).state ≠ .stopped) : answerSetActivation payload s = refuse .wrongState s := by
  rw [answerSetActivation, parsed_some _ _ hparse, if_pos (any_started_iff.mpr hstarted)]

theorem answerSetActivation_stopped (hparse : parseActivation payload = some f)
    (hstopped : ∀ l, (s.leg l).state = .stopped) :
    answerSetActivation payload s =
      if f.ok then done (s.setParams f.params) [] else refuse .outOfRange s := by
  have hnone : ¬ ∃ l, (s.leg l).state ≠ .stopped := by simpa using hstopped
  rw [answerSetActivation, parsed_some _ _ hparse, if_neg (mt any_started_iff.mp hnone)]

end Activation

section Drop

variable {s : State} {payload : List Byte} {f : DropFields} {l : LegId} {r : DropRecord}

/-! ## The drop that a request names -/

theorem withDrop_outOfRange (h : Quad.ofNat? f.leg = none ∨ 64 ≤ f.drop) (act : LegId → Nat → State → Answer)
    (s : State) : withDrop f act s = refuse .outOfRange s := by
  cases hleg : Quad.ofNat? f.leg with
  | none => rw [withDrop, withLeg_none hleg]
  | some l =>
    have hdrop : ¬ f.drop < Config.dropsPerLeg := Nat.not_lt_of_le (h.resolve_left (by simp [hleg]))
    rw [withDrop, withLeg_some hleg, if_neg hdrop]

theorem withDrop_some (hleg : Quad.ofNat? f.leg = some l) (hdrop : f.drop < 64) (act : LegId → Nat → State → Answer)
    (s : State) : withDrop f act s = act l f.drop s := by
  rw [withDrop, withLeg_some hleg]
  exact if_pos hdrop

/-- A request about a drop that is out of range is refused before its record is looked at. -/
theorem parsed_withDrop_outOfRange (hparse : parseDrop payload = some f)
    (h : Quad.ofNat? f.leg = none ∨ 64 ≤ f.drop) (act : LegId → Nat → State → Answer) (s : State) :
    parsed parseDrop (fun f => withDrop f act) payload s = refuse .outOfRange s := by
  rw [parsed_some _ _ hparse, withDrop_outOfRange h]

theorem answerDropRead_outOfRange (hparse : parseDrop payload = some f)
    (h : Quad.ofNat? f.leg = none ∨ 64 ≤ f.drop) : answerDropRead payload s = refuse .outOfRange s := by
  rw [answerDropRead, parsed_withDrop_outOfRange hparse h]

/-- A live record's values one after another, behind the values that every record has (R122). -/
theorem DropRecord.values_after (r : DropRecord) (front : List Byte) :
    front ++ 1#8 :: r.values =
      front ++ [1#8]
        ++ u32 r.ident.cycle.toNat ++ u32 r.ident.count.toNat
        ++ tagBytes r.tag ++ u16 r.rosterIndex ++ u16 r.plot ++ u16 r.share
        ++ u32 r.r ++ u16 (r.r / 25) ++ u32 r.e ++ inFlightBytes r.offsetField ++ inFlightBytes r.launchField
        ++ u8 r.launch.val ++ optByte (r.reported.map fun p => p.1.val)
        ++ optPowerBytes (r.reported.map Prod.snd) ++ u8 r.hint.val ++ optPowerBytes r.lastPower
        ++ flagsByte r.flags ++ attrByte r.vector
        ++ u8 r.attempts ++ u8 r.echoes ++ u8 r.adjustments ++ u8 r.unmeasured ++ u8 r.streak ++ u8 r.misses
        ++ u8 r.silentRun ++ optCycleBytes r.echoDue ++ [r.echoSeq] ++ i16 r.lastDrift
        ++ optByte (r.resumeTo.map dropStateNo) ++ flagByte r.isolated ++ optCycleBytes r.lastSample
        ++ optCycleBytes r.enrolTx ++ optCycleBytes r.silenceTx ++ optCycleBytes r.resumeTx := by
  delta DropRecord.values
  rw [List.append_cons]
  simp only [← List.append_assoc]
  rfl

/-- A record that moves, with a directive for its drop queued. -/
theorem State.setRecord_direct {d : Nat} (hr : s.record l d = some r) (hdrop : r.ident.drop = d) (r' : DropRecord)
    (new : Directive) :
    (s.setRecord l d (some r')).direct l new r.ident =
      s.holding l d (some r') (enqueue d new (some r.ident) (s.leg l).queue) s.iface := by
  have hself := State.holding_self hr
  rw [← hself, State.holding_setRecord, State.holding_direct, hself, hdrop]

section Named

variable (hparse : parseDrop payload = some f) (hleg : Quad.ofNat? f.leg = some l) (hlt : f.drop < 64)
include hparse hleg hlt

/-! ## DROP-SILENCE and DROP-RESUME (R114, R115) -/

theorem answerDropSilence_refused
    (h : s.record l f.drop = none ∨ ∃ r, s.record l f.drop = some r ∧ r.state = .silenced) :
    answerDropSilence payload s = refuse .wrongState s := by
  rw [answerDropSilence, parsed_some _ _ hparse, withDrop_some hleg hlt]
  rcases h with hnone | ⟨r, hr, hstate⟩
  · rw [hnone]
  · rw [hr]
    exact if_pos hstate

theorem answerDropSilence_live (hr : s.record l f.drop = some r) (hstate : r.state ≠ .silenced)
    (hdrop : r.ident.drop = f.drop) :
    answerDropSilence payload s =
      done (s.holding l f.drop (some { r with state := .silenced, resumeTo := some r.state })
        (enqueue f.drop (.silence f.drop) (some r.ident) (s.leg l).queue) s.iface) [] := by
  rw [← State.setRecord_direct hr hdrop, answerDropSilence, parsed_some _ _ hparse, withDrop_some hleg hlt, hr]
  exact if_neg hstate

theorem answerDropResume_refused
    (h : s.record l f.drop = none ∨ ∃ r, s.record l f.drop = some r ∧ (r.state ≠ .silenced ∨ r.isolated = true)) :
    answerDropResume payload s = refuse .wrongState s := by
  rw [answerDropResume, parsed_some _ _ hparse, withDrop_some hleg hlt]
  rcases h with hnone | ⟨r, hr, hbad⟩
  · rw [hnone]
  · rw [hr]
    dsimp only
    split
    · next hstate _ hisolated =>
      rcases hbad with hlive | hturn
      · exact absurd hstate hlive
      · cases hturn.symm.trans hisolated
    · rfl

theorem answerDropResume_silenced {st : DropState} (hr : s.record l f.drop = some r) (hstate : r.state = .silenced)
    (hisolated : r.isolated = false) (hto : r.resumeTo = some st) (hdrop : r.ident.drop = f.drop) :
    answerDropResume payload s =
      done (s.holding l f.drop (some { r with state := st, resumeTo := none })
        (enqueue f.drop (.resume f.drop) (some r.ident) (s.leg l).queue) s.iface) [] := by
  rw [← State.setRecord_direct hr hdrop, answerDropResume, parsed_some _ _ hparse, withDrop_some hleg hlt, hr]
  simp only [hstate, hto, hisolated]

/-! ## DROP-RETIRE and DROP-READ (R117, R122) -/

theorem answerDropRetire_free (hnone : s.record l f.drop = none) :
    answerDropRetire payload s = refuse .wrongState s := by
  rw [answerDropRetire, parsed_some _ _ hparse, withDrop_some hleg hlt, hnone]

theorem answerDropRetire_live (hr : s.record l f.drop = some r) :
    answerDropRetire payload s = done (s.endRecord l f.drop .retired true) [] := by
  rw [answerDropRetire, parsed_some _ _ hparse, withDrop_some hleg hlt, hr]

theorem answerDropRead_free (hnone : s.record l f.drop = none) :
    answerDropRead payload s = done s (u32 (s.leg l).count.toNat ++ u8 f.drop ++ [0#8, 0#8]) := by
  rw [answerDropRead, parsed_some _ _ hparse, withDrop_some hleg hlt, hnone]
  exact congrArg (done s) (List.append_assoc ..)

theorem answerDropRead_live (hr : s.record l f.drop = some r) :
    answerDropRead payload s =
      done s (u32 (s.leg l).count.toNat ++ u8 f.drop ++ u8 (dropStateNo r.state) ++ 1#8 :: r.values) := by
  rw [answerDropRead, parsed_some _ _ hparse, withDrop_some hleg hlt, hr]
  rfl

end Named

end Drop

/-! ## The ending of a record with a Release (R98, R163) -/

section Released

variable {s : State} {l : LegId} {d : Nat} {r : DropRecord} {e : RosterEntry}

theorem State.unlink_roster {i : Nat} (he : s.rosterAt i = some e) :
    (s.unlink i).roster = s.roster.set i (some { e with state := .expected, link := none }) := by
  rw [State.unlink, he]
  rfl

/-- The state in which a record has ended with a Release, before an isolation turn it was in is skipped. -/
def State.afterRelease (s : State) (l : LegId) (d : Nat) (r : DropRecord) (e : RosterEntry) (reason : EndReason) :
    State :=
  (s.setRosterAt r.rosterIndex (some { e with state := .expected, link := none })).turned l ((s.leg l).drops.set d none)
    (enqueue d (.release d) (some r.ident) (s.leg l).queue) (s.leg l).run
    (s.iface.place (.dropEnded l d r.tag r.plot r.rosterIndex reason r.state r.attempts r.misses (s.leg l).count))

theorem endRecord_released (hr : s.record l d = some r) (hdrop : r.ident.drop = d)
    (he : s.rosterAt r.rosterIndex = some e) (reason : EndReason) :
    s.endRecord l d reason true =
      if r.isolated then (s.afterRelease l d r e reason).nextTurn l else s.afterRelease l d r e reason := by
  have hself := (s.setRosterAt r.rosterIndex (some { e with state := .expected, link := none })).turned_self l
  rw [State.endRecord, hr]
  dsimp only
  rw [State.unlink, he]
  dsimp only
  rw [if_pos rfl, ← hself, State.turned_direct, State.turned_setRecord, State.turned_notify, State.turned_leg, hdrop]
  rfl

/-- An isolation run that moves on touches its leg's drop table, directive queue and run, and the interface. -/
theorem turned_beginTurn (run : IsolationRun) (ts : List Identity) (pos : Nat) (drops : List (Option DropRecord))
    (queue : List QueueEntry) (run' : Option IsolationRun) (i : Interface) :
    ∃ drops' queue' run'' i',
      beginTurn l run ts pos (s.turned l drops queue run' i) = s.turned l drops' queue' run'' i' := by
  induction ts generalizing pos with
  | nil =>
    rw [beginTurn, State.endRun]
    split
    · exact ⟨_, _, _, _, rfl⟩
    · exact ⟨_, _, _, _, by rw [State.turned_setRun, State.turned_notify]⟩
  | cons t ts ih =>
    rw [beginTurn]
    split
    · exact ih (pos + 1)
    · split
      · dsimp only
        exact ⟨_, _, _, _, by rw [State.turned_setRecord, State.turned_setRun, State.turned_direct]⟩
      · exact ih (pos + 1)

theorem turned_nextTurn (drops : List (Option DropRecord)) (queue : List QueueEntry) (run : Option IsolationRun)
    (i : Interface) :
    ∃ drops' queue' run' i', (s.turned l drops queue run i).nextTurn l = s.turned l drops' queue' run' i' := by
  rw [State.nextTurn]
  split
  · exact ⟨_, _, _, _, rfl⟩
  · exact turned_beginTurn ..

section Ends

variable (hr : s.record l d = some r) (hdrop : r.ident.drop = d) (he : s.rosterAt r.rosterIndex = some e)
  (reason : EndReason)
include hr hdrop he

/-- A record that ends with a Release touches the roster, its own leg and the interface, and nothing of the Level Meter,
the candidates or the bias. -/
theorem endRecord_released_frame :
    (s.endRecord l d reason true).meter = s.meter ∧ (s.endRecord l d reason true).candidates = s.candidates ∧
      (s.endRecord l d reason true).bias = s.bias ∧
      ∀ k, k ≠ l → (s.endRecord l d reason true).leg k = s.leg k := by
  obtain ⟨drops, queue, run, i, hended⟩ : ∃ drops queue run i, s.endRecord l d reason true =
      (s.setRosterAt r.rosterIndex (some { e with state := .expected, link := none })).turned l drops queue run i := by
    rw [endRecord_released hr hdrop he]
    split
    · exact turned_nextTurn ..
    · exact ⟨_, _, _, _, rfl⟩
  rw [hended]
  exact ⟨rfl, rfl, rfl, fun k hk => Four.get_set_other _ _ hk⟩

section Run

variable {run : IsolationRun} {skipped : List Identity} (hturn : r.isolated = true) (hrun : (s.leg l).run = some run)
  (hpassed : ∀ t ∈ skipped, PassedOver (s.leg l) d t)
include hturn hrun hpassed

/-- With every candidate left passed over, the run of a record that ends in its turn ends NONE. -/
theorem endRecord_released_last (hleft : run.list.drop (run.pos + 1) = skipped) :
    s.endRecord l d reason true =
      (s.setRosterAt r.rosterIndex (some { e with state := .expected, link := none })).turned l
        ((s.leg l).drops.set d none) (enqueue d (.release d) (some r.ident) (s.leg l).queue) none
        ((s.iface.place
          (.dropEnded l d r.tag r.plot r.rosterIndex reason r.state r.attempts r.misses (s.leg l).count)).place
          (.isolationDone l .none none none run.begun (s.leg l).count)) := by
  rw [endRecord_released hr hdrop he, if_pos hturn, State.afterRelease, hrun,
    turned_nextTurn_none hleft fun t ht => skips_of_passedOver hr (hpassed t ht)]
  rfl

/-- The first candidate left that is not passed over begins its turn as a record ends in its own. -/
theorem endRecord_released_next {u : DropRecord} {more : List Identity}
    (hleft : run.list.drop (run.pos + 1) = skipped ++ u.ident :: more) (hother : u.ident.drop ≠ d)
    (hu : s.record l u.ident.drop = some u) (hlive : u.state ≠ .silenced) :
    s.endRecord l d reason true =
      (s.setRosterAt r.rosterIndex (some { e with state := .expected, link := none })).turned l
        (((s.leg l).drops.set d none).set u.ident.drop (some { u with isolated := true }))
        (enqueue u.ident.drop (.silence u.ident.drop) (some u.ident)
          (enqueue d (.release d) (some r.ident) (s.leg l).queue))
        (some
          { run with pos := run.pos + 1 + skipped.length, begun := run.begun + 1, phase := .silenceQueued,
                     silence := none, clean := 0 })
        (s.iface.place
          (.dropEnded l d r.tag r.plot r.rosterIndex reason r.state r.attempts r.misses (s.leg l).count)) := by
  have hu' : ((s.leg l).drops.set d none)[u.ident.drop]?.join = some u := by
    rw [List.getElem?_set_ne (Ne.symm hother)]
    exact hu
  rw [endRecord_released hr hdrop he, if_pos hturn, State.afterRelease, hrun,
    turned_nextTurn_some hleft (fun t ht => skips_of_passedOver hr (hpassed t ht)) hu' hlive]

end Run

end Ends

end Released

end Sys2Proof.Machine

open Sys2Proof Sys2Proof.Machine

/-- Settles O23: the six values are read in the state as it stands. -/
theorem activationReadReturnsTheSix : Obligations.ActivationReadReturnsTheSix := by
  unfold Obligations.ActivationReadReturnsTheSix
  intro tag s htakes
  exact event_reported htakes rfl

/-- Settles O22: the legs are looked at before the values. -/
theorem setActivationReplacesTheSix : Obligations.SetActivationReplacesTheSix := by
  unfold Obligations.SetActivationReplacesTheSix
  intro tag payload f s htakes hparse
  refine ⟨fun hstarted => event_refused htakes (answerSetActivation_started hparse hstarted), fun hstopped => ?_⟩
  have hanswer := answerSetActivation_stopped (s := s.took tag 0x30#8) hparse hstopped
  exact ⟨fun hbad => event_refused htakes (hanswer.trans (if_neg (mt ActivationFields.ok_iff.mp hbad))),
    fun hgood => event_answered htakes (hanswer.trans (if_pos (ActivationFields.ok_iff.mpr hgood))) rfl⟩

/-- Settles O24: the drop's range, then what the record's state and isolation allow. -/
theorem silenceAndResumeMoveARecord : Obligations.SilenceAndResumeMoveARecord := by
  unfold Obligations.SilenceAndResumeMoveARecord
  refine ⟨fun tag payload f s htakes hparse hbad =>
      ⟨event_refused htakes (parsed_withDrop_outOfRange hparse hbad _ _),
        event_refused htakes (parsed_withDrop_outOfRange hparse hbad _ _)⟩,
    fun tag payload f l s htakes hparse hleg hlt => ⟨fun h => ?_, fun r hr hdrop hstate => ?_, fun h => ?_,
      fun r st hr hdrop hstate hisolated hto => ?_⟩⟩
  · exact event_refused htakes (answerDropSilence_refused hparse hleg hlt h)
  · exact event_answered htakes (answerDropSilence_live hparse hleg hlt hr hstate hdrop) rfl
  · exact event_refused htakes (answerDropResume_refused hparse hleg hlt h)
  · exact event_answered htakes (answerDropResume_silenced hparse hleg hlt hr hstate hisolated hto hdrop) rfl

/-- Settles O25: the record has ended whole before the run that its turn was of moves on. -/
theorem dropRetireEndsARecord : Obligations.DropRetireEndsARecord := by
  unfold Obligations.DropRetireEndsARecord
  refine ⟨fun tag payload f s htakes hparse hbad => event_refused htakes (parsed_withDrop_outOfRange hparse hbad _ _),
    fun tag payload f l s htakes hparse hleg hlt =>
      ⟨fun hnone => event_refused htakes (answerDropRetire_free hparse hleg hlt hnone), fun r e hr hdrop he => ?_⟩⟩
  have hretire := answerDropRetire_live (s := s.took tag 0x34#8) hparse hleg hlt hr
  have hnotice (n m : Notice) : (((s.took tag 0x34#8).iface.place n).place m) =
      ((s.iface.place n).place m).taken tag 0x34#8 := by
    rw [show (s.took tag 0x34#8).iface = s.iface.taken tag 0x34#8 from rfl, Interface.taken_place,
      Interface.taken_place]
  refine ⟨fun hfree => ?free, fun hturn => ?turn, fun run skipped rest hturn hrun hleft hpassed =>
    ⟨fun hrest => ?last, fun u n more hrest hn hother hu hlive => ?next⟩⟩
  case free =>
    rw [endRecord_released (s := s.took tag 0x34#8) hr hdrop he, if_neg (by rw [hfree]; nofun)] at hretire
    exact event_answered htakes hretire (Interface.taken_place _ _ _ _)
  case turn =>
    obtain ⟨hmeter, hcandidates, hbias, hothers⟩ :=
      endRecord_released_frame (s := s.took tag 0x34#8) hr hdrop he .retired
    refine ⟨_, event_request tag 0x34#8 (answerDropRetire payload) htakes, ?_⟩
    rw [hretire]
    exact ⟨(s.took tag 0x34#8).endRecord_free l .retired true (.inl rfl),
      (State.endRecord_roster (s := s.took tag 0x34#8) hr .retired true).trans (State.unlink_roster he),
      hothers, hmeter, hcandidates, hbias⟩
  case last =>
    rw [hrest, List.append_nil] at hleft
    rw [endRecord_released_last (s := s.took tag 0x34#8) hr hdrop he _ hturn hrun hpassed hleft] at hretire
    exact event_answered htakes hretire (hnotice _ _)
  case next =>
    subst hn
    rw [hrest] at hleft
    rw [endRecord_released_next (s := s.took tag 0x34#8) hr hdrop he _ hturn hrun hpassed hleft hother hu hlive]
      at hretire
    exact event_answered htakes hretire (Interface.taken_place _ _ _ _)

/-- Settles O26: the drop's range, then the values of its record, FREE or not. -/
theorem dropReadReportsARecord : Obligations.DropReadReportsARecord := by
  unfold Obligations.DropReadReportsARecord
  intro tag payload f s htakes hparse
  refine ⟨fun hbad => event_refused htakes (answerDropRead_outOfRange hparse hbad), fun l hleg hlt =>
    ⟨fun hnone => event_reported htakes (answerDropRead_free hparse hleg hlt hnone), fun r hr => ?_⟩⟩
  have hanswer := answerDropRead_live (s := s.took tag 0x35#8) hparse hleg hlt hr
  rw [DropRecord.values_after] at hanswer
  exact event_reported htakes hanswer
end

section
/-! SUPPORT. The power result of a burst whose verdict has come (R101 to R103, R107, R108, R112), on the record that it
completes an entry of. -/

namespace Sys2Proof.Machine

/-- A power value is not beyond both ends of its range. -/
theorem powerIs_oneEnd {code o : Nat} {table : List Int} {v : Int} {high low : Bool}
    (h : PowerIs code o table v high low) : high = false ∨ low = false := by
  rcases h with ⟨-, -, -, hlow⟩ | ⟨-, -, -, hhigh, -⟩ | ⟨-, -, hhigh, -⟩
  · exact .inr hlow
  · exact .inl hhigh
  · exact .inl hhigh

/-- An outcome whose verdict has come completes its entry, which is taken out and taken (R101). -/
theorem deliverOutcome_completes {s : State} {l : LegId} {ident : Identity} {r : DropRecord} {grant : Cycle}
    {m : Measure} {verdict : BurstVerdict} (hr : s.record l ident.drop = some r) (hi : r.ident = ident)
    (hm : r.measure grant = some m) (hverdict : m.verdict = some verdict) (o : PowerOutcome) :
    s.deliverOutcome l ident grant o =
      (s.holding l ident.drop (some (r.dropMeasure grant)) (s.leg l).queue s.iface).takeEntry l ident.drop grant verdict
        o := by
  have htaken : s.setRecord l ident.drop (some (r.dropMeasure grant)) =
      s.holding l ident.drop (some (r.dropMeasure grant)) (s.leg l).queue s.iface := rfl
  simp only [State.deliverOutcome, hr, if_pos hi, hm, hverdict, htaken]

/-- The state with the converter IDLE. -/
def State.idled (s : State) : State := s.setMeter { s.meter with converter := .idle }

/-- The state with the converter IDLE, and with the record of the drop sampled and its leg's directive queue as given. -/
abbrev State.sampled (s : State) (l : LegId) (q : SampleRequest) (r : DropRecord) (queue : List QueueEntry) : State :=
  s.idled.holding l q.ident.drop (some r) queue s.iface

/-- The result of the sample in hand, of value `v` and marked `a`, completes a measurement entry with its verdict,
and finds the record `t` that its entry is taken out of. -/
structure Completes (s : State) (code : BitVec 12) (l : LegId) (q : SampleRequest) (t : DropRecord)
    (verdict : BurstVerdict) (v : Int) (a : LevelAttrs) : Prop where
  lt : q.ident.drop < (s.idled.leg l).drops.length
  ident : t.ident = q.ident
  oneEnd : a.overRange = false ∨ a.underRange = false
  exec : exec (.sampleResult code) s =
    .next ((s.sampled l q t (s.leg l).queue).takeEntry l q.ident.drop q.cycle verdict (.result v a)).arbitrate

/-- What the result of a sample leaves of the record sampled and of its leg's directive queue. -/
def SampleLeaves (s : State) (code : BitVec 12) (l : LegId) (q : SampleRequest) (r : DropRecord)
    (queue : List QueueEntry) : Prop :=
  exec (.sampleResult code) s = .next
    { s with
      meter := { s.meter with converter := .idle },
      legs := s.legs.set l { s.leg l with drops := (s.leg l).drops.set q.ident.drop (some r), queue := queue },
      iface := s.iface.arbitrate }

theorem completes_of_sampling {s : State} {l : LegId} {q : SampleRequest} {r : DropRecord} {m : Measure}
    {start o : Nat} {code : BitVec 12} {v : Int} {high low : Bool} {verdict : BurstVerdict} (hreset : s.inReset = none)
    (hconverter : s.meter.converter = .sampling l (.drop q) q.range start o)
    (hpower : PowerIs code.toNat o (s.meter.tables.get q.range) v high low) (hr : s.record l q.ident.drop = some r)
    (hident : r.ident = q.ident) (hm : r.measure q.cycle = some m) (hverdict : m.verdict = some verdict) :
    Completes s code l q (r.dropMeasure q.cycle) verdict v
      { overRange := high, underRange := low, weak := decide (v < s.params.floor),
        strong := decide (s.params.ceiling < v) } where
  lt := Leg.record_lt hr
  ident := hident
  oneEnd := powerIs_oneEnd hpower
  exec := by
    rw [exec_sampleResult_drop hreset hconverter (powerResult_eq hpower s.params.floor s.params.ceiling),
      ← State.idled, deliverOutcome_completes (s := s.idled) hr hident hm hverdict]
    rfl

section Completes

variable {s : State} {code : BitVec 12} {l : LegId} {q : SampleRequest} {t : DropRecord} {verdict : BurstVerdict}
  {v : Int} {a : LevelAttrs}

theorem Completes.leaves (h : Completes s code l q t verdict v a) {r : DropRecord} {queue : List QueueEntry}
    (hentry : (s.sampled l q t (s.leg l).queue).takeEntry l q.ident.drop q.cycle verdict (.result v a) =
      s.sampled l q r queue) : SampleLeaves s code l q r queue := by
  rw [SampleLeaves, h.exec, hentry]
  rfl

theorem Completes.unused (h : Completes s code l q t verdict v a) (hunused : t.Unused verdict) :
    SampleLeaves s code l q t (s.leg l).queue :=
  h.leaves (takeEntry_unused h.lt hunused _ _)

/-! ## LEVELLING (R102, R103, R107, R108) -/

/-- A complete entry of a GOOD burst, taken in LEVELLING. -/
theorem Completes.levelling (h : Completes s code l q t .good v a) (hi : t.isolated = false)
    (hs : t.state = .levelling) {r : DropRecord} {queue : List QueueEntry}
    (hentry : (s.sampled l q t (s.leg l).queue).levellingEntry l q.ident.drop t q.cycle (.result v a) =
      s.sampled l q r queue) : SampleLeaves s code l q r queue :=
  h.leaves ((takeEntry_levelling h.lt hi hs _ _).trans hentry)

theorem Completes.stale (h : Completes s code l q t .good v a) (hi : t.isolated = false) (hs : t.state = .levelling)
    (hstale : IsStale t q.cycle) :
    SampleLeaves s code l q { t with hint := hintWith t a.overRange a.underRange } (s.leg l).queue :=
  h.levelling hi hs (levellingEntry_stale hstale v a)

/-- One unmeasured result more, the eighth of which takes the record to SOAK (R108). -/
theorem Completes.reRanged (h : Completes s code l q t .good v a) (hi : t.isolated = false) (hs : t.state = .levelling)
    (hfresh : ¬ IsStale t q.cycle) (hrange : reRanges t a) :
    (t.unmeasured + 1 < 8 →
      SampleLeaves s code l q
        { t with hint := hintWith t a.overRange a.underRange, unmeasured := t.unmeasured + 1 } (s.leg l).queue) ∧
    (8 ≤ t.unmeasured + 1 →
      SampleLeaves s code l q
        { t with hint := hintWith t a.overRange a.underRange, unmeasured := t.unmeasured + 1, state := .soak,
                 streak := 0, flags := { t.flags with unknown := true } } (s.leg l).queue) := by
  have hleaves {r : DropRecord} (hr : ({ t with hint := t.hintAfter a } : DropRecord).oneUnmeasured = r) :
      SampleLeaves s code l q r (s.leg l).queue := by
    rw [← hr]
    exact h.levelling hi hs (levellingEntry_reRanged hfresh v ((DropRecord.hintAfter_ne_iff h.oneEnd).mpr hrange))
  exact ⟨fun hfew => hleaves (DropRecord.oneUnmeasured_few hfew),
    fun hlast => hleaves (DropRecord.oneUnmeasured_last hlast)⟩

section Level

variable (h : Completes s code l q t .good v a) (hi : t.isolated = false) (hs : t.state = .levelling)
  (hfresh : ¬ IsStale t q.cycle) (hsame : ¬ reRanges t a)
include h hi hs hfresh hsame

/-- A fresh result that moves no range hint is the record's power, and levelling decides on it (R107). -/
theorem Completes.level {r : DropRecord} {queue : List QueueEntry}
    (hlevel : (s.sampled l q t (s.leg l).queue).level l q.ident.drop { t with lastPower := some v } a =
      s.sampled l q r queue) : SampleLeaves s code l q r queue :=
  h.levelling hi hs ((levellingEntry_level hfresh v
    (not_ne_iff.mp (mt (DropRecord.hintAfter_ne_iff h.oneEnd).mp hsame))).trans hlevel)

/-- A launch step at its end, or a third adjustment made, takes the record to SOAK with LEVEL-FAULT; else the launch
moves (R107). -/
theorem Completes.level_step {stop : LaunchStep} {next : LaunchStep → LaunchStep}
    (hstep : (s.sampled l q t (s.leg l).queue).level l q.ident.drop { t with lastPower := some v } a =
      if t.launch = stop ∨ 3 ≤ t.adjustments then
        s.sampled l q (DropRecord.levelled { t with lastPower := some v } { t.flags with fault := true }) (s.leg l).queue
      else
        s.sampled l q (DropRecord.relaunched { t with lastPower := some v } (next t.launch))
          (enqueue t.ident.drop (.launch q.ident.drop (next t.launch)) (some t.ident) (s.leg l).queue)) :
    (t.launch = stop ∨ 3 ≤ t.adjustments →
      SampleLeaves s code l q
        { t with lastPower := some v, state := .soak, streak := 0, flags := { t.flags with fault := true } }
        (s.leg l).queue) ∧
    (t.adjustments < 3 → ∀ launch, launch ≠ stop → t.launch = launch →
      SampleLeaves s code l q
        { t with lastPower := some v, launch := next launch, adjustments := t.adjustments + 1, launchField := .pending }
        (enqueue q.ident.drop (.launch q.ident.drop (next launch)) (some t.ident) (s.leg l).queue)) := by
  refine ⟨fun hends => h.level hi hs hfresh hsame (hstep.trans (if_pos hends)), fun hfew launch hmoves hlaunch => ?_⟩
  have hdrop : t.ident.drop = q.ident.drop := congrArg Identity.drop h.ident
  subst hlaunch
  rw [hdrop] at hstep
  exact h.level hi hs hfresh hsame (hstep.trans (if_neg (not_or.mpr ⟨hmoves, Nat.not_le.mpr hfew⟩)))

end Level

/-! ## In service (R102, R112) -/

theorem Completes.inService (h : Completes s code l q t .good v a) (hi : t.isolated = false)
    (hs : t.state = .inService) :
    (reRanges t a →
      SampleLeaves s code l q { t with hint := hintWith t a.overRange a.underRange } (s.leg l).queue) ∧
    (¬ reRanges t a →
      SampleLeaves s code l q { t with lastPower := some v, flags := { t.flags with drift := a.weak || a.strong } }
        (s.leg l).queue) := by
  have hentry := takeEntry_inService (s := s.idled) (queue := (s.leg l).queue)
    (i := s.iface) h.lt hi hs q.cycle (.result v a)
  have hmoves := DropRecord.hintAfter_ne_iff (r := t) h.oneEnd
  exact ⟨fun hrange => h.leaves (hentry.trans (serviceEntry_reRanged v (hmoves.mpr hrange))),
    fun hsame => h.leaves (hentry.trans (serviceEntry_result v (not_ne_iff.mp (mt hmoves.mp hsame))))⟩

end Completes

end Sys2Proof.Machine

open Sys2Proof Sys2Proof.Machine

/-- Settles O52: the result completes the entry of its burst, and the record takes the entry in the state that it has
reached. -/
theorem aGoodResultLevelsItsRecord : Obligations.AGoodResultLevelsItsRecord := by
  unfold Obligations.AGoodResultLevelsItsRecord
  intro l q r m d start o code v high low s verdict hreset hconverter hpower hdrop hr hident hm hverdict becomes taken
    used soak moved reRanged
  subst hdrop
  have h := completes_of_sampling hreset hconverter hpower hr hident hm hverdict
  refine ⟨h.unused, fun hgood hi hs hstale => ?stale, fun hgood hi hs hfresh hsame => ?level,
    fun hgood hi hs hfresh hrange => ?reRanged, fun hgood hi hs => ?service⟩
  case stale =>
    subst hgood
    exact h.stale hi hs hstale
  case level =>
    subst hgood
    refine ⟨fun hlow hhigh => ?_, fun hstrong => ?_, fun hweak hhigh => ?_⟩
    · exact h.level hi hs hfresh hsame (level_inWindow (by simpa using hhigh) (by simpa using hlow))
    · obtain ⟨hends, hmoves⟩ := h.level_step hi hs hfresh hsame (level_strong (by simpa using hstrong))
      exact ⟨hends, fun hfew => ⟨hmoves hfew .q0 nofun, hmoves hfew .q1 nofun, hmoves hfew .q2 nofun⟩⟩
    · obtain ⟨hends, hmoves⟩ := h.level_step hi hs hfresh hsame
        (level_weak (by simpa using hhigh) (by simpa using hweak))
      exact ⟨hends, fun hfew => ⟨hmoves hfew .q3 nofun, hmoves hfew .q2 nofun, hmoves hfew .q1 nofun⟩⟩
  case reRanged =>
    subst hgood
    exact h.reRanged hi hs hfresh hrange
  case service =>
    subst hgood
    obtain ⟨hmoves, htaken⟩ := h.inService hi hs
    rw [← Bool.decide_or] at htaken
    exact ⟨hmoves, htaken⟩
end

section
/-! SUPPORT. The converter's arbiter and the calibration arbiter (R125, R128): the order that begins at a pointer, and the
claims that meet at an instant. -/

namespace Sys2Proof.Machine

/-! ## The order that begins at a pointer -/

theorem mem_orderFrom (p l : Quad) : l ∈ Quad.orderFrom p := by
  cases p <;> cases l <;> decide

/-- In the order that begins at a pointer every leg comes first of the legs behind it. -/
theorem orderFrom_pairwise (p : LegId) : (Quad.orderFrom p).Pairwise (ComesFirst p) := by
  cases p <;> simp [Quad.orderFrom, Quad.next, ComesFirst]

/-- Of two legs one comes first. -/
theorem ComesFirst.asymm {p l k : LegId} (h : ComesFirst p l k) (hne : k ≠ l) : ¬ ComesFirst p k l := by
  unfold ComesFirst at *
  grind

/-- The leg found from a pointer on is the one that comes first of those with a property. -/
theorem find?_orderFrom {p l : LegId} {f : LegId → Bool} :
    (Quad.orderFrom p).find? f = some l ↔ f l = true ∧ ∀ k, f k = true → k ≠ l → ComesFirst p l k := by
  have hfirst {l : LegId} (h : (Quad.orderFrom p).find? f = some l) :
      f l = true ∧ ∀ k, f k = true → k ≠ l → ComesFirst p l k := by
    obtain ⟨hl, before, after, horder, hbefore⟩ := List.find?_eq_some_iff_append.mp h
    refine ⟨hl, fun k hk hne => ?_⟩
    have hmem := mem_orderFrom p k
    have hpairs := orderFrom_pairwise p
    rw [horder] at hmem hpairs
    have hafter : k ∈ after := by
      rcases List.mem_append.mp hmem with hk' | hk'
      · exact absurd (hbefore k hk') (by simp [hk])
      · exact (List.mem_cons.mp hk').resolve_left hne
    exact List.rel_of_pairwise_cons (List.pairwise_append.mp hpairs).2.1 hafter
  refine ⟨hfirst, fun ⟨hl, hcomes⟩ => ?_⟩
  cases hfound : (Quad.orderFrom p).find? f with
  | none => exact absurd hl (List.find?_eq_none.mp hfound l (mem_orderFrom p l))
  | some k =>
    obtain ⟨hk, hcomes'⟩ := hfirst hfound
    by_contra hne
    have hne : k ≠ l := fun h => hne (congrArg some h)
    exact ComesFirst.asymm (hcomes k hk hne) hne (hcomes' l hl hne.symm)

/-! ## The claims of queued samples (R125) -/

section Claims

variable {m : Meter} {instant : Nat} {l w pointer : LegId} {announcing : List LegId}

theorem mem_queuedAt : l ∈ m.queuedAt instant ↔ QueuedAt m instant l := by
  unfold Meter.queuedAt QueuedAt
  cases h : m.queues.get l with
  | nil => simp [h]
  | cons q rest => simp [h, mem_quad_all]

/-- There are two claims or more when there is one besides a claim. -/
theorem two_le_queuedAt (hw : QueuedAt m instant w) :
    2 ≤ (m.queuedAt instant).length ↔ ∃ k, k ≠ w ∧ QueuedAt m instant k := by
  have hnodup : (m.queuedAt instant).Nodup := nodup_quad_all.filter _
  rw [← mem_queuedAt] at hw
  have hlength : 2 ≤ (m.queuedAt instant).length ↔ m.queuedAt instant ≠ [w] := by
    refine ⟨fun htwo hsingle => by simp [hsingle] at htwo, fun hother => ?_⟩
    have hpos := List.length_pos_of_mem hw
    by_contra hfew
    obtain ⟨k, hk⟩ := List.length_eq_one_iff.mp (show (m.queuedAt instant).length = 1 by omega)
    rw [hk, List.mem_singleton] at hw
    exact hother (hw ▸ hk)
  rw [hlength, hnodup.ne_singleton_iff, or_iff_right (List.ne_nil_of_mem hw)]
  simp only [mem_queuedAt, and_comm]

theorem claims_queued (h : QueuedAt m instant w) :
    m.claims instant announcing = (.queued, m.queuedAt instant) := by
  have hmem := mem_queuedAt.mpr h
  have hsome : (m.queuedAt instant).isEmpty = false := by
    cases hq : m.queuedAt instant with
    | nil => simp [hq] at hmem
    | cons _ _ => rfl
  simp [Meter.claims, hsome]

/-- The decision at an instant at which none has been made. -/
theorem decide_fresh (hundecided : ∀ e, m.decided = some e → e.instant ≠ instant) {form : ClaimForm}
    {legs : List LegId} (hclaims : m.claims instant announcing = (form, legs)) :
    m.decide instant announcing =
      { m with
        decided := some { instant := instant, form := form, leg := favoured m.tiePtr legs },
        tiePtr := if 2 ≤ legs.length then (favoured m.tiePtr legs).next else m.tiePtr } := by
  unfold Meter.decide
  split
  · next e he => rw [if_neg (hundecided e he), hclaims]
  · rw [hclaims]

/-- The queued sample that is favoured wins the instant, whatever other forms claim it. -/
theorem decide_queued (hundecided : ∀ e, m.decided = some e → e.instant ≠ instant)
    (h : FavoursAt m instant w pointer) :
    m.decide instant announcing =
      { m with decided := some { instant := instant, form := .queued, leg := w }, tiePtr := pointer } := by
  obtain ⟨hw, hfirst, hpointer⟩ := h
  have hfavoured : favoured m.tiePtr (m.queuedAt instant) = w := by
    have hfind : ((Quad.orderFrom m.tiePtr).find? fun l => (m.queuedAt instant).contains l) = some w := by
      rw [find?_orderFrom]
      simp only [List.contains_iff_mem, mem_queuedAt]
      exact ⟨hw, hfirst⟩
    rw [favoured, hfind]
    rfl
  have hmoves : (if 2 ≤ (m.queuedAt instant).length then w.next else m.tiePtr) = pointer := by
    rcases hpointer with ⟨hties, rfl⟩ | ⟨halone, rfl⟩
    · exact if_pos ((two_le_queuedAt hw).mpr hties)
    · exact if_neg fun htwo => by
        obtain ⟨k, hk, hqueued⟩ := (two_le_queuedAt hw).mp htwo
        exact hk (halone k hqueued)
  rw [decide_fresh hundecided (claims_queued hw), hfavoured, hmoves]

theorem decide_decided {e : Decision} (he : m.decided = some e) (hinstant : e.instant = instant) :
    m.decide instant announcing = m := by
  rw [Meter.decide, he]
  exact if_pos hinstant

theorem claim_idle (hidle : m.converter = .idle) {e : Decision} (he : (m.decide instant announcing).decided = some e)
    (form : ClaimForm) :
    m.claim instant form l announcing =
      (m.decide instant announcing,
        Decidable.decide (e = { instant := instant, form := form, leg := l })) := by
  rw [Meter.claim, hidle]
  dsimp only
  rw [Meter.favours, he]

/-- A claim at an instant at which queued samples start (R125). -/
theorem claim_queued (hidle : m.converter = .idle) (hundecided : ∀ e, m.decided = some e → e.instant ≠ instant)
    (h : FavoursAt m instant w pointer) (form : ClaimForm) :
    m.claim instant form l announcing =
      ({ m with decided := some { instant := instant, form := .queued, leg := w }, tiePtr := pointer },
        Decidable.decide
          (({ instant := instant, form := .queued, leg := w } : Decision) =
            { instant := instant, form := form, leg := l })) := by
  have hdecide := decide_queued (announcing := announcing) hundecided h
  rw [claim_idle hidle (congrArg Meter.decided hdecide), hdecide]

/-- A claim at an instant that has been decided on finds the same decision (log 9). -/
theorem claim_decided (hidle : m.converter = .idle) {e : Decision} (he : m.decided = some e)
    (hinstant : e.instant = instant) (form : ClaimForm) :
    m.claim instant form l announcing =
      (m, Decidable.decide (e = { instant := instant, form := form, leg := l })) := by
  have hdecide := decide_decided (announcing := announcing) he hinstant
  rw [claim_idle hidle ((congrArg Meter.decided hdecide).trans he), hdecide]

/-- A calibration that is alone at its instant (R125). -/
theorem claim_calibration {c : Scheduled} {rest : List Scheduled} (hscheduled : m.scheduled = c :: rest)
    (hidle : m.converter = .idle) (hundecided : ∀ e, m.decided = some e → e.instant ≠ c.instant)
    (hqueued : ∀ k q qs, m.queues.get k = q :: qs → q.start ≠ c.instant) (hrest : ∀ d ∈ rest, d.instant ≠ c.instant) :
    m.claim c.instant .calibration c.leg [] =
      ({ m with decided := some { instant := c.instant, form := .calibration, leg := c.leg } }, true) := by
  have hnone : m.queuedAt c.instant = [] := List.eq_nil_iff_forall_not_mem.mpr fun k hk => by
    obtain ⟨q, qs, hq, hstart⟩ := mem_queuedAt.mp hk
    exact hqueued k q qs hq hstart
  have halone : m.calibrationsAt c.instant = [c.leg] := by
    have hlater : rest.filter (fun d => Decidable.decide (d.instant = c.instant)) = [] :=
      List.filter_eq_nil_iff.mpr (by simpa using hrest)
    simp [Meter.calibrationsAt, hscheduled, hlater]
  have hclaims : m.claims c.instant [] = (.calibration, [c.leg]) := by simp [Meter.claims, hnone, halone]
  have hdecide := decide_fresh hundecided hclaims
  rw [favoured_single] at hdecide
  rw [claim_idle hidle (congrArg Meter.decided hdecide), hdecide]
  simp

end Claims

end Sys2Proof.Machine
end

section
/-! SUPPORT. The samples and calibrations of the converter (R101, R125, R128, R129, R131), each from the claim that it
makes. -/

namespace Sys2Proof.Machine

variable {s : State} {l : LegId} {m : Meter} {favoured : Bool}

/-! ## SAMPLE_INTEGRATION_START (R131) -/

section Sample

variable {q : SampleRequest} {rest : List SampleRequest}

theorem exec_sampleIntegrationStart_taken {o : Nat} (hreset : s.inReset = none)
    (hqueue : s.meter.queues.get l = q :: rest) (hclaim : s.meter.claim q.start .queued l [] = (m, true))
    (hready : s.bias.state = .ready) (hoffset : (s.offset l q.range).usable = some o) :
    exec (.sampleIntegrationStart l) s = .next (s.setMeter
      { m with queues := m.queues.set l rest, converter := .sampling l (.drop q) q.range q.start o }).arbitrate := by
  change execSampleIntegrationStart l s = _
  rw [execSampleIntegrationStart, event_alive _ hreset, hqueue]
  simp only [hclaim, hready, hoffset, decide_true, Bool.and_self]

/-- A sample that is missed is delivered "unmeasured" at once. -/
theorem exec_sampleIntegrationStart_missed (hreset : s.inReset = none) (hqueue : s.meter.queues.get l = q :: rest)
    (hclaim : s.meter.claim q.start .queued l [] = (m, favoured))
    (hlost : favoured = false ∨ s.bias.state ≠ .ready ∨ (s.offset l q.range).valid = false) :
    exec (.sampleIntegrationStart l) s = .next
      ((s.setMeter { m with queues := m.queues.set l rest }).deliverOutcome l q.ident q.cycle
        .unmeasured).arbitrate := by
  change execSampleIntegrationStart l s = _
  rw [execSampleIntegrationStart, event_alive _ hreset, hqueue]
  simp only [hclaim]
  split
  · next o hfit husable =>
    rw [Bool.and_eq_true, decide_eq_true_eq] at hfit
    rcases hlost with h | h | h
    · cases hfit.1.symm.trans h
    · exact absurd hfit.2 h
    · cases husable.symm.trans (usable_invalid h)
  · rfl

/-- The outcome of a missed sample waits in the measurement entry that it is for. -/
theorem exec_sampleIntegrationStart_unmeasured {r : DropRecord} {e : Measure} (hreset : s.inReset = none)
    (hqueue : s.meter.queues.get l = q :: rest) (hclaim : s.meter.claim q.start .queued l [] = (m, favoured))
    (hlost : favoured = false ∨ s.bias.state ≠ .ready ∨ (s.offset l q.range).valid = false)
    (hr : s.record l q.ident.drop = some r) (hi : r.ident = q.ident) (he : r.measure q.cycle = some e)
    (hverdict : e.verdict = none) :
    exec (.sampleIntegrationStart l) s = .next
      { s with
        meter := { m with queues := m.queues.set l rest },
        legs := s.legs.set l
          { s.leg l with
            drops := (s.leg l).drops.set q.ident.drop (some
              { r with measures := r.measures.map fun m =>
                  if m.cycle = q.cycle then { m with outcome := some .unmeasured } else m }) },
        iface := s.iface.arbitrate } := by
  rw [exec_sampleIntegrationStart_missed hreset hqueue hclaim hlost,
    deliverOutcome_waits (s := s.setMeter { m with queues := m.queues.set l rest }) hr hi he hverdict]
  rfl

end Sample

/-! ## CALIBRATION_INSTANT and CALIBRATION_RESULT (R128, R129) -/

section Calibration

variable {c : Scheduled} {rest : List Scheduled}

theorem exec_calibrationInstant_taken (hreset : s.inReset = none) (hscheduled : s.meter.scheduled = c :: rest)
    (hclaim : s.meter.claim c.instant .calibration c.leg [] = (m, true)) (hready : s.bias.state = .ready)
    (hstarted : (s.leg c.leg).state ≠ .stopped) :
    exec .calibrationInstant s = .next (s.setMeter
      { m with scheduled := rest, converter := .calibrating c.leg c.range c.instant }).arbitrate := by
  change execCalibrationInstant s = _
  rw [execCalibrationInstant, event_alive _ hreset, hscheduled]
  simp only [hclaim, hready, Leg.started_iff.mpr hstarted, decide_true, Bool.and_self, if_true]

/-- A calibration that is not taken has its range waiting again. -/
theorem exec_calibrationInstant_failed (hreset : s.inReset = none) (hscheduled : s.meter.scheduled = c :: rest)
    (hclaim : s.meter.claim c.instant .calibration c.leg [] = (m, favoured))
    (hfails : favoured = false ∨ s.bias.state ≠ .ready ∨ (s.leg c.leg).state = .stopped) :
    exec .calibrationInstant s = .next
      (s.setMeter (({ m with scheduled := rest } : Meter).markWant c.leg c.range false)).arbitrate := by
  change execCalibrationInstant s = _
  rw [execCalibrationInstant, event_alive _ hreset, hscheduled]
  simp only [hclaim]
  rw [if_neg]
  simp only [Bool.and_eq_true, decide_eq_true_eq, Leg.started_iff]
  rintro ⟨⟨hfavoured, hready⟩, hstarted⟩
  rcases hfails with h | h | h
  · cases hfavoured.symm.trans h
  · exact h hready
  · exact hstarted h

theorem exec_calibrationResult {k : RangeId} {start : Nat} (code : BitVec 12) (light : BitVec 32)
    (hreset : s.inReset = none) (hconverter : s.meter.converter = .calibrating l k start) :
    exec (.calibrationResult code light) s = .next
      (if light = 0#32 then
        s.setMeter ((({ s.meter with converter := .idle } : Meter).setOffset l k
          { code := some code.toNat, valid := true, age := 0 }).dropWant l k)
      else s.setMeter (({ s.meter with converter := .idle } : Meter).markWant l k false)).arbitrate := by
  change execCalibrationResult code light s = _
  rw [execCalibrationResult, event_alive _ hreset, hconverter]

end Calibration

end Sys2Proof.Machine
end

section
/-! SUPPORT. The Level Meter at a boundary (R126, R127, R128, R130): what the legs, the calibration arbiter, the ages of the
dark offsets and the entry to READY leave of it. -/

namespace Sys2Proof.Machine

/-! ## The sample requests that the legs place (R130) -/

/-- One leg at a boundary, on the Level Meter. -/
theorem boundaryLeg_meter (marker : Nat) (s : State) (l : LegId) :
    ∃ placed, (State.boundaryLeg marker s l).meter =
      { s.meter with
        queues := s.meter.queues.set l (s.meter.queues.get l ++ placed),
        wants := s.meter.wants.set l (wantedBy s l placed) } := by
  have hunplaced := s.meter_unplaced l
  unfold State.boundaryLeg
  split
  · exact ⟨[], hunplaced.symm⟩
  · by_cases hs : (s.leg l).state = .stopped
    · rw [State.beginLeg_stopped hs, State.startCycles_eq]
      split
      · exact ⟨[], hunplaced.symm⟩
      · split
        · exact beginCycle_meter (s.setLeg l ((s.leg l).starting s.bias.state)) l marker
        · exact ⟨[], hunplaced.symm⟩
    · rw [State.beginLeg_started hs]
      exact beginCycle_meter (s.mapLeg l fun x => { x with count := x.count + 1#32 }) l marker

/-- The sample queue, the want list and the dark offsets of a leg. -/
def Meter.viewOf (m : Meter) (l : LegId) : List SampleRequest × List Want × Four OffsetEntry :=
  (m.queues.get l, m.wants.get l, m.offsets.get l)

theorem boundaryLeg_meter_viewOf (marker : Nat) {l k : LegId} (h : k ≠ l) (s : State) :
    (State.boundaryLeg marker s k).meter.viewOf l = s.meter.viewOf l := by
  obtain ⟨placed, hmeter⟩ := boundaryLeg_meter marker s k
  simp only [Meter.viewOf, hmeter, Four.get_set_other _ _ h.symm]

/-- The legs place their sample requests, each on its own queue and want list, and leave the rest of the meter. -/
theorem legsTaken_meter (s : State) :
    ∃ placed : LegId → List SampleRequest,
      (∀ l, s.legsTaken.meter.queues.get l = s.meter.queues.get l ++ placed l ∧
        s.legsTaken.meter.wants.get l = wantedBy s l (placed l)) ∧
      s.legsTaken.meter =
        { s.meter with queues := s.legsTaken.meter.queues, wants := s.legsTaken.meter.wants } := by
  have hleg (l : LegId) : ∃ placed, s.legsTaken.meter.queues.get l = s.meter.queues.get l ++ placed ∧
      s.legsTaken.meter.wants.get l = wantedBy s l placed := by
    obtain ⟨u, hview, hstep⟩ := foldl_view (view := fun t : State => t.meter.viewOf l)
      (fun t k hk => boundaryLeg_meter_viewOf s.comingInstant hk t) nodup_quad_all (mem_quad_all l) s
    obtain ⟨placed, hmeter⟩ := boundaryLeg_meter s.comingInstant u l
    change s.legsTaken.meter.viewOf l = (State.boundaryLeg s.comingInstant u l).meter.viewOf l at hstep
    rw [hmeter] at hstep
    simp only [Meter.viewOf, Prod.mk.injEq, Four.get_set_same] at hview hstep
    obtain ⟨hqueue, hwants, hoffsets⟩ := hview
    have hwanted : wantedBy u l placed = wantedBy s l placed := by
      simp only [wantedBy, State.offset, hwants, hoffsets]
    exact ⟨placed, by rw [hstep.1, hqueue], by rw [hstep.2.1, hwanted]⟩
  have hframe : s.legsTaken.meter =
      { s.meter with queues := s.legsTaken.meter.queues, wants := s.legsTaken.meter.wants } :=
    List.foldlRecOn (motive := fun t : State =>
      t.meter = { s.meter with queues := t.meter.queues, wants := t.meter.wants }) Quad.all _ rfl fun t ht l _ => by
        obtain ⟨placed, hmeter⟩ := boundaryLeg_meter s.comingInstant t l
        rw [hmeter, ht]
  choose placed hplaced using hleg
  exact ⟨placed, hplaced, hframe⟩

/-! ## The calibration arbiter (R128) -/

theorem State.offered_iff {s : State} {instant : Nat} {l : LegId} :
    s.offered instant l = true ↔ OfferedAt s instant l (s.meter.wants.get l) := by
  unfold State.offered OfferedAt
  cases (s.leg l).calendar <;> simp [Leg.started_iff, and_assoc]

/-- The calibration arbiter schedules nothing, or the first waiting range of the offered leg that its pointer favours. -/
theorem arbitrateCalibration_meter (s : State) (instant : Nat) :
    (∀ l, ¬ OfferedAt s instant l (s.meter.wants.get l)) ∧ (s.arbitrateCalibration instant).meter = s.meter ∨
    ∃ l k, OfferedAt s instant l (s.meter.wants.get l) ∧
      (∀ j, j ≠ l → OfferedAt s instant j (s.meter.wants.get j) → ComesFirst s.meter.calPtr l j) ∧
      ((s.meter.wants.get l).find? fun w => !w.scheduled) = some { range := k, scheduled := false } ∧
      (s.arbitrateCalibration instant).meter =
        { s.meter with
          wants := s.meter.wants.set l
            ((s.meter.wants.get l).map fun w => if w.range = k then { w with scheduled := true } else w),
          calPtr := l.next,
          scheduled := s.meter.scheduled ++
            [{ leg := l, range := k, instant := instant + (s.leg l).derived.omega + 31200 }] } := by
  unfold State.arbitrateCalibration
  split
  · next hnone =>
    exact .inl ⟨fun l h => List.find?_eq_none.mp hnone l (mem_orderFrom _ l) (State.offered_iff.mpr h), rfl⟩
  · next l hl =>
    obtain ⟨hoffered, hfirst⟩ := find?_orderFrom.mp hl
    rw [State.offered_iff] at hoffered
    obtain ⟨w, hw, hwaits⟩ := hoffered.2.2
    cases hfind : (s.meter.wants.get l).find? fun w => !w.scheduled with
    | none => simpa [hwaits] using List.find?_eq_none.mp hfind w hw
    | some w =>
      have hwaits : w.scheduled = false := by simpa using List.find?_some hfind
      refine .inr ⟨l, w.range, hoffered, fun j hj h => hfirst j (State.offered_iff.mpr h) hj, ?_, ?_⟩
      · rw [hfind, ← hwaits]
      · simp only [firstWaiting, hfind, Option.map_some]
        rfl

/-! ## Dark offsets that change together (R126, R127) -/

theorem wantedAs_append (a b : List RangeId) (queue : List SampleRequest) (wants : List Want) :
    wantedAs (a ++ b) queue wants = wantedAs b queue (wantedAs a queue wants) :=
  List.foldl_append

/-- The Level Meter with the dark offsets of a leg replaced and the ranges that lose theirs wanted. -/
def Meter.losing (m : Meter) (l : LegId) (lost : List RangeId) (entries : Four OffsetEntry) : Meter :=
  { m with
    offsets := m.offsets.set l entries,
    wants := m.wants.set l (wantedAs lost (m.queues.get l) (m.wants.get l)) }

theorem Meter.losing_losing (m : Meter) (l : LegId) (a b : List RangeId) (e f : Four OffsetEntry) :
    (m.losing l a e).losing l b f = m.losing l (a ++ b) f := by
  simp only [Meter.losing, Four.get_set_same, Four.set_set, wantedAs_append]

theorem Meter.losing_none (m : Meter) (l : LegId) : m.losing l [] (m.offsets.get l) = m := by
  simp [Meter.losing, wantedAs]

/-- Every dark offset becomes another, and those of which a property holds are lost: their ranges are wanted where a
queued request names them. -/
structure Moves (loses : OffsetEntry → Bool) (becomes : OffsetEntry → OffsetEntry) (m m' : Meter) : Prop where
  offset : ∀ l k, (m'.offsets.get l).get k = becomes ((m.offsets.get l).get k)
  wants : ∀ l, m'.wants.get l =
    wantedAs (Quad.all.filter fun k => loses ((m.offsets.get l).get k)) (m.queues.get l) (m.wants.get l)
  frame : m' = { m with offsets := m'.offsets, wants := m'.wants }

/-- A dark offset that is invalid by its age at a boundary (R126). -/
def OffsetEntry.expires (e : OffsetEntry) : Bool := e.valid && decide (40000 ≤ e.age + 1)

/-- A dark offset a cycle later (R126). -/
def OffsetEntry.aged (e : OffsetEntry) : OffsetEntry :=
  if e.valid then if 40000 ≤ e.age + 1 then .invalid else { e with age := e.age + 1 } else e

/-- A dark offset at a boundary where the bias enters READY, or does not (R141). -/
def OffsetEntry.entering (ready : Bool) (e : OffsetEntry) : OffsetEntry :=
  if ready && e.valid then .invalid else e

/-- A step on one dark offset. -/
def MovesOne (loses : OffsetEntry → Bool) (becomes : OffsetEntry → OffsetEntry)
    (f : Meter → LegId → RangeId → Meter) : Prop :=
  ∀ m l k, f m l k =
    m.losing l (if loses ((m.offsets.get l).get k) then [k] else [])
      ((m.offsets.get l).set k (becomes ((m.offsets.get l).get k)))

section

variable {loses : OffsetEntry → Bool} {becomes : OffsetEntry → OffsetEntry} {f : Meter → LegId → RangeId → Meter}

theorem MovesOne.leg (h : MovesOne loses becomes f) (m : Meter) (l : LegId) :
    Quad.all.foldl (fun m k => f m l k) m =
      m.losing l (Quad.all.filter fun k => loses ((m.offsets.get l).get k)) ((m.offsets.get l).map becomes) := by
  have hentries (lost : List RangeId) (e : Four OffsetEntry) : ((m.losing l lost e).offsets.get l) = e :=
    Four.get_set_same _ _ _
  have hlost : (Quad.all.filter fun k => loses ((m.offsets.get l).get k)) =
      Quad.all.flatMap fun k => if loses ((m.offsets.get l).get k) then [k] else [] := by
    rw [← map_filter_eq_flatMap, List.map_id']
  rw [hlost]
  simp only [Quad.all, List.foldl_cons, List.foldl_nil, h _ l, hentries, Meter.losing_losing]
  congr 1
  simp only [List.flatMap_cons, List.flatMap_nil, List.append_nil, List.append_assoc]
  rfl

/-- The step taken on every dark offset. -/
theorem MovesOne.all (h : MovesOne loses becomes f) (m : Meter) :
    Moves loses becomes m (Quad.all.foldl (fun m l => Quad.all.foldl (fun m k => f m l k) m) m) := by
  simp only [h.leg]
  exact ⟨fun l k => by cases l <;> exact Four.get_map _ _ k, fun l => by cases l <;> rfl, rfl⟩

end

theorem invalidate_losing {m : Meter} {l : LegId} {k : RangeId} (h : ((m.offsets.get l).get k).valid = true) :
    m.invalidate l k = m.losing l [k] ((m.offsets.get l).set k .invalid) :=
  invalidate_valid h

theorem ageOffset_movesOne : MovesOne OffsetEntry.expires OffsetEntry.aged Meter.ageOffset := by
  intro m l k
  unfold Meter.ageOffset
  dsimp only
  by_cases hvalid : ((m.offsets.get l).get k).valid = true
  · rw [invalidate_losing hvalid]
    by_cases hdue : 40000 ≤ ((m.offsets.get l).get k).age + 1
    · simp only [Config.offsetLife, OffsetEntry.expires, OffsetEntry.aged, hvalid, hdue, if_true, decide_true, Bool.and_self]
    · simp only [Config.offsetLife, OffsetEntry.expires, OffsetEntry.aged, hvalid, hdue, if_true, if_false, decide_false, Bool.and_false, Bool.false_eq_true]
      simp [Meter.losing, wantedAs, Meter.setOffset]
  · simp [OffsetEntry.expires, OffsetEntry.aged, hvalid, Meter.losing_none]

theorem invalidate_movesOne : MovesOne OffsetEntry.valid (OffsetEntry.entering true) Meter.invalidate := by
  intro m l k
  by_cases hvalid : ((m.offsets.get l).get k).valid = true
  · rw [invalidate_losing hvalid]
    simp only [OffsetEntry.entering, hvalid, if_true, Bool.and_self]
  · simp [Meter.invalidate, OffsetEntry.entering, hvalid, Meter.losing_none]

/-! ## The bias (R126, R141) -/

theorem boundaryBias_meter (s : State) (instant : Nat) :
    (s.boundaryBias instant).meter = if entersReady s then s.meter.invalidateAll else s.meter := by
  unfold State.boundaryBias
  dsimp only
  cases ha : s.bias.ahead with
  | true => simp [entersReady, ha]
  | false =>
    rw [if_neg Bool.false_ne_true]
    change (s.countBias instant).meter = _
    unfold State.countBias
    cases hb : s.bias.state with
    | off => simp [entersReady, hb]
    | ready => simp [entersReady, hb]
    | settling =>
      simp only [entersReady, ha, hb, Config.settleCycles, true_and, decide_eq_true_eq]
      split
      · unfold State.enterReady
        rw [wakeLegs_meter]
        rfl
      · rfl
    | tripped =>
      simp only [entersReady, hb, reduceCtorEq, false_and, and_false, decide_false]
      split
      · split <;> rfl
      · rfl

/-- The dark offsets after the ages and the bias of a boundary. -/
theorem boundaryBias_moves (s : State) (instant : Nat) :
    Moves (fun e => entersReady s && e.valid) (OffsetEntry.entering (entersReady s)) s.meter
      (s.boundaryBias instant).meter := by
  rw [boundaryBias_meter]
  cases entersReady s with
  | true =>
    simp only [Bool.true_and]
    exact invalidate_movesOne.all s.meter
  | false => exact ⟨fun _ _ => rfl, fun _ => by simp [wantedAs], rfl⟩

/-! ## The boundary as a whole -/

/-- The ages of the dark offsets and then the bias, after the calibration arbiter has chosen. -/
theorem boundary_moves (s : State) :
    ∃ m, Moves OffsetEntry.expires OffsetEntry.aged
        (s.legsTaken.lapseCandidates.arbitrateCalibration s.comingInstant).meter m ∧
      Moves (fun e => entersReady s && e.valid) (OffsetEntry.entering (entersReady s)) m s.boundary.meter := by
  have hready : entersReady s.beforeBias = entersReady s := by
    simp only [entersReady, (beforeBias_frame s).2.1]
  exact ⟨_, ageOffset_movesOne.all _, hready ▸ boundaryBias_moves s.beforeBias s.comingInstant⟩

/-- What the calibration arbiter finds of a leg is still so after the boundary: waking neither starts a leg nor stops
one. -/
theorem offeredAt_boundary {s : State} {instant : Nat} {l : LegId} {wants : List Want} :
    OfferedAt s.boundary.arbitrate instant l wants ↔ OfferedAt s.legsTaken.lapseCandidates instant l wants := by
  have hleg : s.legsTaken.lapseCandidates.leg l = s.legsTaken.leg l := by
    rw [State.lapseCandidates_eq]
    rfl
  rw [OfferedAt, OfferedAt, State.arbitrate_leg, boundary_leg, hleg, ne_eq, Leg.wokenBy_stopped]
  rfl

/-- The calibration arbiter touches the want lists, its pointer and the calibrations scheduled. -/
theorem arbitrateCalibration_frame (s : State) (instant : Nat) :
    (s.arbitrateCalibration instant).meter =
      { s.meter with
        wants := (s.arbitrateCalibration instant).meter.wants,
        calPtr := (s.arbitrateCalibration instant).meter.calPtr,
        scheduled := (s.arbitrateCalibration instant).meter.scheduled } := by
  obtain ⟨-, hmeter⟩ | ⟨l, k, -, -, -, hmeter⟩ := arbitrateCalibration_meter s instant <;> rw [hmeter]

/-- A dark offset once the boundary has aged it and the bias has entered READY, or not (R126). -/
theorem entering_aged (s : State) (l : LegId) (k : RangeId) :
    (k ∈ lostAt s l → (s.offset l k).aged.entering (entersReady s) = { code := none, valid := false, age := 0 }) ∧
    (k ∉ lostAt s l → (s.offset l k).valid = true →
      (s.offset l k).aged.entering (entersReady s) = { s.offset l k with age := (s.offset l k).age + 1 }) ∧
    ((s.offset l k).valid = false → (s.offset l k).aged.entering (entersReady s) = s.offset l k) := by
  have hmem : k ∈ lostAt s l ↔ (s.offset l k).valid = true ∧
      (40000 ≤ (s.offset l k).age + 1 ∨ entersReady s = true) := by
    simp only [lostAt, List.mem_append, List.mem_filter, mem_quad_all, true_and, Bool.and_eq_true, decide_eq_true_eq]
    grind
  rw [hmem]
  generalize s.offset l k = e
  by_cases hvalid : e.valid = true
  · by_cases hdue : 40000 ≤ e.age + 1
    · simp [OffsetEntry.aged, OffsetEntry.entering, OffsetEntry.invalid, hvalid, hdue]
    · cases entersReady s <;> simp [OffsetEntry.aged, OffsetEntry.entering, OffsetEntry.invalid, hvalid, hdue]
  · simp [OffsetEntry.aged, OffsetEntry.entering, hvalid]

/-- The ranges lost at a boundary, by age and then by the entry to READY, in that order (log 30). -/
theorem lostAt_eq (s : State) (l : LegId) :
    lostAt s l = (Quad.all.filter fun k => (s.offset l k).expires) ++
      Quad.all.filter fun k => entersReady s && (s.offset l k).aged.valid := by
  refine congrArg (_ ++ ·) (List.filter_congr fun k _ => ?_)
  generalize s.offset l k = e
  by_cases hvalid : e.valid = true
  · by_cases hdue : 40000 ≤ e.age + 1
    · simp [OffsetEntry.aged, OffsetEntry.invalid, hvalid, hdue, Nat.not_lt.mpr hdue]
    · simp [OffsetEntry.aged, hvalid, hdue, Nat.lt_of_not_le hdue]
  · simp [OffsetEntry.aged, hvalid]

theorem metersBoundary (s : State) : MetersBoundary s s.boundary.arbitrate := by
  obtain ⟨placed, hplaced, hlegs⟩ := legsTaken_meter s
  obtain ⟨m, hage, hbias⟩ := boundary_moves s
  have hchoice := arbitrateCalibration_meter s.legsTaken.lapseCandidates s.comingInstant
  have hchosen := arbitrateCalibration_frame s.legsTaken.lapseCandidates s.comingInstant
  have hlapse : s.legsTaken.lapseCandidates.meter = s.legsTaken.meter := by rw [State.lapseCandidates_eq]
  have hderived (l : LegId) : (s.legsTaken.lapseCandidates.leg l).derived = (s.leg l).derived := by
    rw [State.lapseCandidates_eq]
    exact (legsTaken_atBoundary s l).keeps.2.1
  have hbuilt (l : LegId) : s.legsTaken.meter.wants.get l = wantedBy s l (placed l) := (hplaced l).2
  simp only [← offeredAt_boundary, comingInstant_eq, hlapse, hderived, hbuilt] at hchoice
  rw [comingInstant_eq] at hage hchosen
  rw [hlapse, hlegs] at hchosen
  rw [hlegs] at hchoice
  generalize (s.legsTaken.lapseCandidates.arbitrateCalibration (31250 * (s.boundaries + 1))).meter = c at *
  have hmeter : s.boundary.meter =
      { s.meter with
        offsets := s.boundary.meter.offsets, wants := s.boundary.meter.wants, queues := s.legsTaken.meter.queues,
        calPtr := c.calPtr, scheduled := c.scheduled } := by
    rw [hbias.frame, hage.frame, hchosen]
  have hoffset (l : LegId) (k : RangeId) : (c.offsets.get l).get k = s.offset l k := by rw [hchosen]; rfl
  have hqueues : s.boundary.meter.queues = c.queues := by rw [hbias.frame, hage.frame]
  refine ⟨placed, fun l => wantedBy s l (placed l), c.wants.get, fun l => ⟨?_, rfl⟩, ?_, fun l k => ?_, fun l => ?_,
    ?_, ?_, ?_, ?_⟩
  · rw [State.arbitrate_meter, hmeter]
    exact (hplaced l).1
  · rw [State.arbitrate_meter, hmeter]
    obtain ⟨hnone, hc⟩ | ⟨l, k, hoffered, hfirst, hfind, hc⟩ := hchoice
    · exact .inl ⟨hnone, by rw [hc]; exact funext hbuilt, by rw [hc], by rw [hc]⟩
    · refine .inr ⟨l, k, hoffered, hfirst, hfind, ?_, fun j hj => ?_, by rw [hc], by rw [hc]⟩
      · rw [hc]
        exact Four.get_set_same _ _ _
      · rw [hc]
        exact (Four.get_set_other _ _ hj).trans (hbuilt j)
  · have hmoved : s.boundary.arbitrate.offset l k = (s.offset l k).aged.entering (entersReady s) := by
      rw [← hoffset, ← hage.offset, ← hbias.offset]
      rfl
    rw [hmoved]
    exact entering_aged s l k
  · rw [State.arbitrate_meter, hbias.wants, hage.wants, lostAt_eq, wantedAs_append, hqueues]
    have hagedQueues : m.queues = c.queues := by rw [hage.frame]
    simp only [hage.offset, hoffset, hagedQueues]
  all_goals rw [State.arbitrate_meter, hmeter]

end Sys2Proof.Machine
end

section
/-! OBLIGATION O53. The converter's claims, its results, and the Level Meter at a boundary. -/

namespace Sys2Proof.Machine

theorem usable_of_code {e : OffsetEntry} {o : Nat} (hvalid : e.valid = true) (hcode : e.code = some o) :
    e.usable = some o :=
  usable_valid (by rw [← hcode, ← hvalid])

end Sys2Proof.Machine

open Sys2Proof Sys2Proof.Machine

/-- Settles O53: the boundary phase by phase, and each command by what its claim on the converter finds. -/
theorem theConverterServesSamplesAndCalibrations : Obligations.TheConverterServesSamplesAndCalibrations := by
  unfold Obligations.TheConverterServesSamplesAndCalibrations
  refine ⟨fun s hreset => ⟨_, exec_cycleBoundary hreset, metersBoundary s⟩,
    fun l q rest s hreset hqueue => ⟨fun hbusy r m hr hi hm hverdict => ?_,
      fun hidle hundecided w pointer hfavours => ?_, fun e hidle he hinstant => ?_⟩,
    fun c rest s hreset hscheduled => ⟨fun ⟨hidle, hundecided, hqueued, hlater⟩ hready hstarted => ?_,
      fun ⟨hidle, hundecided, hqueued, hlater⟩ hfails => ?_, fun w pointer hidle hundecided hfavours => ?_,
      fun hlost => ?_⟩,
    fun l k start code light s hreset hconverter => ⟨fun hdark => ?_, fun hlit => ?_⟩⟩
  · exact exec_sampleIntegrationStart_unmeasured hreset hqueue (claim_busy hbusy ..) (.inl rfl) hr hi hm hverdict
  · have hclaim := claim_queued (l := l) (announcing := []) hidle hundecided hfavours .queued
    refine ⟨fun hw o ⟨hready, hvalid, hcode⟩ => ?_, fun hlost r m hr hi hm hverdict => ?_⟩
    · subst hw
      rw [decide_eq_true rfl] at hclaim
      exact exec_sampleIntegrationStart_taken hreset hqueue hclaim hready (usable_of_code hvalid hcode)
    · exact exec_sampleIntegrationStart_unmeasured hreset hqueue hclaim
        (hlost.imp_left fun hw => by simp [hw]) hr hi hm hverdict
  · have hclaim := claim_decided (l := l) (announcing := []) hidle he hinstant .queued
    refine ⟨fun hmine o ⟨hready, hvalid, hcode⟩ => ?_, fun hlost r m hr hi hm hverdict => ?_⟩
    · rw [decide_eq_true hmine] at hclaim
      rw [exec_sampleIntegrationStart_taken hreset hqueue hclaim hready (usable_of_code hvalid hcode), ← he]
      rfl
    · rw [exec_sampleIntegrationStart_unmeasured hreset hqueue hclaim
        (hlost.imp_left decide_eq_false) hr hi hm hverdict, ← he]
  · exact exec_calibrationInstant_taken hreset hscheduled
      (claim_calibration hscheduled hidle hundecided hqueued hlater) hready hstarted
  · exact exec_calibrationInstant_failed hreset hscheduled
      (claim_calibration hscheduled hidle hundecided hqueued hlater) (.inr hfails)
  · exact exec_calibrationInstant_failed hreset hscheduled
      (claim_queued hidle hundecided hfavours .calibration) (.inl (by simp))
  · by_cases hidle : s.meter.converter = .idle
    · obtain ⟨e, he, hinstant, hother⟩ := hlost.resolve_left (not_not.mpr hidle)
      exact exec_calibrationInstant_failed hreset hscheduled (claim_decided hidle he hinstant .calibration)
        (.inl (decide_eq_false hother))
    · exact exec_calibrationInstant_failed hreset hscheduled (claim_busy hidle ..) (.inl rfl)
  · rw [exec_calibrationResult code light hreset hconverter, if_pos hdark]
    rfl
  · rw [exec_calibrationResult code light hreset hconverter, if_neg hlit]
    rfl

end

section
/-! SUPPORT. Work on the records of one leg (R97 to R113, R116, R160 to R164): what moves records and directives alone,
and what besides ends a record or moves an isolation run on. A leg without a record is left as it is. -/

namespace Sys2Proof.Machine

/-! ## Records and directives alone -/

/-- A leg whose records and directive queue may have moved, from `x` to `y`; without a record nothing has. -/
structure Leg.MovesRecords (x y : Leg) : Prop where
  frame : y = { x with drops := y.drops, queue := y.queue }
  free : (∀ d, x.record d = none) → y = x

/-- A step that moves records and directives of leg `l`, and nothing else. -/
structure State.MovesRecords (s : State) (l : LegId) (t : State) : Prop where
  frame : t = s.setLeg l (t.leg l)
  leg : (s.leg l).MovesRecords (t.leg l)

theorem State.setLeg_setLeg (s : State) (l : LegId) (x y : Leg) : (s.setLeg l x).setLeg l y = s.setLeg l y := by
  simp [State.setLeg]

theorem State.MovesRecords.refl (s : State) (l : LegId) : s.MovesRecords l s :=
  ⟨(s.setLeg_self l).symm, rfl, fun _ => rfl⟩

theorem State.MovesRecords.trans {s t u : State} {l : LegId} (h : s.MovesRecords l t) (h' : t.MovesRecords l u) :
    s.MovesRecords l u where
  frame := by rw [h'.frame, h.frame, State.setLeg_setLeg, State.setLeg_leg_same]
  leg :=
    { frame := by rw [h'.leg.frame, h.leg.frame]
      free := fun hfree => by
        have hsame := h.leg.free hfree
        exact (h'.leg.free (hsame ▸ hfree)).trans hsame }

theorem State.MovesRecords.ite {s t u : State} {l : LegId} {c : Prop} [Decidable c] (ht : s.MovesRecords l t)
    (hu : s.MovesRecords l u) : s.MovesRecords l (if c then t else u) := by
  split
  · exact ht
  · exact hu

section Live

variable {s : State} {l : LegId} {d : Nat} {r : DropRecord} (hr : s.record l d = some r)
include hr

/-- A leg with a live record is not one without. -/
theorem State.not_free : ¬ ∀ d, (s.leg l).record d = none := fun hfree => nomatch hr.symm.trans (hfree d)

theorem State.movesRecords_setLeg {x : Leg} (hx : x = { s.leg l with drops := x.drops, queue := x.queue }) :
    s.MovesRecords l (s.setLeg l x) := by
  refine ⟨by rw [State.setLeg_leg_same], ?_⟩
  rw [State.setLeg_leg_same]
  exact ⟨hx, fun hfree => absurd hfree (State.not_free hr)⟩

theorem State.movesRecords_setRecord (e : Nat) (o : Option DropRecord) : s.MovesRecords l (s.setRecord l e o) :=
  State.movesRecords_setLeg hr rfl

/-- A record changes, and a directive is queued. -/
theorem State.movesRecords_setRecord_direct (e : Nat) (o : Option DropRecord) (new : Directive) (ident : Identity) :
    s.MovesRecords l ((s.setRecord l e o).direct l new ident) := by
  rw [State.direct, State.mapLeg, State.setRecord, State.setLeg_setLeg, State.setLeg_leg_same]
  exact State.movesRecords_setLeg hr rfl

theorem State.movesRecords_moveLaunch (r' : DropRecord) (launch : LaunchStep) :
    s.MovesRecords l (s.moveLaunch l d r' launch) :=
  State.movesRecords_setRecord_direct hr _ _ _ _

theorem State.movesRecords_level (r' : DropRecord) (a : LevelAttrs) : s.MovesRecords l (s.level l d r' a) := by
  have moved := State.movesRecords_moveLaunch hr r'
  have soak := State.movesRecords_setRecord hr d
  exact .ite (.ite (moved _) (soak _)) (.ite (.ite (moved _) (soak _)) (soak _))

theorem State.movesRecords_levellingEntry (r' : DropRecord) (grant : Cycle) (o : PowerOutcome) :
    s.MovesRecords l (s.levellingEntry l d r' grant o) := by
  have set := State.movesRecords_setRecord hr d
  cases o with
  | unmeasured => exact set _
  | result v a => exact .ite (set _) (.ite (set _) (State.movesRecords_level hr _ a))

theorem State.movesRecords_serviceEntry (r' : DropRecord) (o : PowerOutcome) :
    s.MovesRecords l (s.serviceEntry l d r' o) := by
  cases o with
  | unmeasured => exact .refl s l
  | result v a => exact .ite (State.movesRecords_setRecord hr d _) (State.movesRecords_setRecord hr d _)

end Live

theorem State.movesRecords_takeEntry (s : State) (l : LegId) (d : Nat) (grant : Cycle) (verdict : BurstVerdict)
    (o : PowerOutcome) : s.MovesRecords l (s.takeEntry l d grant verdict o) := by
  unfold State.takeEntry
  split
  · exact .refl s l
  · next hr =>
    refine .ite ?_ (.refl s l)
    split
    · exact State.movesRecords_levellingEntry hr _ grant o
    · exact State.movesRecords_serviceEntry hr _ o
    · exact .refl s l

theorem State.movesRecords_fillVerdict (s : State) (l : LegId) (d : Nat) (grant : Cycle) (verdict : BurstVerdict) :
    s.MovesRecords l (s.fillVerdict l d grant verdict) := by
  unfold State.fillVerdict
  split
  · exact .refl s l
  · next hr =>
    split
    · exact .refl s l
    · split
      · exact State.movesRecords_setRecord hr d _
      · exact (State.movesRecords_setRecord hr d _).trans (State.movesRecords_takeEntry _ _ _ _ _ _)

/-- A power outcome reaches a record of its leg, or none (R97, R101). -/
theorem State.movesRecords_deliverOutcome (s : State) (l : LegId) (ident : Identity) (grant : Cycle)
    (o : PowerOutcome) : s.MovesRecords l (s.deliverOutcome l ident grant o) := by
  unfold State.deliverOutcome
  split
  · exact .refl s l
  · next hr =>
    refine .ite ?_ (.refl s l)
    split
    · exact .refl s l
    · split
      · exact State.movesRecords_setRecord hr _ _
      · exact (State.movesRecords_setRecord hr _ _).trans (State.movesRecords_takeEntry _ _ _ _ _ _)

theorem State.movesRecords_correctDrift (s : State) (l : LegId) (d : Nat) (drift : Int) :
    s.MovesRecords l (s.correctDrift l d drift) := by
  unfold State.correctDrift
  split
  · exact .refl s l
  · next hr => exact .ite (.refl s l) (State.movesRecords_setRecord_direct hr _ _ _ _)

theorem State.movesRecords_driftWork (s : State) (l : LegId) (d : Nat) (v : Delivered) :
    s.MovesRecords l (s.driftWork l d v) := by
  unfold State.driftWork
  split
  · next r drift hr _ =>
    have hlast := State.movesRecords_setRecord hr d (some { r with lastDrift := drift })
    exact .ite (.ite (hlast.trans (State.movesRecords_correctDrift _ _ _ _)) hlast) (.refl s l)
  · exact .refl s l

theorem State.movesRecords_keepReport (s : State) (l : LegId) (d : Nat) (v : Delivered) :
    s.MovesRecords l (s.keepReport l d v) := by
  unfold State.keepReport
  split
  · next hr _ => exact State.movesRecords_setRecord hr d _
  · exact .refl s l

/-- The turn that ends without a culprit moves its record, and queues a Resume (R116). -/
theorem State.movesRecords_endTurn (s : State) (l : LegId) : s.MovesRecords l (s.endTurn l) := by
  unfold State.endTurn
  split
  · exact .refl s l
  · split
    · exact .refl s l
    · split
      · exact .refl s l
      · next hr =>
        exact .ite (.ite (State.movesRecords_setRecord hr _ _) (State.movesRecords_setRecord_direct hr _ _ _ _))
          (.refl s l)

/-! ## Records that end and isolation runs that move on -/

/-- A leg whose records, directive queue and isolation run may have moved, from `x` to `y`: no run begins, and without a
record no more than the run has moved. -/
structure Leg.WorksOn (x y : Leg) : Prop where
  frame : y = { x with drops := y.drops, queue := y.queue, run := y.run }
  run : x.run = none → y.run = none
  free : (∀ d, x.record d = none) → y.drops = x.drops ∧ y.queue = x.queue

/-- A step that works on records of leg `l`, with the roster entries and the notices that go with it. -/
structure State.WorksOn (s : State) (l : LegId) (t : State) : Prop where
  frame : t = { s.setLeg l (t.leg l) with iface := t.iface, roster := t.roster }
  leg : (s.leg l).WorksOn (t.leg l)

theorem State.MovesRecords.worksOn {s t : State} {l : LegId} (h : s.MovesRecords l t) : s.WorksOn l t where
  frame := by
    generalize hx : t.leg l = x
    have hframe := h.frame
    rw [hx] at hframe
    rw [hframe]
  leg :=
    { frame := by rw [h.leg.frame]
      run := fun hrun => by rw [h.leg.frame]; exact hrun
      free := fun hfree => by rw [h.leg.free hfree]; exact ⟨rfl, rfl⟩ }

theorem State.WorksOn.refl (s : State) (l : LegId) : s.WorksOn l s := (State.MovesRecords.refl s l).worksOn

theorem State.WorksOn.trans {s t u : State} {l : LegId} (h : s.WorksOn l t) (h' : t.WorksOn l u) : s.WorksOn l u where
  frame := by
    rw [h'.frame, h.frame]
    simp [State.setLeg, State.leg]
  leg :=
    { frame := by rw [h'.leg.frame, h.leg.frame]
      run := h'.leg.run ∘ h.leg.run
      free := fun hfree => by
        obtain ⟨hdrops, hqueue⟩ := h.leg.free hfree
        have hfree' (d : Nat) : (t.leg l).record d = none := by
          rw [Leg.record, hdrops]
          exact hfree d
        obtain ⟨hdrops', hqueue'⟩ := h'.leg.free hfree'
        exact ⟨hdrops'.trans hdrops, hqueue'.trans hqueue⟩ }

/-- A step after one that works on records. -/
theorem State.WorksOn.after {s t u : State} {l : LegId} (h' : t.WorksOn l u) (h : s.WorksOn l t) : s.WorksOn l u :=
  h.trans h'

theorem State.WorksOn.ite {s t u : State} {l : LegId} {c : Prop} [Decidable c] (ht : s.WorksOn l t)
    (hu : s.WorksOn l u) : s.WorksOn l (if c then t else u) := by
  split
  · exact ht
  · exact hu

theorem State.worksOn_notify (s : State) (l : LegId) (n : Notice) : s.WorksOn l (s.notify n) := by
  refine ⟨?_, rfl, id, fun _ => ⟨rfl, rfl⟩⟩
  rw [State.notify_leg, State.setLeg_self]
  rfl

theorem State.worksOn_unlink (s : State) (l : LegId) (i : Nat) : s.WorksOn l (s.unlink i) := by
  refine ⟨?_, ?_⟩
  · rw [State.unlink_leg, State.setLeg_self]
    unfold State.unlink
    split <;> rfl
  · rw [State.unlink_leg]
    exact ⟨rfl, id, fun _ => ⟨rfl, rfl⟩⟩

theorem State.worksOn_setRun (s : State) (l : LegId) {run : Option IsolationRun}
    (hrun : (s.leg l).run = none → run = none) : s.WorksOn l (s.mapLeg l fun x => { x with run := run }) := by
  refine ⟨?_, ?_⟩
  · rw [State.mapLeg_leg_same]
    rfl
  · rw [State.mapLeg_leg_same]
    exact ⟨rfl, hrun, fun _ => ⟨rfl, rfl⟩⟩

theorem State.worksOn_endRun (s : State) (l : LegId) (outcome : RunOutcome) (culprit : Option (Nat × FactoryTag)) :
    s.WorksOn l (s.endRun l outcome culprit) := by
  unfold State.endRun
  split
  · exact .refl s l
  · exact (State.worksOn_notify _ l _).after (s.worksOn_setRun l fun _ => rfl)

/-- The turn that begins next is one of an active run (R161, R163). -/
theorem worksOn_beginTurn {s : State} {l : LegId} (hrun : (s.leg l).run ≠ none) (run : IsolationRun)
    (ts : List Identity) (pos : Nat) : s.WorksOn l (beginTurn l run ts pos s) := by
  induction ts generalizing pos with
  | nil => exact s.worksOn_endRun l .none none
  | cons t ts ih =>
    unfold beginTurn
    split
    · exact ih (pos + 1)
    · next r hr =>
      refine .ite ?_ (ih (pos + 1))
      rw [State.direct, State.mapLeg, State.mapLeg, State.setRecord, State.setLeg_setLeg, State.setLeg_setLeg,
        State.setLeg_leg_same, State.setLeg_leg_same]
      refine ⟨by rw [State.setLeg_leg_same], ?_⟩
      rw [State.setLeg_leg_same]
      exact ⟨rfl, fun h => absurd h hrun, fun hfree => absurd hfree (State.not_free hr)⟩

theorem State.worksOn_nextTurn (s : State) (l : LegId) : s.WorksOn l (s.nextTurn l) := by
  unfold State.nextTurn
  split
  · exact .refl s l
  · next run hrun => exact worksOn_beginTurn (by rw [hrun]; exact nofun) run _ _

theorem State.worksOn_nameCulprit (s : State) (l : LegId) : s.WorksOn l (s.nameCulprit l) := by
  unfold State.nameCulprit
  split
  · exact .refl s l
  · split
    · exact .refl s l
    · split
      · exact .refl s l
      · next hr => exact (State.worksOn_endRun _ _ _ _).after (State.movesRecords_setRecord hr _ _).worksOn

/-- A record ends: its link and its queue entry with it, and a turn that it was in (R98, R163). -/
theorem State.worksOn_endRecord (s : State) (l : LegId) (d : Nat) (reason : EndReason) (release : Bool) :
    s.WorksOn l (s.endRecord l d reason release) := by
  unfold State.endRecord
  split
  · exact .refl s l
  · next r hr =>
    have hr' : (s.unlink r.rosterIndex).record l d = some r := (s.unlink_record _ l d).trans hr
    have hfreed : (s.unlink r.rosterIndex).MovesRecords l
        ((if release then (s.unlink r.rosterIndex).direct l (.release d) r.ident
          else (s.unlink r.rosterIndex).mapLeg l fun x => x.clearFollow d).setRecord l d none) := by
      split
      all_goals
        simp only [State.direct, State.mapLeg, State.setRecord, State.setLeg_setLeg, State.setLeg_leg_same]
        exact State.movesRecords_setLeg hr' rfl
    have hended := (s.worksOn_unlink l r.rosterIndex).trans hfreed.worksOn
    exact .ite ((State.worksOn_nextTurn _ l).after ((State.worksOn_notify _ l _).after hended))
      ((State.worksOn_notify _ l _).after hended)

/-! ## Verdicts -/

section Counted

variable {s : State} {l : LegId} {d : Nat} {r : DropRecord} (hr : s.record l d = some r)
include hr

theorem State.worksOn_enrolMiss (grant : Cycle) (r' : DropRecord) : s.WorksOn l (s.enrolMiss l d grant r') := by
  have set := fun o => (State.movesRecords_setRecord hr d o).worksOn
  have again := fun o new ident => (State.movesRecords_setRecord_direct hr d o new ident).worksOn
  exact .ite (.ite (.ite (again _ _ _) ((set _).trans (State.worksOn_endRecord _ _ _ _ _))) (set _)) (.refl s l)

theorem State.worksOn_soakMiss (r' : DropRecord) : s.WorksOn l (s.soakMiss l d r') := by
  have set := fun o => (State.movesRecords_setRecord hr d o).worksOn
  exact .ite ((set _).trans (State.worksOn_endRecord _ _ _ _ _)) (set _)

theorem State.worksOn_soakGood (r' : DropRecord) : s.WorksOn l (s.soakGood l d r') := by
  have set := fun o => (State.movesRecords_setRecord hr d o).worksOn
  exact .ite ((set _).trans (State.worksOn_notify _ l _)) (set _)

theorem State.worksOn_serviceMiss (r' : DropRecord) : s.WorksOn l (s.serviceMiss l d r') := by
  have set := fun o => (State.movesRecords_setRecord hr d o).worksOn
  exact .ite ((set _).trans (State.worksOn_endRecord _ _ _ _ _)) (set _)

end Counted

theorem State.worksOn_countVerdict (s : State) (l : LegId) (d : Nat) (v : Delivered) :
    s.WorksOn l (s.countVerdict l d v) := by
  unfold State.countVerdict
  split
  · exact .refl s l
  · next r hr =>
    have set := fun o => (State.movesRecords_setRecord hr d o).worksOn
    dsimp only
    split
    · exact .ite (set _) (State.worksOn_enrolMiss hr _ _)
    · exact .ite (.refl s l) (State.worksOn_soakMiss hr _)
    · exact .ite (State.worksOn_soakGood hr _) (State.worksOn_soakMiss hr _)
    · exact .ite (set _) (State.worksOn_serviceMiss hr _)
    · exact .refl s l

theorem State.worksOn_takeVerdict (s : State) (l : LegId) (d : Nat) (v : Delivered) :
    s.WorksOn l (s.takeVerdict l d v) := by
  unfold State.takeVerdict
  split
  · exact .refl s l
  · refine .ite (.refl s l) ?_
    split
    · exact .refl s l
    · exact s.worksOn_endRecord _ _ _ _
    · exact ((s.movesRecords_keepReport l d v).trans (State.movesRecords_driftWork _ _ _ _)).worksOn.trans
        (State.worksOn_countVerdict _ _ _ _)
    · exact s.worksOn_countVerdict _ _ _

/-- A verdict reaches a record of its leg, or none (R97, R100). -/
theorem State.worksOn_deliverVerdict (s : State) (l : LegId) (x : Expectation) (look : BurstLook) (judged : Bool) :
    s.WorksOn l (s.deliverVerdict l x look judged) := by
  unfold State.deliverVerdict
  split
  · exact .refl s l
  · exact .ite ((s.worksOn_takeVerdict l _ _).trans (State.movesRecords_fillVerdict _ _ _ _ _).worksOn) (.refl s l)

end Sys2Proof.Machine
end

section
/-! SUPPORT. The bias leaves READY (R57, R66, R133, R147, R164): phase by phase, on each leg, on the Level Meter and on
the notices. -/

namespace Sys2Proof.Machine

theorem State.MovesRecords.onLegs {s t : State} {l : LegId} (h : s.MovesRecords l t) : OnLegs [l] [] s t := by
  rw [h.frame]
  exact onLegs_setLeg s l _

theorem State.MovesRecords.meter {s t : State} {l : LegId} (h : s.MovesRecords l t) : t.meter = s.meter := by
  rw [h.frame]
  rfl

/-! ## RUNNING legs become BLIND (R147) -/

/-- The LEG-STATE notice of a leg that becomes BLIND. -/
def blindNotices (s : State) (l : LegId) : List Notice :=
  if (s.leg l).state = .running then [.legState l .blind (s.leg l).count] else []

theorem blindNotices_congr (s t : State) (l : LegId) (hl : t.leg l = s.leg l) (_ : t.bias = s.bias) :
    blindNotices t l = blindNotices s l := by
  simp only [blindNotices, hl]

/-- A leg as the departure from READY leaves its state. -/
def Leg.blinded (x : Leg) : Leg := { x with state := if x.state = .running then .blind else x.state }

theorem blindLeg_onLegs (s : State) (l : LegId) : OnLegs [l] (blindNotices s l) s (s.blindLeg l) := by
  unfold State.blindLeg blindNotices
  split
  · exact (onLegs_mapLeg s l _).trans (onLegs_notify [l] _ _)
  · exact .refl [l] s

theorem blindLeg_leg (s : State) (l : LegId) : (s.blindLeg l).leg l = (s.leg l).blinded := by
  unfold State.blindLeg Leg.blinded
  by_cases h : (s.leg l).state = .running <;> simp [h]

theorem blindLeg_meter (s : State) (l : LegId) : (s.blindLeg l).meter = s.meter := by
  unfold State.blindLeg
  split <;> rfl

/-! ## Isolation runs are aborted (R164) -/

/-- The ISOLATION-DONE notice of a leg whose run is aborted. -/
def abortNotices (s : State) (l : LegId) : List Notice :=
  (s.leg l).run.toList.map fun run => .isolationDone l .aborted none none run.begun (s.leg l).count

theorem abortNotices_congr (s t : State) (l : LegId) (hl : t.leg l = s.leg l) (_ : t.bias = s.bias) :
    abortNotices t l = abortNotices s l := by
  simp only [abortNotices, hl]

theorem leavingNotices_eq (s : State) :
    leavingNotices s = Quad.all.flatMap (blindNotices s) ++ Quad.all.flatMap (abortNotices s) := by
  unfold leavingNotices
  rw [map_filter_eq_flatMap]
  refine congrArg₂ _ (List.flatMap_congr fun l _ => ?_) (List.flatMap_congr fun l _ => ?_)
  · simp [blindNotices]
  · unfold abortNotices
    cases (s.leg l).run <;> rfl

theorem endRun_onLegs (s : State) (l : LegId) : OnLegs [l] (abortNotices s l) s (s.endRun l .aborted none) := by
  unfold State.endRun abortNotices
  split
  · next h => rw [h]; exact .refl [l] s
  · next h => rw [h]; exact (onLegs_mapLeg s l _).trans (onLegs_notify [l] _ _)

theorem abortRun_onLegs (s : State) (l : LegId) : OnLegs [l] (abortNotices s l) s (s.abortRun l) := by
  have hturn := s.movesRecords_endTurn l
  have hsame : abortNotices (s.endTurn l) l = abortNotices s l := by
    unfold abortNotices
    rw [hturn.leg.frame]
  have hrun := endRun_onLegs (s.endTurn l) l
  rw [hsame] at hrun
  exact hturn.onLegs.trans hrun

theorem State.worksOn_abortRun (s : State) (l : LegId) : s.WorksOn l (s.abortRun l) :=
  (s.movesRecords_endTurn l).worksOn.trans (State.worksOn_endRun _ l _ _)

theorem State.endRun_run (s : State) (l : LegId) (outcome : RunOutcome) (culprit : Option (Nat × FactoryTag)) :
    ((s.endRun l outcome culprit).leg l).run = none := by
  unfold State.endRun
  split
  · assumption
  · rw [State.notify_leg, State.mapLeg_leg_same]

/-- A leg whose run is ended, from `x` to `y`, its turn with it: its records and its directive queue may have moved. -/
structure Leg.Aborts (x y : Leg) : Prop where
  frame : y = { x with run := none, drops := y.drops, queue := y.queue }
  free : (∀ d, x.record d = none) → y.drops = x.drops ∧ y.queue = x.queue

theorem abortRun_leg (s : State) (l : LegId) : (s.leg l).Aborts ((s.abortRun l).leg l) := by
  have hworks := (s.worksOn_abortRun l).leg
  have hrun : ((s.abortRun l).leg l).run = none := State.endRun_run _ l _ _
  refine ⟨?_, hworks.free⟩
  have hframe := hworks.frame
  rwa [hrun] at hframe

theorem State.WorksOn.meter {s t : State} {l : LegId} (h : s.WorksOn l t) : t.meter = s.meter := by
  rw [h.frame]
  rfl

/-! ## The operation in hand is abandoned (R66, R133) -/

/-- A window scan as the abandoned operation leaves it: an announce that awaits the sample in hand has none. -/
def WindowScan.abandoned (op : Converter) (l : LegId) (w : WindowScan) : WindowScan :=
  { w with
    found := w.found.map fun f =>
      if announceSampled op = some (l, f.a) ∧ f.sample = .awaited then { f with sample := .abandoned } else f }

/-- An operation that is no announce's sample is abandoned without effect on a scan. -/
theorem WindowScan.abandoned_other {op : Converter} {l : LegId} (h : ∀ a, announceSampled op ≠ some (l, a))
    (w : WindowScan) : w.abandoned op l = w := by
  simp [WindowScan.abandoned, h]

/-- A leg as the abandoned operation leaves it, from `x` to `y`. -/
structure Leg.Abandons (op : Converter) (l : LegId) (x y : Leg) : Prop where
  frame : y = { x.mapScan (WindowScan.abandoned op l) with drops := y.drops, queue := y.queue }
  free : (∀ d, x.record d = none) → y.drops = x.drops ∧ y.queue = x.queue

theorem Leg.mapScan_id (x : Leg) : x.mapScan (fun w => w) = x := by
  rw [Leg.mapScan_eq, Option.map_id']

theorem Leg.Abandons.of_other {op : Converter} {l : LegId} {x y : Leg} (h : ∀ a, announceSampled op ≠ some (l, a))
    (hmoves : x.MovesRecords y) : x.Abandons op l y := by
  have hid : WindowScan.abandoned op l = fun w => w := funext (WindowScan.abandoned_other h)
  refine ⟨?_, fun hfree => by rw [hmoves.free hfree]; exact ⟨rfl, rfl⟩⟩
  rw [hid, Leg.mapScan_id]
  exact hmoves.frame

theorem State.MovesRecords.legs {s t : State} {l : LegId} (h : s.MovesRecords l t) (k : LegId) :
    (s.leg k).MovesRecords (t.leg k) := by
  by_cases hk : k = l
  · rw [hk]
    exact h.leg
  · rw [h.onLegs.others k (by simpa using hk)]
    exact ⟨rfl, fun _ => rfl⟩

/-- What the abandoned operation leaves, from `s` to `t`. -/
structure Abandons (s t : State) : Prop where
  onLegs : OnLegs Quad.all [] s t
  meter : t.meter = { s.meter with converter := .idle, wants := t.meter.wants }
  wants : ∀ l, s.meter.wants.get l = [] → t.meter.wants.get l = []
  leg : ∀ l, (s.leg l).Abandons s.meter.converter l (t.leg l)

theorem abandon_abandons (s : State) : Abandons s s.abandon := by
  have hidle : OnLegs Quad.all [] s (s.setMeter { s.meter with converter := .idle }) := onLegs_setMeter _ s rfl
  unfold State.abandon
  dsimp only
  split
  · next h =>
    refine ⟨.refl _ s, by rw [← h], fun _ hl => hl, fun l => .of_other (fun a => ?_) ⟨rfl, fun _ => rfl⟩⟩
    rw [h]
    exact nofun
  · next l q _ _ _ h =>
    have hmoves := (s.setMeter { s.meter with converter := .idle }).movesRecords_deliverOutcome l q.ident q.cycle
      .unmeasured
    refine ⟨hidle.trans (hmoves.onLegs.mono fun k _ => mem_quad_all k), ?_, fun k hk => ?_,
      fun k => .of_other (fun a => ?_) (hmoves.legs k)⟩
    · rw [hmoves.meter]
      rfl
    · rw [hmoves.meter]
      exact hk
    · rw [h]
      exact nofun
  · next l a _ _ _ h =>
    refine ⟨hidle.trans ((onLegs_mapLeg _ l _).mono fun k _ => mem_quad_all k), rfl, fun _ hk => hk, fun k => ?_⟩
    rw [State.mapLeg_leg]
    split
    · next hk =>
      subst hk
      refine ⟨?_, fun _ => ⟨rfl, rfl⟩⟩
      have hscan : (fun w : WindowScan => w.result a .abandoned) = WindowScan.abandoned s.meter.converter k := by
        funext w
        simp only [WindowScan.result, WindowScan.abandoned, h, announceSampled, Option.some.injEq, Prod.mk.injEq,
          true_and, eq_comm (a := a)]
      rw [hscan]
      rfl
    · next hk =>
      refine .of_other (fun b hb => hk ?_) ⟨rfl, fun _ => rfl⟩
      rw [h] at hb
      exact (congrArg Prod.fst (Option.some.inj hb)).symm
  · next l k _ h =>
    refine ⟨hidle.trans (onLegs_setMeter _ _ rfl), rfl, fun j hj => ?_, fun j => .of_other (fun a => ?_)
      ⟨rfl, fun _ => rfl⟩⟩
    · show (s.meter.wants.set l _).get j = []
      rw [Four.get_set]
      split
      · next hjl =>
        subst hjl
        exact List.map_eq_nil_iff.mpr hj
      · exact hj
    · rw [h]
      exact nofun

/-! ## The other announces in judgement are dropped (R57, R133) -/

theorem dropAnnounces_onLegs (s : State) (l : LegId) :
    OnLegs [l] [] s (s.mapLeg l (Leg.dropAnnounces s.bias.readySince)) :=
  onLegs_mapLeg s l _

/-- A leg as the departure from READY leaves it, from `x` to `y`: BLIND when it was RUNNING, without a run, with the
announces that its scan keeps. -/
structure Leg.LeavesReady (s : State) (l : LegId) (x y : Leg) : Prop where
  frame : y =
    { x with
      state := if x.state = .running then .blind else x.state, run := none,
      receiver :=
        { x.receiver with scan := x.receiver.scan.map fun w => { w with found := keptAnnounces s l w } },
      drops := y.drops, queue := y.queue }
  free : (∀ d, x.record d = none) → y.drops = x.drops ∧ y.queue = x.queue

/-- What the departure from READY leaves, from `s` to `t`. -/
structure LeavesReady (s t : State) : Prop where
  onLegs : OnLegs Quad.all (leavingNotices s) s t
  meter : t.meter = { s.meter with converter := .idle, wants := t.meter.wants }
  wants : ∀ l, s.meter.wants.get l = [] → t.meter.wants.get l = []
  leg : ∀ l, (s.leg l).LeavesReady s l (t.leg l)

/-- The announces that a scan keeps are those that the abandoned operation and the departure leave. -/
theorem kept_found (s : State) (l : LegId) (w : WindowScan) :
    ((w.abandoned s.meter.converter l).found.filter fun f =>
      decide (f.sample = .abandoned) && f.ended && decide (s.bias.readySince + 48 ≤ w.marker + f.a)) =
      keptAnnounces s l w := by
  refine List.filter_congr fun f _ => ?_
  simp [Bool.and_assoc]

theorem Leg.leaves_of_phases {s : State} {l : LegId} {x y z : Leg} (hy : x.blinded.Aborts y)
    (hz : y.Abandons s.meter.converter l z) : x.LeavesReady s l (z.dropAnnounces s.bias.readySince) := by
  have hdrops : (z.dropAnnounces s.bias.readySince).drops = z.drops := rfl
  have hqueue : (z.dropAnnounces s.bias.readySince).queue = z.queue := rfl
  refine ⟨?_, fun hfree => ?_⟩
  · rw [hdrops, hqueue, hz.frame, hy.frame]
    simp only [Leg.dropAnnounces, Leg.mapScan, Leg.mapReceiver, Leg.blinded, Option.map_map]
    simp only [Function.comp_def, ← kept_found]
    rfl
  · obtain ⟨hyd, hyq⟩ := hy.free hfree
    obtain ⟨hzd, hzq⟩ := hz.free fun d => by rw [Leg.record, hyd]; exact hfree d
    exact ⟨hzd.trans hyd, hzq.trans hyq⟩

theorem leaveReady_leavesReady (s : State) : LeavesReady s s.leaveReady := by
  have hblind := onLegs_foldl blindLeg_onLegs blindNotices_congr nodup_quad_all s
  have hblindLeg := fun l => foldl_leg blindLeg_onLegs blindNotices_congr nodup_quad_all s (mem_quad_all l)
  have hblindMeter : (Quad.all.foldl State.blindLeg s).meter = s.meter :=
    List.foldlRecOn (motive := fun t : State => t.meter = s.meter) Quad.all _ rfl fun t ht l _ =>
      (blindLeg_meter t l).trans ht
  unfold State.leaveReady
  dsimp only
  generalize Quad.all.foldl State.blindLeg s = u at *
  have habort := onLegs_foldl abortRun_onLegs abortNotices_congr nodup_quad_all u
  have habortLeg := fun l => foldl_leg abortRun_onLegs abortNotices_congr nodup_quad_all u (mem_quad_all l)
  have habortMeter : (Quad.all.foldl State.abortRun u).meter = u.meter :=
    List.foldlRecOn (motive := fun t : State => t.meter = u.meter) Quad.all _ rfl fun t ht l _ =>
      (t.worksOn_abortRun l).meter.trans ht
  generalize Quad.all.foldl State.abortRun u = v at *
  obtain ⟨habandon, habandonMeter, habandonWants, habandonLeg⟩ := abandon_abandons v
  generalize v.abandon = w at *
  have hdrop : OnLegs Quad.all [] w _ :=
    onLegs_foldl (notices := fun _ _ => []) dropAnnounces_onLegs (fun _ _ _ _ _ => rfl) nodup_quad_all w
  have hdropLeg := fun l => foldl_leg (notices := fun _ _ => []) dropAnnounces_onLegs (fun _ _ _ _ _ => rfl)
    nodup_quad_all w (mem_quad_all l)
  have hdropMeter : (Quad.all.foldl (fun s l => s.mapLeg l (Leg.dropAnnounces s.bias.readySince)) w).meter =
      w.meter :=
    List.foldlRecOn (motive := fun t : State => t.meter = w.meter) Quad.all _ rfl fun t ht l _ => ht
  generalize Quad.all.foldl (fun s l => s.mapLeg l (Leg.dropAnnounces s.bias.readySince)) w = t at *
  have hmeter : v.meter = s.meter := habortMeter.trans hblindMeter
  have hnotices : Quad.all.flatMap (abortNotices u) = Quad.all.flatMap (abortNotices s) := by
    refine List.flatMap_congr fun l _ => ?_
    obtain ⟨u', hleg, -, hstep⟩ := hblindLeg l
    simp only [abortNotices, hstep, blindLeg_leg, hleg]
    rfl
  rw [hnotices] at habort
  have hall := ((hblind.trans habort).quiet habandon).quiet hdrop
  rw [← leavingNotices_eq] at hall
  refine ⟨hall, ?_, fun l hl => ?_, fun l => ?_⟩
  · rw [hdropMeter, habandonMeter, hmeter]
  · rw [hdropMeter]
    exact habandonWants l (hmeter ▸ hl)
  · obtain ⟨u', hu, -, hustep⟩ := hblindLeg l
    obtain ⟨v', hv, -, hvstep⟩ := habortLeg l
    obtain ⟨w', hw, hwbias, hwstep⟩ := hdropLeg l
    have haborts := abortRun_leg v' l
    rw [← hvstep, hv, hustep, blindLeg_leg, hu] at haborts
    have habandons := habandonLeg l
    rw [hmeter] at habandons
    have hsince : w'.bias.readySince = s.bias.readySince := by
      rw [hwbias, habandon.bias, habort.bias, hblind.bias]
    rw [hwstep, State.mapLeg_leg_same, hw, hsince]
    exact Leg.leaves_of_phases haborts habandons

end Sys2Proof.Machine
end

section
/-! SUPPORT. BIAS OFF in READY and a sag in READY (R140, R142): each leaves READY from a state that differs in the bias,
the rail and the interface only. -/

namespace Sys2Proof.Machine

theorem Interface.taken_foldl_place (ns : List Notice) (i : Interface) (tag code : Byte) :
    ns.foldl Interface.place (i.taken tag code) = (ns.foldl Interface.place i).taken tag code := by
  induction ns generalizing i with
  | nil => rfl
  | cons n ns ih => rw [List.foldl_cons, Interface.taken_place, ih, List.foldl_cons]

/-- What the departure from READY says of a leg, value by value. -/
theorem Leg.LeavesReady.fields {s : State} {l : LegId} {x y : Leg} (h : x.LeavesReady s l y) :
    y.state = (if x.state = .running then .blind else x.state) ∧ y.run = none ∧
      y.receiver =
        { x.receiver with scan := x.receiver.scan.map fun w => { w with found := keptAnnounces s l w } } ∧
      y.count = x.count ∧ y.hold = x.hold ∧ y.setup = x.setup ∧ y.derived = x.derived ∧ y.calendar = x.calendar ∧
      y.downstream = x.downstream ∧ y.startPending = x.startPending ∧ y.finalPending = x.finalPending := by
  rw [h.frame]
  exact ⟨rfl, rfl, rfl, rfl, rfl, rfl, rfl, rfl, rfl, rfl, rfl⟩

section Left

variable {s v : State} {i : Interface} {b : Bias} {r : Rail}

/-- The announces kept do not depend on the bias but for the instant of READY. -/
theorem keptAnnounces_congr (hb : b.readySince = s.bias.readySince) :
    keptAnnounces { s with iface := i, bias := b, rail := r } = keptAnnounces s := by
  funext l w
  simp only [keptAnnounces, hb]

theorem LeavesReady.leftReady (h : LeavesReady { s with iface := i, bias := b, rail := r } v)
    (hb : b.readySince = s.bias.readySince) (hreset : s.inReset = none) (j : Interface) :
    LeftReady s { v with iface := j } := by
  have hmeter := h.meter
  refine ⟨fun l => ?_, by rw [hmeter], by rw [hmeter], by rw [hmeter], by rw [hmeter], by rw [hmeter], h.onLegs.roster,
    h.onLegs.candidates, h.onLegs.params, h.onLegs.boundaries, h.onLegs.inReset.trans hreset⟩
  have hfields := (h.leg l).fields
  rw [keptAnnounces_congr hb] at hfields
  exact hfields

end Left

/-- The Bias Supply as it leaves READY, with both counts at 0 (R139). -/
def Bias.leaving (b : Bias) (state : BiasState) : Bias := { b with state := state, settle := 0, recovery := 0 }

variable {s : State}

/-- BIAS OFF in READY (R140). -/
theorem State.biasOff_ready (h : s.bias.state = .ready) :
    s.biasOff = (s.setBias (s.bias.leaving .off)).leaveReady := by
  simp only [State.biasOff, h]
  rfl

theorem answerBias_off_ready (h : s.bias.state = .ready) :
    answerBias [0#8] s = ⟨(s.setBias (s.bias.leaving .off)).leaveReady, .done, [0#8]⟩ := by
  have hbias := (leaveReady_leavesReady (s.setBias (s.bias.leaving .off))).onLegs.bias
  show done s.biasOff (u8 (biasNo s.biasOff.bias.state)) = _
  rw [State.biasOff_ready h, hbias]
  rfl

/-- A sag in READY (R142, R144). -/
theorem State.enterSag_ready (h : s.bias.state = .ready) :
    s.enterSag =
      State.leaveReady
        { s with
          iface := (s.iface.place (.railSag .tripped)).place (.biasState .tripped .ready .sag),
          bias := s.bias.leaving .tripped, rail := { state := .sag, latch := true, sagSeen := true } } := by
  simp only [State.enterSag, h]
  rfl

end Sys2Proof.Machine

open Sys2Proof Sys2Proof.Machine

/-- Settles O7: BIAS OFF and the sag each leave READY, from the bias, the rail and the notices that they enter. -/
theorem leavingReadyBlindsTheLegs : Obligations.LeavingReadyBlindsTheLegs := by
  unfold Obligations.LeavingReadyBlindsTheLegs
  refine ⟨fun tag s htakes hready => ?_, fun s hreset hnormal hready => ?_⟩
  · have hact := answerBias_off_ready (s := s.took tag 0x03#8) hready
    have hleaves : LeavesReady
        { s with iface := s.iface.taken tag 0x03#8, bias := s.bias.leaving .off, rail := s.rail } _ :=
      leaveReady_leavesReady ((s.took tag 0x03#8).setBias ((s.took tag 0x03#8).bias.leaving .off))
    generalize State.leaveReady _ = v at hact hleaves
    have hiface := hleaves.onLegs.iface.trans (Interface.taken_foldl_place (leavingNotices s) s.iface tag 0x03#8)
    exact ⟨_, event_answered htakes hact hiface, hleaves.onLegs.bias, hleaves.onLegs.rail,
      hleaves.leftReady rfl htakes.1 _, rfl⟩
  · have hexec : exec .railSag s = .next s.enterSag.arbitrate := by
      show event _ s = _
      rw [event_alive _ hreset, if_pos hnormal]
    have hleaves := leaveReady_leavesReady
      { s with
        iface := (s.iface.place (.railSag .tripped)).place (.biasState .tripped .ready .sag),
        bias := s.bias.leaving .tripped, rail := { state := .sag, latch := true, sagSeen := true } }
    rw [← State.enterSag_ready hready] at hleaves
    generalize s.enterSag = v at hexec hleaves
    exact ⟨_, hexec, hleaves.onLegs.bias, hleaves.onLegs.rail, hleaves.leftReady rfl hreset _,
      congrArg Interface.arbitrate hleaves.onLegs.iface⟩

end

section
/-! SUPPORT. CAL-LOAD and CAL-READ (R136 to R138): the values that a calibration table admits, and the values of the
reply. -/

namespace Sys2Proof.Machine

/-! ## CAL-LOAD (R137) -/

theorem notFalling_iff (vs : List Int) :
    notFalling vs = true ↔ ∀ (i : Nat) (a b : Int), vs[i]? = some a → vs[i + 1]? = some b → a ≤ b := by
  induction vs with
  | nil => simp [notFalling]
  | cons v vs ih =>
    cases vs with
    | nil => simp [notFalling]
    | cons w vs =>
      rw [notFalling, Bool.and_eq_true, decide_eq_true_eq, ih]
      constructor
      · rintro ⟨hfirst, hrest⟩ i a b ha hb
        cases i with
        | zero =>
          obtain rfl : v = a := by simpa using ha
          obtain rfl : w = b := by simpa using hb
          exact hfirst
        | succ i => exact hrest i a b ha hb
      · exact fun h => ⟨h 0 v w rfl rfl, fun i a b => h (i + 1) a b⟩

/-- A table is admitted when its values stand in −500..+100 and none is lower than the one before it (R136). -/
theorem tableOk_iff (vs : List Int) :
    tableOk vs = true ↔ (∀ v ∈ vs, -500 ≤ v ∧ v ≤ 100) ∧
      ∀ (i : Nat) (a b : Int), vs[i]? = some a → vs[i + 1]? = some b → a ≤ b := by
  simp only [tableOk, Bool.and_eq_true, List.all_eq_true, decide_eq_true_eq, notFalling_iff]

/-- A table that holds a value out of range, or one lower than the one before it, is not admitted. -/
theorem tableOk_eq_false {vs : List Int}
    (h : (∃ v ∈ vs, v < -500 ∨ 100 < v) ∨ ∃ i a b, vs[i]? = some a ∧ vs[i + 1]? = some b ∧ b < a) :
    tableOk vs = false := by
  refine Bool.eq_false_iff.mpr fun hok => ?_
  obtain ⟨hrange, hrising⟩ := (tableOk_iff vs).mp hok
  rcases h with ⟨v, hv, hout⟩ | ⟨i, a, b, ha, hb, hlower⟩
  · have hin := hrange v hv
    omega
  · exact absurd (hrising i a b ha hb) (Int.not_le.mpr hlower)

section Load

variable {payload : List Byte} {f : CalLoadFields} (hparse : parseCalLoad payload = some f) (s : State)
include hparse

theorem answerCalLoad_refused (h : Quad.ofNat? f.range = none ∨ tableOk f.values = false) :
    answerCalLoad payload s = refuse .outOfRange s := by
  rw [answerCalLoad, parsed_some _ _ hparse]
  split
  · rfl
  · next hrange =>
    rw [h.resolve_left (by rw [hrange]; exact nofun)]
    exact if_neg Bool.false_ne_true

theorem answerCalLoad_done {k : RangeId} (hrange : Quad.ofNat? f.range = some k) (hok : tableOk f.values = true) :
    answerCalLoad payload s = done (s.setMeter { s.meter with tables := s.meter.tables.set k f.values }) [] := by
  rw [answerCalLoad, parsed_some _ _ hparse, hrange]
  exact if_pos hok

end Load

/-! ## CAL-READ (R138) -/

/-- The byte of a range on a want list (R138, R177). -/
theorem wantByte_eq (ws : List Want) (k : RangeId) :
    wantByte ws k = [match ws.find? (fun w => decide (w.range = k)) with
      | none => 0xFF#8
      | some w => if w.scheduled then 1#8 else 0#8] := by
  unfold wantByte
  cases ws.find? fun w => decide (w.range = k) with
  | none => rfl
  | some w => cases hw : w.scheduled <;> simp [optByte, u8, hw]

/-- The bytes of the converter (R138, R177). -/
theorem Converter.values_eq (c : Converter) :
    c.values = match c with
      | .idle => [0#8, 0xFE#8, 0xFF#8, 0xFF#8]
      | .sampling l (.drop q) _ _ _ => [1#8] ++ u8 l.val ++ u8 q.ident.drop ++ [0xFF#8]
      | .sampling l (.announce _) _ _ _ => [1#8] ++ u8 l.val ++ [0xFF#8, 0xFF#8]
      | .calibrating l j _ => [2#8] ++ u8 l.val ++ [0xFF#8] ++ u8 j.val := by
  cases c with
  | idle => rfl
  | sampling l target => cases target <;> rfl
  | calibrating => rfl

theorem answerCalRead_refused {b : Byte} (s : State) (h : Quad.ofNat? b.toNat = none) :
    answerCalRead [b] s = refuse .outOfRange s := by
  rw [answerCalRead, parsed_some (f := b.toNat) _ _ rfl, h]

theorem answerCalRead_done {b : Byte} {k : RangeId} (s : State) (h : Quad.ofNat? b.toNat = some k) :
    answerCalRead [b] s = done s (s.meter.values k) := by
  rw [answerCalRead, parsed_some (f := b.toNat) _ _ rfl, h]

end Sys2Proof.Machine

open Sys2Proof Sys2Proof.Machine

/-- Settles O27: the range, and then the values of the table. -/
theorem calLoadReplacesTheTable : Obligations.CalLoadReplacesTheTable := by
  unfold Obligations.CalLoadReplacesTheTable
  refine fun tag payload f s htakes hparse => ⟨fun hout => ?_, fun k hrange hvalues hrising => ?_⟩
  · exact event_refused htakes (answerCalLoad_refused hparse _ (hout.imp_right tableOk_eq_false))
  · exact event_answered htakes (answerCalLoad_done hparse _ hrange ((tableOk_iff _).mpr ⟨hvalues, hrising⟩)) rfl

/-- Settles O28: the reply's values are those of the Level Meter, byte by byte. -/
theorem calReadReportsARange : Obligations.CalReadReportsARange := by
  unfold Obligations.CalReadReportsARange
  refine fun tag b s htakes => ⟨fun hnone => event_refused htakes (answerCalRead_refused _ hnone), fun k hk => ?_⟩
  have hreported := event_reported (code := 0x39#8) htakes (answerCalRead_done (s.took tag 0x39#8) hk)
  refine hreported.trans ?_
  congr 4
  simp only [Meter.values, wantByte_eq, Converter.values_eq]
  rfl

end

section
/-! SUPPORT. The Bias Supply at a boundary, and the count of a boundary taken ahead of it (R126, R127, R141, R143,
R147). -/

namespace Sys2Proof.Machine

/-! ## The count (R141, R143) -/

/-- The Bias Supply as it has counted the boundary of an instant, under a rail. -/
def Bias.counted (b : Bias) (rail : Rail) (instant : Nat) : Bias :=
  match b.state with
  | .off => b
  | .ready => b
  | .settling =>
    if 120 ≤ b.settle + 1 then { b with state := .ready, settle := 0, readySince := instant }
    else { b with settle := b.settle + 1 }
  | .tripped =>
    if rail.steady then
      if 40 ≤ b.recovery + 1 then { b with state := .settling, settle := 0, recovery := 0 }
      else { b with recovery := b.recovery + 1 }
    else { b with recovery := 0 }

theorem enterReady_bias (s : State) (instant : Nat) :
    (s.enterReady instant).bias = { s.bias with state := .ready, settle := 0, readySince := instant } := by
  unfold State.enterReady
  exact (onLegs_foldl wakeLeg_onLegs wakeNotices_congr nodup_quad_all _).bias

theorem enterReady_meter (s : State) (instant : Nat) : (s.enterReady instant).meter = s.meter.invalidateAll := by
  unfold State.enterReady
  rw [wakeLegs_meter]
  rfl

theorem countBias_bias (s : State) (instant : Nat) : (s.countBias instant).bias = s.bias.counted s.rail instant := by
  unfold State.countBias Bias.counted Config.settleCycles Config.recoveryCycles
  cases hb : s.bias.state with
  | off => rfl
  | ready => rfl
  | settling =>
    dsimp only
    split
    · exact enterReady_bias s instant
    · rw [← hb]
      rfl
  | tripped =>
    dsimp only
    split
    · split
      · rfl
      · rw [← hb]
        rfl
    · rw [← hb]
      rfl

theorem boundaryBias_bias {s : State} (ha : s.bias.ahead = false) (instant : Nat) :
    (s.boundaryBias instant).bias = s.bias.counted s.rail instant := by
  unfold State.boundaryBias
  rw [ha, if_neg Bool.false_ne_true]
  exact countBias_bias s instant

theorem boundary_bias {s : State} (ha : s.bias.ahead = false) :
    s.boundary.bias = s.bias.counted s.rail s.comingInstant := by
  obtain ⟨-, hbias, hrail, -⟩ := beforeBias_frame s
  have hcounted := boundaryBias_bias (s := s.beforeBias) (by rw [hbias]; exact ha) s.comingInstant
  rw [hbias, hrail] at hcounted
  rw [State.boundary_eq_boundaryBias]
  generalize s.beforeBias.boundaryBias s.comingInstant = t at hcounted ⊢
  exact hcounted

theorem Rail.steady_iff {r : Rail} : r.steady = true ↔ r.state = .normal ∧ r.sagSeen = false := by
  simp [Rail.steady]

theorem Rail.not_steady {r : Rail} (h : r.state = .sag ∨ r.sagSeen = true) : ¬ r.steady = true := by
  rw [Rail.steady_iff]
  rintro ⟨hnormal, hseen⟩
  rcases h with h | h
  · rw [h] at hnormal
    cases hnormal
  · rw [h] at hseen
    cases hseen

section Counted

variable {b : Bias} {rail : Rail} {instant : Nat}

theorem Bias.counted_standing (h : b.state = .off ∨ b.state = .ready) : b.counted rail instant = b := by
  rcases h with h | h <;> rw [Bias.counted, h]

theorem Bias.counted_settling (h : b.state = .settling) (hmore : b.settle + 1 < 120) :
    b.counted rail instant = { b with settle := b.settle + 1 } := by
  rw [Bias.counted, h]
  exact if_neg (Nat.not_le.mpr hmore)

theorem Bias.counted_settled (h : b.state = .settling) (hlast : 120 ≤ b.settle + 1) :
    b.counted rail instant = { b with state := .ready, settle := 0, readySince := instant } := by
  rw [Bias.counted, h]
  exact if_pos hlast

theorem Bias.counted_recovering (h : b.state = .tripped) (hsteady : rail.steady = true) (hmore : b.recovery + 1 < 40) :
    b.counted rail instant = { b with recovery := b.recovery + 1 } := by
  rw [Bias.counted, h]
  exact (if_pos hsteady).trans (if_neg (Nat.not_le.mpr hmore))

theorem Bias.counted_recovered (h : b.state = .tripped) (hsteady : rail.steady = true) (hlast : 40 ≤ b.recovery + 1) :
    b.counted rail instant = { b with state := .settling, settle := 0, recovery := 0 } := by
  rw [Bias.counted, h]
  exact (if_pos hsteady).trans (if_pos hlast)

theorem Bias.counted_unsteady (h : b.state = .tripped) (hunsteady : rail.state = .sag ∨ rail.sagSeen = true) :
    b.counted rail instant = { b with recovery := 0 } := by
  rw [Bias.counted, h]
  exact if_neg (Rail.not_steady hunsteady)

end Counted

/-! ## READY wakes the legs and voids the offsets (R126, R147) -/

theorem Leg.wokenBy_ready (x : Leg) : (x.wokenBy true).state ≠ .blind := by
  unfold Leg.wokenBy
  dsimp only
  split
  · exact nofun
  · next h => exact fun hblind => h ⟨rfl, hblind⟩

theorem OffsetEntry.entering_ready (e : OffsetEntry) : (e.entering true).valid = false := by
  unfold OffsetEntry.entering
  cases h : e.valid with
  | true => rfl
  | false => exact h

/-- Every dark offset is invalid after a boundary at which the bias enters READY. -/
theorem boundary_offset_invalid {s : State} (h : entersReady s = true) (l : LegId) (k : RangeId) :
    (s.boundary.offset l k).valid = false := by
  obtain ⟨m, -, hbias⟩ := boundary_moves s
  rw [State.offset, hbias.offset, h]
  exact OffsetEntry.entering_ready _

/-! ## The notices of a boundary (log 12) -/

/-- The notices of a hold are HOLD-ENDED and HOLD-BEGUN. -/
theorem holdNotices_ne_biasState {l : LegId} {n : Cycle} {h : Option Hold} {m : Notice} (hm : m ∈ holdNotices l n h)
    (state previous : BiasState) (cause : BiasCause) : m ≠ .biasState state previous cause := by
  unfold holdNotices at hm
  split at hm
  · cases hm
  · split at hm
    · rw [List.mem_singleton.mp hm]
      exact nofun
    · split at hm
      · rw [List.mem_singleton.mp hm]
        exact nofun
      · cases hm

theorem legNotices_ne_biasState {s : State} {l : LegId} {m : Notice} (hm : m ∈ legNotices s l)
    (state previous : BiasState) (cause : BiasCause) : m ≠ .biasState state previous cause := by
  unfold legNotices at hm
  dsimp only at hm
  split at hm
  · cases hm
  · split at hm
    · exact holdNotices_ne_biasState hm _ _ _
    · split at hm
      · rcases List.mem_append.mp hm with hm | hm
        · exact holdNotices_ne_biasState hm _ _ _
        · rw [List.mem_singleton.mp hm]
          exact nofun
      · cases hm

/-! ## SETTLE_COMPLETE and RECOVERY_COMPLETE -/

/-- The legs wake in leg order, each with its LEG-STATE (R147). -/
theorem wakeNotices_eq (s : State) :
    Quad.all.flatMap (wakeNotices s) =
      (Quad.all.filter fun l => decide ((s.leg l).state = .blind)).map fun l =>
        .legState l .running (s.leg l).count := by
  rw [map_filter_eq_flatMap]
  refine List.flatMap_congr fun l _ => ?_
  simp [wakeNotices]

section Ahead

variable {s : State} (hreset : s.inReset = none)
include hreset

theorem exec_settleComplete_due (ha : s.bias.ahead = false) (hb : s.bias.state = .settling)
    (hlast : 120 ≤ s.bias.settle + 1) :
    exec .settleComplete s = .next (s.enterReady s.comingInstant).biasAhead.arbitrate := by
  show event _ s = _
  rw [event_alive _ hreset, if_pos (by simp [ha, hb, Config.settleCycles, hlast])]

theorem exec_settleComplete_early (h : s.bias.state ≠ .settling ∨ s.bias.settle + 1 < 120) :
    exec .settleComplete s = .next s.arbitrate := by
  have hnot : ¬ (s.bias.state = .settling ∧ 120 ≤ s.bias.settle + 1) := fun ⟨hb, hlast⟩ =>
    h.elim (fun h => h hb) (Nat.not_lt.mpr hlast)
  show event _ s = _
  rw [event_alive _ hreset, if_neg]
  simp only [Bool.and_eq_true, decide_eq_true_eq, Config.settleCycles]
  exact fun ⟨⟨hb, _⟩, hlast⟩ => hnot ⟨hb, of_decide_eq_true hlast⟩

theorem exec_recoveryComplete_due (ha : s.bias.ahead = false) (hb : s.bias.state = .tripped)
    (hsteady : s.rail.steady = true) (hlast : 40 ≤ s.bias.recovery + 1) :
    exec .recoveryComplete s = .next s.enterSettling.biasAhead.arbitrate := by
  show event _ s = _
  rw [event_alive _ hreset, if_pos (by simp [ha, hb, hsteady, Config.recoveryCycles, hlast])]

theorem exec_recoveryComplete_early
    (h : s.bias.state ≠ .tripped ∨ s.rail.state = .sag ∨ s.rail.sagSeen = true ∨ s.bias.recovery + 1 < 40) :
    exec .recoveryComplete s = .next s.arbitrate := by
  have hnot : ¬ (s.bias.state = .tripped ∧ s.rail.steady = true ∧ 40 ≤ s.bias.recovery + 1) := by
    rintro ⟨hb, hsteady, hlast⟩
    rcases h with h | h | h | h
    · exact h hb
    · exact Rail.not_steady (.inl h) hsteady
    · exact Rail.not_steady (.inr h) hsteady
    · omega
  show event _ s = _
  rw [event_alive _ hreset, if_neg]
  simp only [Bool.and_eq_true, decide_eq_true_eq, Config.recoveryCycles]
  exact fun ⟨⟨⟨hb, _⟩, hsteady⟩, hlast⟩ => hnot ⟨hb, hsteady, of_decide_eq_true hlast⟩

end Ahead

end Sys2Proof.Machine

open Sys2Proof Sys2Proof.Machine

/-- Settles O41: the bias as it counts the boundary, the legs and offsets at READY, and the notices before the
bias's. -/
theorem theBoundaryCountsTheBias : Obligations.TheBoundaryCountsTheBias := by
  unfold Obligations.TheBoundaryCountsTheBias
  intro s hreset ha
  have hbias := boundary_bias ha
  have hleg := boundary_leg s
  have hinvalid := fun h : entersReady s = true => boundary_offset_invalid h
  have hiface := boundary_iface s
  have hexec := exec_cycleBoundary hreset
  rw [comingInstant_eq] at hbias
  generalize s.boundary = t at *
  refine ⟨t.arbitrate, hexec, fun h => hbias.trans (Bias.counted_standing h),
    fun h hmore => hbias.trans (Bias.counted_settling h hmore),
    fun h hlast => ⟨hbias.trans (Bias.counted_settled h hlast), fun l => ?_, hinvalid (decide_eq_true ⟨ha, h, hlast⟩)⟩,
    fun h hnormal hseen hmore => hbias.trans (Bias.counted_recovering h (Rail.steady_iff.mpr ⟨hnormal, hseen⟩) hmore),
    fun h hnormal hseen hlast => hbias.trans (Bias.counted_recovered h (Rail.steady_iff.mpr ⟨hnormal, hseen⟩) hlast),
    fun h hunsteady => hbias.trans (Bias.counted_unsteady h hunsteady),
    Quad.all.flatMap (legNotices s) ++ (s.candidates.filter (expiresIn s t)).map
      (fun c => .candidateLapsed c.tag c.leg c.reason c.lastHeard),
    congrArg Interface.arbitrate hiface, fun m hm state previous cause => ?_⟩
  · have henters : entersReady s = true := decide_eq_true ⟨ha, h, hlast⟩
    rw [State.arbitrate_leg, hleg, henters]
    exact Leg.wokenBy_ready _
  · rcases List.mem_append.mp hm with hm | hm
    · obtain ⟨l, -, hm⟩ := List.mem_flatMap.mp hm
      exact legNotices_ne_biasState hm _ _ _
    · obtain ⟨c, -, rfl⟩ := List.mem_map.mp hm
      exact nofun

/-- Settles O42: READY is entered, or SETTLING, with the boundary taken ahead; a count that is not the last stands. -/
theorem settleAndRecoveryComplete : Obligations.SettleAndRecoveryComplete := by
  unfold Obligations.SettleAndRecoveryComplete
  refine fun s hreset ha => ⟨fun hb hlast => ?_, exec_settleComplete_early hreset,
    fun hb hnormal hseen hlast => exec_recoveryComplete_due hreset ha hb (Rail.steady_iff.mpr ⟨hnormal, hseen⟩) hlast,
    exec_recoveryComplete_early hreset⟩
  have hentered := enterReady_biasCounted s s.comingInstant
  have hmeter := enterReady_meter s s.comingInstant
  have hbias := enterReady_bias s s.comingInstant
  have hmoves : Moves OffsetEntry.valid (OffsetEntry.entering true) s.meter s.meter.invalidateAll :=
    invalidate_movesOne.all s.meter
  have hexec := exec_settleComplete_due hreset ha hb hlast
  have hiface := hentered.iface
  rw [wakeNotices_eq] at hiface
  rw [← hmeter] at hmoves
  have hframe := hmoves.frame
  generalize s.enterReady s.comingInstant = t at *
  refine ⟨t.biasAhead.arbitrate, hexec, ?_, fun l => ?_, fun l k => ?_, hmoves.wants,
    congrArg Interface.arbitrate hiface, ?_, ?_, ?_, ?_, ?_, ?_, ?_, hentered.rail, hentered.roster,
    hentered.candidates, hentered.params, hentered.boundaries⟩
  · show { t.bias with ahead := true } = _
    rw [hbias]
    rfl
  · show t.leg l = _
    rw [hentered.leg]
    simp [Leg.wokenBy]
  · refine (hmoves.offset l k).trans ?_
    simp only [OffsetEntry.entering, Bool.true_and]
    rfl
  all_goals rw [State.arbitrate_meter, State.biasAhead, State.setBias_meter, hframe]

end

section
/-! SUPPORT. What the supervision of the bias, the legs and the converter reads of a leg, of the Level Meter and of the
Candidate List (R131, R133, R139, R147, R148, R152, R156, R160, R164), and the steps that keep it. -/

namespace Sys2Proof.Machine

/-! ## Legs -/

/-- What the supervision reads of every leg, beside its isolation run. -/
def Leg.watched (x : Leg) : LegState × Bool × Bool × Option Hold × Bool × Nat :=
  (x.state, x.startPending, x.finalPending, x.hold, x.receiver.latch, x.receiver.cleanCount)

/-- What the supervision reads besides of a leg that is STOPPED. -/
def Leg.stoppedParts (x : Leg) :
    Option IsolationRun × Option Calendar × List (Option DropRecord) × List QueueEntry × List Calendar ×
      List Expectation × Option WindowScan × List Announce :=
  (x.run, x.calendar, x.drops, x.queue, x.receiver.inHand, x.receiver.expectations, x.receiver.scan,
    x.receiver.announces)

/-- A leg that becomes another under the bias state `b`: it meets the invariant if it met it, and it is not stopped. -/
structure Leg.Upholds (x : Leg) (b : BiasState) (y : Leg) : Prop where
  state : y.state = .stopped → x.state = .stopped
  sound : x.Sound b → y.Sound b

section Legs

variable {b : BiasState} {x y z : Leg}

theorem Leg.Upholds.refl (x : Leg) : x.Upholds b x := ⟨id, id⟩

theorem Leg.Upholds.trans (h : x.Upholds b y) (h' : y.Upholds b z) : x.Upholds b z :=
  ⟨h.state ∘ h'.state, h'.sound ∘ h.sound⟩

/-- What is watched of a leg stands, it begins no isolation run, and one that is STOPPED and holds nothing comes to hold
nothing. -/
theorem Leg.Upholds.of_watched (hsame : y.watched = x.watched) (hrun : x.run = none → y.run = none)
    (hempty : x.state = .stopped → x.Empty → y.Empty) : x.Upholds b y := by
  simp only [Leg.watched, Prod.mk.injEq] at hsame
  obtain ⟨hstate, hstart, hfinal, hhold, hlatch, hclean⟩ := hsame
  refine ⟨fun h => hstate ▸ h, fun h => ?_⟩
  constructor
  case running => exact fun hs => h.running (hstate ▸ hs)
  case blind => exact fun hs => h.blind (hstate ▸ hs)
  case started =>
    rw [hstart, hfinal, Leg.started, hstate]
    exact h.started
  case marks =>
    rw [hstart, hfinal]
    exact h.marks
  case stopped => exact fun hs => hempty (hstate ▸ hs) (h.stopped (hstate ▸ hs))
  case onlyOne =>
    rw [hhold]
    exact h.onlyOne.imp_right hrun
  case run => exact fun hy => hstate.trans (h.run (mt hrun hy))
  case hold =>
    rw [hhold]
    exact h.hold
  case clean =>
    rw [hclean, hlatch]
    exact h.clean

/-- A change of a started leg: nothing is read of what it holds. -/
theorem Leg.Upholds.of_started (hs : x.state ≠ .stopped) (hsame : y.watched = x.watched)
    (hrun : x.run = none → y.run = none) : x.Upholds b y :=
  .of_watched hsame hrun fun h => absurd h hs

/-- A change of a leg that the supervision does not read. -/
theorem Leg.Upholds.of_same (hsame : y.watched = x.watched) (hparts : y.stoppedParts = x.stoppedParts) :
    x.Upholds b y := by
  have hsame' := hsame
  simp only [Leg.watched, Prod.mk.injEq] at hsame'
  obtain ⟨-, -, hfinal, hhold, hlatch, -⟩ := hsame'
  simp only [Leg.stoppedParts, Prod.mk.injEq] at hparts
  obtain ⟨hrun, hcalendar, hdrops, hqueue, hinHand, hexpected, hscan, hannounces⟩ := hparts
  refine .of_watched hsame (fun h => hrun.trans h) fun _ h => ?_
  constructor
  case hold => exact hhold.trans h.hold
  case run => exact hrun.trans h.run
  case calendar => exact hcalendar.trans h.calendar
  case records =>
    intro d
    rw [Leg.record, hdrops]
    exact h.records d
  case inHand => exact hinHand.trans h.inHand
  case expected => exact hexpected.trans h.expected
  case scan => exact hscan.trans h.scan
  case announces => exact hannounces.trans h.announces
  case latch => exact hlatch.trans h.latch
  case queue =>
    rw [hqueue, hfinal]
    exact h.queue

theorem Leg.Empty.mapScan (h : x.Empty) (f : WindowScan → WindowScan) : (x.mapScan f).Empty := by
  have hscan : (x.mapScan f).receiver.scan = none := by
    rw [Leg.mapScan, Leg.mapReceiver, h.scan]
    rfl
  exact ⟨h.hold, h.run, h.calendar, h.records, h.inHand, h.expected, hscan, h.announces, h.latch, h.queue⟩

theorem Leg.upholds_mapScan (x : Leg) (f : WindowScan → WindowScan) : x.Upholds b (x.mapScan f) :=
  .of_watched rfl id fun _ h => h.mapScan f

/-- Work on records acts on no leg without one, and so on none that is STOPPED. -/
theorem Leg.WorksOn.upholds (h : x.WorksOn y) : x.Upholds b y := by
  refine .of_watched (by rw [h.frame]; rfl) h.run fun _ he => ?_
  obtain ⟨hdrops, hqueue⟩ := h.free he.records
  have hsame : y = x := by
    rw [h.frame, hdrops, hqueue, h.run he.run, ← he.run]
  rw [hsame]
  exact he

end Legs

/-! ## The Level Meter -/

/-- The Level Meter holds a sample request, a want or a scheduled calibration of leg `l`. -/
def Meter.Retains (m : Meter) (l : LegId) : Prop :=
  m.queues.get l ≠ [] ∨ m.wants.get l ≠ [] ∨ ∃ c ∈ m.scheduled, c.leg = l

/-- A meter that becomes another, with the same operation in hand, and comes to hold nothing of a leg of which it held
nothing. -/
structure Meter.Within (m m' : Meter) : Prop where
  converter : m'.converter = m.converter
  retains : ∀ l, m'.Retains l → m.Retains l

theorem Meter.Within.refl (m : Meter) : m.Within m := ⟨rfl, fun _ => id⟩

theorem Meter.Within.trans {m m' m'' : Meter} (h : m.Within m') (h' : m'.Within m'') : m.Within m'' :=
  ⟨h'.converter.trans h.converter, fun l => h.retains l ∘ h'.retains l⟩

/-- A change of the meter that leaves the operation in hand, the queues, the want lists and the schedule. -/
theorem Meter.Within.of_same {m m' : Meter}
    (hsame : (m'.converter, m'.queues, m'.wants, m'.scheduled) = (m.converter, m.queues, m.wants, m.scheduled)) :
    m.Within m' := by
  simp only [Prod.mk.injEq] at hsame
  obtain ⟨hconverter, hqueues, hwants, hscheduled⟩ := hsame
  refine ⟨hconverter, fun l h => ?_⟩
  rw [Meter.Retains, hqueues, hwants, hscheduled] at h
  exact h

theorem Meter.within_foldl {α : Type} {f : Meter → α → Meter} (hf : ∀ (m : Meter) (a : α), m.Within (f m a))
    (as : List α) (m : Meter) : m.Within (as.foldl f m) :=
  List.foldlRecOn (motive := m.Within) as f (.refl m) fun m' h a _ => h.trans (hf m' a)

theorem Meter.within_setOffset (m : Meter) (l : LegId) (k : RangeId) (e : OffsetEntry) :
    m.Within (m.setOffset l k e) :=
  .of_same rfl

/-- A want list changes, and one that was empty stays so. -/
theorem Meter.within_setWants {m : Meter} {l : LegId} {ws : List Want} (h : m.Retains l ∨ ws = []) :
    m.Within { m with wants := m.wants.set l ws } := by
  refine ⟨rfl, fun k hk => ?_⟩
  by_cases hkl : k = l
  · subst hkl
    rcases h with h | h
    · exact h
    · refine hk.imp_right fun hk => hk.imp_left fun hws => ?_
      exact absurd ((Four.get_set_same _ _ _).trans h) hws
  · rw [Meter.Retains] at hk
    simp only [Four.get_set_other _ _ hkl] at hk
    exact hk

theorem Meter.retains_of_wants {m : Meter} {l : LegId} {ws : List Want} (h : m.wants.get l = [] → ws = []) :
    m.Retains l ∨ ws = [] := by
  by_cases hws : m.wants.get l = []
  · exact .inr (h hws)
  · exact .inl (.inr (.inl hws))

theorem Meter.within_dropWant (m : Meter) (l : LegId) (k : RangeId) : m.Within (m.dropWant l k) :=
  Meter.within_setWants (Meter.retains_of_wants fun h => by rw [h]; rfl)

theorem Meter.within_markWant (m : Meter) (l : LegId) (k : RangeId) (scheduled : Bool) :
    m.Within (m.markWant l k scheduled) :=
  Meter.within_setWants (Meter.retains_of_wants fun h => by rw [h]; rfl)

theorem Meter.within_addWant {m : Meter} {l : LegId} (h : m.Retains l) (k : RangeId) : m.Within (m.addWant l k) := by
  unfold Meter.addWant
  split
  · exact .refl m
  · exact Meter.within_setWants (.inl h)

/-- The range of an offset that becomes invalid is wanted when a queued request names it (R127). -/
theorem Meter.within_invalidate (m : Meter) (l : LegId) (k : RangeId) : m.Within (m.invalidate l k) := by
  unfold Meter.invalidate
  split
  · dsimp only
    split
    · next hany =>
      refine (m.within_setOffset l k _).trans (Meter.within_addWant (.inl fun hnone => ?_) k)
      have hnone : m.queues.get l = [] := hnone
      rw [hnone] at hany
      cases hany
    · exact m.within_setOffset l k _
  · exact .refl m

theorem Meter.within_invalidateAll (m : Meter) : m.Within m.invalidateAll :=
  Meter.within_foldl (fun m l => Meter.within_foldl (fun m k => m.within_invalidate l k) _ m) _ m

theorem Meter.within_ageOffset (m : Meter) (l : LegId) (k : RangeId) : m.Within (m.ageOffset l k) := by
  unfold Meter.ageOffset
  dsimp only
  split
  · split
    · exact m.within_invalidate l k
    · exact m.within_setOffset l k _
  · exact .refl m

theorem Meter.within_ageOffsets (m : Meter) : m.Within m.ageOffsets :=
  Meter.within_foldl (fun m l => Meter.within_foldl (fun m k => m.within_ageOffset l k) _ m) _ m

/-! ## The state -/

/-- The Level Meter or the Candidate List holds something of leg `l`. -/
def State.Retains (s : State) (l : LegId) : Prop := s.meter.Retains l ∨ ∃ c ∈ s.candidates, c.leg = l

/-- The invariant, leg by leg; what is held of a leg is held of a started one. -/
theorem State.supervised_iff (s : State) :
    s.Supervised ↔
      s.bias.Sound ∧ (∀ l, (s.leg l).Sound s.bias.state) ∧
        (∀ l, s.meter.converter.leg? = some l → s.bias.state = .ready ∧ (s.leg l).state ≠ .stopped) ∧
        ∀ l, s.Retains l → (s.leg l).state ≠ .stopped := by
  constructor
  · intro h
    refine ⟨h.bias, h.legs, fun l hl => (h.converter l hl).imp_right Leg.started_iff.mp, fun l hl hs => ?_⟩
    obtain ⟨hqueue, hwants, hscheduled, hcandidates⟩ := h.stopped l hs
    rcases hl with (hl | hl | ⟨c, hc, hcl⟩) | ⟨c, hc, hcl⟩
    · exact hl hqueue
    · exact hl hwants
    · exact hscheduled c hc hcl
    · exact hcandidates c hc hcl
  · rintro ⟨hbias, hlegs, hconverter, hretains⟩
    refine ⟨hbias, hlegs, fun l hl => (hconverter l hl).imp_right Leg.started_iff.mpr, fun l hs => ?_⟩
    refine ⟨?_, ?_, fun c hc hcl => ?_, fun c hc hcl => ?_⟩
    · exact not_ne_iff.mp fun h => hretains l (.inl (.inl h)) hs
    · exact not_ne_iff.mp fun h => hretains l (.inl (.inr (.inl h))) hs
    · exact hretains l (.inl (.inr (.inr ⟨c, hc, hcl⟩))) hs
    · exact hretains l (.inr ⟨c, hc, hcl⟩) hs

theorem State.Supervised.retains {s : State} (h : s.Supervised) {l : LegId} (hl : s.Retains l) :
    (s.leg l).state ≠ .stopped := by
  obtain ⟨-, -, -, hretains⟩ := s.supervised_iff.mp h
  exact hretains l hl

/-- A step keeps the supervision, and stops no leg. -/
structure State.Upholds (s t : State) : Prop where
  supervised : s.Supervised → t.Supervised
  state : ∀ l, (t.leg l).state = .stopped → (s.leg l).state = .stopped

theorem State.Upholds.refl (s : State) : s.Upholds s := ⟨id, fun _ => id⟩

theorem State.Upholds.trans {s t u : State} (h : s.Upholds t) (h' : t.Upholds u) : s.Upholds u :=
  ⟨h'.supervised ∘ h.supervised, fun l => h.state l ∘ h'.state l⟩

/-- A step after one that keeps the supervision. -/
theorem State.Upholds.after {s t u : State} (h' : t.Upholds u) (h : s.Upholds t) : s.Upholds u := h.trans h'

theorem State.Upholds.ite {s t u : State} {c : Prop} [Decidable c] (ht : s.Upholds t) (hu : s.Upholds u) :
    s.Upholds (if c then t else u) := by
  split
  · exact ht
  · exact hu

theorem State.Upholds.started {s t : State} (h : s.Upholds t) {l : LegId} (hs : (s.leg l).state ≠ .stopped) :
    (t.leg l).state ≠ .stopped :=
  mt (h.state l) hs

theorem State.upholds_foldl {α : Type} {f : State → α → State} (hf : ∀ (s : State) (a : α), s.Upholds (f s a))
    (as : List α) (s : State) : s.Upholds (as.foldl f s) :=
  List.foldlRecOn (motive := s.Upholds) as f (.refl s) fun t h a _ => h.trans (hf t a)

/-- The legs uphold the invariant, the bias and the operation in hand stand, and what comes to be held is held of
started legs. -/
theorem State.Upholds.of_parts {s t : State} (hbias : t.bias = s.bias)
    (hlegs : ∀ l, (s.leg l).Upholds s.bias.state (t.leg l)) (hconverter : t.meter.converter = s.meter.converter)
    (hretains : ∀ l, t.Retains l → s.Retains l ∨ (s.leg l).state ≠ .stopped) : s.Upholds t := by
  refine ⟨fun h => ?_, fun l => (hlegs l).state⟩
  obtain ⟨hsound, hlegsSound, hready, hheld⟩ := s.supervised_iff.mp h
  refine t.supervised_iff.mpr ⟨hbias ▸ hsound, fun l => ?_, fun l hl => ?_, fun l hl => ?_⟩
  · rw [hbias]
    exact (hlegs l).sound (hlegsSound l)
  · rw [hbias]
    rw [hconverter] at hl
    exact (hready l hl).imp_right (mt (hlegs l).state)
  · exact mt (hlegs l).state ((hretains l hl).elim (hheld l) id)

/-- A step that leaves the legs, the Level Meter, the bias and the Candidate List. -/
theorem State.Upholds.of_same {s t : State}
    (hsame : (t.legs, t.meter, t.bias, t.candidates) = (s.legs, s.meter, s.bias, s.candidates)) : s.Upholds t := by
  simp only [Prod.mk.injEq] at hsame
  obtain ⟨hlegs, hmeter, hbias, hcandidates⟩ := hsame
  refine .of_parts hbias (fun l => ?_) (by rw [hmeter]) fun l hl => .inl ?_
  · rw [State.leg, State.leg, hlegs]
    exact .refl _
  · rw [State.Retains, hmeter, hcandidates] at hl
    exact hl

theorem State.upholds_notify (s : State) (n : Notice) : s.Upholds (s.notify n) := .of_same rfl

theorem State.upholds_setIface (s : State) (i : Interface) : s.Upholds (s.setIface i) := .of_same rfl

theorem State.upholds_setRail (s : State) (r : Rail) : s.Upholds (s.setRail r) := .of_same rfl

theorem State.upholds_setRosterAt (s : State) (i : Nat) (e : Option RosterEntry) : s.Upholds (s.setRosterAt i e) :=
  .of_same rfl

theorem State.upholds_heard (s : State) (tag : FactoryTag) (l : LegId) (n : Cycle) : s.Upholds (s.heard tag l n) := by
  unfold State.heard
  split
  · exact .of_same rfl
  · exact .refl s

theorem State.upholds_setLeg {s : State} {l : LegId} {x : Leg} (h : (s.leg l).Upholds s.bias.state x) :
    s.Upholds (s.setLeg l x) := by
  refine .of_parts rfl (fun k => ?_) rfl fun k hk => .inl hk
  rw [State.setLeg_leg]
  split
  · next hk => rw [hk]; exact h
  · exact .refl _

theorem State.upholds_mapLeg {s : State} {l : LegId} {f : Leg → Leg}
    (h : (s.leg l).Upholds s.bias.state (f (s.leg l))) : s.Upholds (s.mapLeg l f) :=
  State.upholds_setLeg h

theorem State.upholds_mapScan (s : State) (l : LegId) (f : WindowScan → WindowScan) :
    s.Upholds (s.mapLeg l fun x => x.mapScan f) :=
  State.upholds_mapLeg (Leg.upholds_mapScan _ f)

theorem State.upholds_recordLight (s : State) (l : LegId) (light : BitVec 48) : s.Upholds (s.recordLight l light) :=
  State.upholds_mapLeg (.of_same rfl rfl)

theorem State.upholds_setMeter {s : State} {m : Meter} (h : s.meter.Within m) : s.Upholds (s.setMeter m) :=
  .of_parts rfl (fun l => .refl (s.leg l)) h.converter fun l hl => .inl (hl.imp_left (h.retains l))

/-- The Candidate List changes, and comes to hold candidates of started legs alone. -/
theorem State.upholds_setCandidates {s : State} {cs : List Candidate}
    (h : ∀ c ∈ cs, s.Retains c.leg ∨ (s.leg c.leg).state ≠ .stopped) : s.Upholds (s.setCandidates cs) := by
  refine .of_parts rfl (fun l => .refl (s.leg l)) rfl fun l hl => ?_
  rcases hl with hl | ⟨c, hc, rfl⟩
  · exact .inl (.inl hl)
  · exact h c hc

theorem State.upholds_filterCandidates (s : State) (p : Candidate → Bool) :
    s.Upholds (s.setCandidates (s.candidates.filter p)) :=
  State.upholds_setCandidates fun c hc => .inl (.inr ⟨c, List.mem_of_mem_filter hc, rfl⟩)

/-- Candidates change, each with its leg. -/
theorem State.upholds_mapCandidates {s : State} {f : Candidate → Candidate} (hf : ∀ c, (f c).leg = c.leg) :
    s.Upholds (s.setCandidates (s.candidates.map f)) := by
  refine State.upholds_setCandidates fun c hc => .inl (.inr ?_)
  obtain ⟨b, hb, rfl⟩ := List.mem_map.mp hc
  exact ⟨b, hb, (hf b).symm⟩

theorem State.upholds_indexCandidate (s : State) (tag : FactoryTag) (i : Option Nat) :
    s.Upholds (s.indexCandidate tag i) :=
  State.upholds_mapCandidates fun c => by split <;> rfl

/-- Work on the records of a leg keeps the supervision. -/
theorem State.WorksOn.upholds {s t : State} {l : LegId} (h : s.WorksOn l t) : s.Upholds t := by
  have hleg := State.upholds_setLeg h.leg.upholds
  rw [h.frame]
  exact hleg.trans (.of_same rfl)

theorem State.MovesRecords.upholds {s t : State} {l : LegId} (h : s.MovesRecords l t) : s.Upholds t :=
  h.worksOn.upholds

/-- A record is a started leg's (R152). -/
theorem State.Supervised.record {s : State} (h : s.Supervised) {l : LegId} {d : Nat} {r : DropRecord}
    (hr : s.record l d = some r) : (s.leg l).state ≠ .stopped := fun hs =>
  nomatch hr.symm.trans (((h.legs l).stopped hs).records d)

end Sys2Proof.Machine
end

section
/-! SUPPORT. The Bias Supply and the boundary keep the supervision (R139 to R143, R147, R148, R151, R153, R158). -/

namespace Sys2Proof.Machine

/-! ## Holds, and a leg that begins a cycle (R151, R153, R158) -/

section Legs

variable {b : BiasState} {x y : Leg}

/-- The hold of a leg goes on within its length, or ends. -/
theorem Leg.upholds_setHold {hold : Option Hold} (hnone : x.hold = none → hold = none)
    (hsome : ∀ h h', x.hold = some h → hold = some h' → h'.length = h.length ∧ h'.built ≤ h'.length) :
    x.Upholds b { x with hold := hold } := by
  cases hx : x.hold with
  | none =>
    rw [hnone hx, ← hx]
    exact .refl x
  | some h =>
    refine ⟨id, fun hsound => ?_⟩
    have hrun : x.run = none := hsound.onlyOne.resolve_left (by rw [hx]; exact nofun)
    have hstarted : x.state ≠ .stopped := fun hs => nomatch hx.symm.trans (hsound.stopped hs).hold
    refine { hsound with onlyOne := .inr hrun, stopped := fun hs => absurd hs hstarted, hold := fun h' hh' => ?_ }
    obtain ⟨hlow, hhigh, -⟩ := hsound.hold h hx
    obtain ⟨hlength, hbuilt⟩ := hsome h h' hx hh'
    exact ⟨hlength ▸ hlow, hlength ▸ hhigh, hbuilt⟩

theorem Leg.upholds_heldAt (n : Cycle) : x.Upholds b { x with hold := heldAt n x.hold } := by
  refine Leg.upholds_setHold (fun h => by rw [h]; rfl) fun h h' hx hh' => ?_
  rw [hx] at hh'
  by_cases hend : h.length ≤ h.built
  · rw [heldAt_expired hend] at hh'
    cases hh'
  · rw [heldAt_building (Nat.lt_of_not_le hend)] at hh'
    cases hh'
    exact ⟨rfl, Nat.lt_of_not_le hend⟩

theorem Leg.upholds_noHold : x.Upholds b { x with hold := none } :=
  Leg.upholds_setHold (fun _ => rfl) nofun

/-- The final cycle of a stopping leg sends the Release ALL that is all it holds (R153). -/
theorem Leg.upholds_finalCycle (hs : x.state = .stopped) (hfinal : x.finalPending = true) :
    x.Upholds b x.finalCycle := by
  refine ⟨id, fun h => ?_⟩
  have hempty := h.stopped hs
  have hqueue : x.finalCycle.queue = [] := by
    rw [Leg.finalCycle, hempty.queue, hfinal]
    rfl
  have hstart : x.startPending = false := Bool.eq_false_iff.mpr fun hp => h.marks ⟨hp, hfinal⟩
  exact
    { h with
      started := fun _ => ⟨hstart, rfl⟩
      marks := nofun
      stopped := fun _ => { hempty with queue := hqueue } }

/-- A start takes effect on a leg that holds nothing (R151). -/
theorem Leg.upholds_starting (hs : x.state = .stopped) (hfinal : x.finalPending = false) :
    x.Upholds b (x.starting b) := by
  refine ⟨fun h => absurd h (Leg.starting_started x b), fun h => ?_⟩
  obtain ⟨hhold, hrun, -, -, -, -, -, -, -, -⟩ := h.stopped hs
  exact
    { running := fun hr => by by_contra hb; simp [Leg.starting, hb] at hr
      blind := fun hr hb => by simp [Leg.starting, hb] at hr
      started := fun _ => ⟨rfl, hfinal⟩
      marks := nofun
      stopped := fun h => absurd h (Leg.starting_started x b)
      onlyOne := .inl hhold
      run := fun h => absurd hrun h
      hold := h.hold
      clean := h.clean }

end Legs

/-- A started leg begins its cycle: its calendar and its grants, and the sample requests and wants of them. -/
theorem State.upholds_beginCycle {s : State} {l : LegId} (hs : (s.leg l).state ≠ .stopped) (marker : Nat) :
    s.Upholds (s.beginCycle l marker) := by
  have honly := beginCycle_onLegs s l marker
  obtain ⟨u, hu, -, hacted⟩ := s.beginCycle_acts l marker
  obtain ⟨placed, hmeter⟩ := beginCycle_meter s l marker
  have hleg : (s.leg l).Upholds s.bias.state ((s.beginCycle l marker).leg l) := by
    refine (Leg.upholds_heldAt (s.leg l).count).trans (.of_started hs ?_ fun hrun => ?_)
    · rw [hacted.leg, hu, Leg.departedHeld_eq]
      rfl
    · rw [hacted.leg, hu, Leg.departedHeld_eq]
      exact (congrArg (Option.map _) hrun).trans rfl
  generalize s.beginCycle l marker = t at honly hmeter hleg
  refine .of_parts honly.bias (fun k => ?_) (by rw [hmeter]) fun k hk => ?_
  · by_cases hkl : k = l
    · rw [hkl]
      exact hleg
    · rw [honly.others k (by simpa using hkl)]
      exact .refl _
  · by_cases hkl : k = l
    · rw [hkl]
      exact .inr hs
    · refine .inl ?_
      rw [State.Retains, honly.candidates, hmeter, Meter.Retains] at hk
      simp only [Four.get_set_other _ _ hkl] at hk
      exact hk

theorem State.upholds_beginLeg (s : State) (l : LegId) (marker : Nat) : s.Upholds (s.beginLeg l marker) := by
  by_cases hs : (s.leg l).state = .stopped
  · rw [State.beginLeg_stopped hs]
    split
    · next hfinal => exact State.upholds_mapLeg (Leg.upholds_finalCycle hs hfinal)
    · next hfinal =>
      refine .ite ?_ (State.upholds_mapLeg (.of_same rfl rfl))
      have hstarts := State.upholds_setLeg (s := s) (Leg.upholds_starting hs (Bool.eq_false_iff.mpr hfinal))
      have hstarted : ((s.setLeg l ((s.leg l).starting s.bias.state)).leg l).state ≠ .stopped := by
        rw [State.setLeg_leg_same]
        exact Leg.starting_started _ _
      rw [State.startCycles_eq]
      exact (State.upholds_notify _ _).after (hstarts.trans (State.upholds_beginCycle hstarted marker))
  · rw [State.beginLeg_started hs]
    have hcounted : s.Upholds (s.mapLeg l fun x => { x with count := x.count + 1#32 }) :=
      State.upholds_mapLeg (.of_same rfl rfl)
    exact hcounted.trans (State.upholds_beginCycle (hcounted.started hs) marker)

theorem upholds_boundaryLeg (marker : Nat) (s : State) (l : LegId) : s.Upholds (State.boundaryLeg marker s l) :=
  .ite (State.upholds_mapLeg (.of_same rfl rfl)) (s.upholds_beginLeg l marker)

/-! ## The Bias Supply (R139 to R143, R147) -/

/-- A leg's part of the invariant reads of the bias only whether it is READY. -/
theorem Leg.Sound.congr {x : Leg} {b b' : BiasState} (h : x.Sound b) (hb : b' = .ready ↔ b = .ready) : x.Sound b' :=
  { h with
    running := fun hs => hb.mpr (h.running hs)
    blind := fun hs => mt hb.mp (h.blind hs) }

/-- The Bias Supply changes, and neither enters nor leaves READY. -/
theorem State.upholds_setBias {s : State} {b : Bias} (hsound : s.bias.Sound → b.Sound)
    (hready : b.state = .ready ↔ s.bias.state = .ready) : s.Upholds (s.setBias b) := by
  refine ⟨fun h => ?_, fun _ => id⟩
  obtain ⟨hbias, hlegs, hconverter, hretains⟩ := s.supervised_iff.mp h
  exact (s.setBias b).supervised_iff.mpr
    ⟨hsound hbias, fun l => (hlegs l).congr hready, fun l hl => (hconverter l hl).imp_left hready.mpr, hretains⟩

/-- A bias state is entered with both counts at 0 (R139). -/
theorem Bias.sound_entered (b : Bias) {state : BiasState} :
    ({ b with state := state, settle := 0, recovery := 0 } : Bias).Sound :=
  ⟨Nat.succ_pos _, Nat.succ_pos _, fun _ => rfl, fun _ => rfl⟩

/-- A BLIND leg wakes as the bias enters READY; in SETTLING no leg has an isolation run (R147). -/
theorem Leg.Sound.woken {x : Leg} {b : BiasState} (h : x.Sound b) (hb : b ≠ .ready) :
    (x.wokenBy true).Sound .ready := by
  have hstopped := x.wokenBy_stopped true
  have hrun : x.run = none := not_ne_iff.mp fun hrun => hb (h.running (h.run hrun))
  exact
    { running := fun _ => rfl
      blind := fun hs => absurd hs x.wokenBy_ready
      started := fun hs => h.started (Leg.started_iff.mpr (mt hstopped.mpr (Leg.started_iff.mp hs)))
      marks := h.marks
      stopped := fun hs => by
        have hempty := h.stopped (hstopped.mp hs)
        exact { hempty with }
      onlyOne := .inr hrun
      run := fun h' => absurd hrun h'
      hold := h.hold
      clean := h.clean }

theorem State.upholds_enterReady {s : State} (hb : s.bias.state = .settling) (instant : Nat) :
    s.Upholds (s.enterReady instant) := by
  have hcounted := enterReady_biasCounted s instant
  have hbias := enterReady_bias s instant
  have hmeter := enterReady_meter s instant
  have hne : s.bias.state ≠ .ready := by rw [hb]; exact nofun
  generalize s.enterReady instant = t at hcounted hbias hmeter
  have hstopped (l : LegId) : (t.leg l).state = .stopped ↔ (s.leg l).state = .stopped := by
    rw [hcounted.leg]
    exact (s.leg l).wokenBy_stopped true
  refine ⟨fun h => ?_, fun l => (hstopped l).mp⟩
  obtain ⟨hsound, hlegs, hconverter, hretains⟩ := s.supervised_iff.mp h
  refine t.supervised_iff.mpr ⟨?_, fun l => ?_, fun l hl => ?_, fun l hl => ?_⟩
  · rw [hbias]
    exact ⟨Nat.succ_pos _, hsound.recovery, fun _ => rfl, fun _ => hsound.tripped (by rw [hb]; exact nofun)⟩
  · rw [hbias, hcounted.leg]
    exact (hlegs l).woken hne
  · rw [hmeter, s.meter.within_invalidateAll.converter] at hl
    exact absurd (hconverter l hl).1 hne
  · rw [State.Retains, hmeter, hcounted.candidates] at hl
    exact mt (hstopped l).mp (hretains l (hl.imp_left (s.meter.within_invalidateAll.retains l)))

theorem State.upholds_enterSettling {s : State} (hb : s.bias.state = .tripped) : s.Upholds s.enterSettling :=
  (State.upholds_notify _ _).after
    (State.upholds_setBias (fun _ => Bias.sound_entered s.bias) (by rw [hb]; exact ⟨nofun, nofun⟩))

theorem State.upholds_countBias (s : State) (instant : Nat) : s.Upholds (s.countBias instant) := by
  unfold State.countBias
  cases hb : s.bias.state with
  | off => exact .refl s
  | ready => exact .refl s
  | settling =>
    dsimp only
    split
    · exact State.upholds_enterReady hb instant
    · next hmore =>
      refine State.upholds_setBias (fun h => ?_) Iff.rfl
      exact { h with settle := Nat.lt_of_not_le hmore, settling := fun hne => absurd hb hne }
  | tripped =>
    dsimp only
    split
    · split
      · exact State.upholds_enterSettling hb
      · next hmore =>
        refine State.upholds_setBias (fun h => ?_) Iff.rfl
        exact { h with recovery := Nat.lt_of_not_le hmore, tripped := fun hne => absurd hb hne }
    · exact State.upholds_setBias (fun h => { h with recovery := Nat.succ_pos _, tripped := fun _ => rfl }) Iff.rfl

/-- A departure from READY stops no leg. -/
theorem Leg.LeavesReady.stopped {s : State} {l : LegId} {x y : Leg} (h : x.LeavesReady s l y) :
    y.state = .stopped ↔ x.state = .stopped := by
  rw [h.frame]
  cases hx : x.state <;> simp

/-- A leg that is RUNNING is BLIND as the bias leaves READY, without an isolation run (R147, R164). -/
theorem Leg.LeavesReady.sound {s : State} {l : LegId} {x y : Leg} {b : BiasState} (h : x.LeavesReady s l y)
    (hx : x.Sound .ready) (hb : b ≠ .ready) : y.Sound b := by
  have hstopped := h.stopped
  have hfree := h.free
  have hframe := h.frame
  have hrunning : y.state ≠ .running := by
    rw [hframe]
    cases hs : x.state <;> simp
  have hrun : y.run = none := by rw [hframe]
  have hmarks : (y.startPending, y.finalPending) = (x.startPending, x.finalPending) := by rw [hframe]
  simp only [Prod.mk.injEq] at hmarks
  obtain ⟨hstart, hfinal⟩ := hmarks
  constructor
  case running => exact fun hs => absurd hs hrunning
  case blind => exact fun _ => hb
  case started =>
    intro hs
    rw [hstart, hfinal]
    exact hx.started (Leg.started_iff.mpr (mt hstopped.mpr (Leg.started_iff.mp hs)))
  case marks =>
    rw [hstart, hfinal]
    exact hx.marks
  case stopped =>
    intro hs
    have hempty := hx.stopped (hstopped.mp hs)
    obtain ⟨hdrops, hqueue⟩ := hfree hempty.records
    rw [hdrops, hqueue, hempty.scan] at hframe
    rw [hframe]
    exact { hempty with run := rfl, scan := rfl }
  case onlyOne => exact .inr hrun
  case run => exact fun h' => absurd hrun h'
  case hold =>
    rw [hframe]
    exact hx.hold
  case clean =>
    rw [hframe]
    exact hx.clean

/-- A departure from READY leaves nothing more in the Level Meter. -/
theorem LeavesReady.retains {s t : State} (h : LeavesReady s t) {l : LegId} (hl : t.meter.Retains l) :
    s.meter.Retains l := by
  rw [h.meter] at hl
  exact hl.imp id (Or.imp (mt (h.wants l)) id)

/-- The bias leaves READY for a state entered with both counts at 0. -/
theorem State.upholds_leaveReady {s u : State} (hready : s.bias.state = .ready)
    (hsame : (u.legs, u.meter, u.candidates) = (s.legs, s.meter, s.candidates)) {state : BiasState}
    (hbias : u.bias = s.bias.leaving state) (hleft : state ≠ .ready) : s.Upholds u.leaveReady := by
  simp only [Prod.mk.injEq] at hsame
  obtain ⟨hlegs, hmeter, hcandidates⟩ := hsame
  have hleg (l : LegId) : u.leg l = s.leg l := by
    rw [State.leg, hlegs]
    rfl
  have hleaves := leaveReady_leavesReady u
  generalize u.leaveReady = t at *
  have hstopped (l : LegId) : (t.leg l).state = .stopped → (s.leg l).state = .stopped := by
    rw [(hleaves.leg l).stopped, hleg]
    exact id
  refine ⟨fun h => ?_, hstopped⟩
  obtain ⟨-, hlegsSound, -, hretains⟩ := s.supervised_iff.mp h
  refine t.supervised_iff.mpr ⟨?_, fun l => ?_, fun l hl => ?_, fun l hl => mt (hstopped l) (hretains l ?_)⟩
  · rw [hleaves.onLegs.bias, hbias]
    exact s.bias.sound_entered
  · rw [hleaves.onLegs.bias, hbias]
    refine (hleaves.leg l).sound ?_ hleft
    rw [hleg, ← hready]
    exact hlegsSound l
  · rw [hleaves.meter] at hl
    cases hl
  · rw [State.Retains, hleaves.onLegs.candidates, hcandidates] at hl
    exact hl.imp_left fun hm => hmeter ▸ hleaves.retains hm

theorem State.upholds_biasOn (s : State) : s.Upholds s.biasOn := by
  unfold State.biasOn
  split
  · next hb =>
    refine State.upholds_setBias (fun _ => s.bias.sound_entered) ?_
    rw [hb]
    exact ⟨fun h => (by split at h <;> cases h), nofun⟩
  · exact .refl s

theorem State.upholds_biasOff (s : State) : s.Upholds s.biasOff := by
  unfold State.biasOff
  split
  · exact .refl s
  · next hb => exact State.upholds_leaveReady (u := s.biasTo .off) (state := .off) hb rfl rfl nofun
  · next hb => exact State.upholds_setBias (fun _ => s.bias.sound_entered) ⟨nofun, fun h => absurd h hb⟩

/-- A sag trips a bias that is SETTLING or READY (R142). -/
theorem State.upholds_enterSag (s : State) : s.Upholds s.enterSag := by
  have hentered (r : Rail) {state : BiasState} (n : Notice) (hready : state = .ready ↔ s.bias.state = .ready) :
      s.Upholds (((s.setRail r).setBias { s.bias with state := state, settle := 0, recovery := 0 }).notify n) :=
    (State.upholds_notify _ n).after
      ((s.upholds_setRail r).trans (State.upholds_setBias (fun _ => s.bias.sound_entered) hready))
  cases hb : s.bias.state with
  | ready =>
    rw [State.enterSag_ready hb]
    exact State.upholds_leaveReady (state := .tripped) hb rfl rfl nofun
  | settling =>
    rw [State.enterSag, hb]
    exact (State.upholds_notify _ _).after (hentered _ _ (by rw [hb]; exact ⟨nofun, nofun⟩))
  | off | tripped =>
    rw [State.enterSag, hb]
    exact hentered _ _ (by rw [hb]; exact Iff.rfl)

/-! ## The boundary, and what is taken ahead of it (R1, log 3) -/

theorem State.upholds_lapseCandidates (s : State) : s.Upholds s.lapseCandidates := by
  rw [State.lapseCandidates_eq]
  exact (s.upholds_filterCandidates fun c => !s.expires c).trans (.of_same rfl)

/-- A calibration is scheduled for a leg that wants it (R128). -/
theorem State.upholds_arbitrateCalibration (s : State) (instant : Nat) :
    s.Upholds (s.arbitrateCalibration instant) := by
  unfold State.arbitrateCalibration
  split
  · exact .refl s
  · next l _ =>
    split
    · exact .refl s
    · next k hwaiting =>
      have hwants : s.meter.wants.get l ≠ [] := fun h => by
        rw [h] at hwaiting
        cases hwaiting
      have hmark := s.meter.within_markWant l k true
      refine State.upholds_setMeter ⟨hmark.converter, fun j hj => ?_⟩
      rcases hj with hj | hj | ⟨c, hc, hcl⟩
      · exact hmark.retains j (.inl hj)
      · exact hmark.retains j (.inr (.inl hj))
      · rcases List.mem_append.mp hc with hc | hc
        · exact hmark.retains j (.inr (.inr ⟨c, hc, hcl⟩))
        · rw [List.mem_singleton.mp hc] at hcl
          exact .inr (.inl (hcl ▸ hwants))

theorem State.upholds_boundaryBias (s : State) (instant : Nat) : s.Upholds (s.boundaryBias instant) :=
  (State.upholds_setRail _ _).after
    (.ite (State.upholds_setBias (fun h => { h with }) Iff.rfl) (s.upholds_countBias instant))

theorem State.upholds_boundary (s : State) : s.Upholds s.boundary := by
  have hlegs : s.Upholds s.legsTaken := State.upholds_foldl (upholds_boundaryLeg s.comingInstant) Quad.all s
  have hmeter : s.Upholds s.beforeBias :=
    (State.upholds_setMeter (Meter.within_ageOffsets _)).after
      ((State.upholds_arbitrateCalibration _ _).after (hlegs.trans (State.upholds_lapseCandidates _)))
  have hcounted (t : State) (n : Nat) : t.Upholds { t with boundaries := n } := .of_same rfl
  rw [State.boundary_eq_boundaryBias]
  exact (hcounted _ _).after ((State.upholds_boundaryBias _ _).after hmeter)

end Sys2Proof.Machine
end

section
/-! SUPPORT. The converter, the receivers and the admission of announces keep the supervision (R66, R72, R81 to R94,
R99, R125, R128, R131 to R133, R161, R162). -/

namespace Sys2Proof.Machine

/-! ## The arbiter and the converter (R125, R128, R131) -/

theorem Meter.within_decide (m : Meter) (instant : Nat) (announcing : List LegId) :
    m.Within (m.decide instant announcing) := by
  unfold Meter.decide
  split
  · split
    · exact .refl m
    · exact .of_same rfl
  · exact .of_same rfl

theorem Meter.within_claim (m : Meter) (instant : Nat) (form : ClaimForm) (l : LegId) (announcing : List LegId) :
    m.Within (m.claim instant form l announcing).1 := by
  unfold Meter.claim
  split
  · exact m.within_decide instant announcing
  · exact .refl m

/-- The Level Meter changes, and begins no operation but one in READY and of a started leg. -/
theorem State.Supervised.setMeter {s : State} (h : s.Supervised) {m : Meter}
    (hconverter : ∀ l, m.converter.leg? = some l → s.bias.state = .ready ∧ (s.leg l).state ≠ .stopped)
    (hretains : ∀ l, m.Retains l → s.meter.Retains l ∨ (s.leg l).state ≠ .stopped) :
    (s.setMeter m).Supervised := by
  obtain ⟨hbias, hlegs, -, hheld⟩ := s.supervised_iff.mp h
  refine (s.setMeter m).supervised_iff.mpr ⟨hbias, hlegs, hconverter, fun l hl => ?_⟩
  rcases hl with hl | hl
  · exact (hretains l hl).elim (fun hm => hheld l (.inl hm)) id
  · exact hheld l (.inr hl)

theorem State.upholds_idle (s : State) : s.Upholds (s.setMeter { s.meter with converter := .idle }) :=
  ⟨fun h => h.setMeter nofun fun _ hl => .inl hl, fun _ => id⟩

/-- An operation begins, in READY and for a started leg, on a meter that comes to hold nothing. -/
theorem State.Supervised.operate {s : State} (h : s.Supervised) {m : Meter} (hm : s.meter.Within m)
    (hready : s.bias.state = .ready) {l : LegId} (hs : (s.leg l).state ≠ .stopped) {op : Converter}
    (hop : op.leg? = some l) : (s.setMeter { m with converter := op }).Supervised := by
  refine h.setMeter (fun k hk => ⟨hready, ?_⟩) fun k hk => .inl (hm.retains k hk)
  rw [← Option.some.inj (hop.symm.trans hk)]
  exact hs

/-- The converter after an announce's request: it samples, in READY, for the leg that asks (R66, R132). -/
theorem State.announceRequest_converter {s : State} {l k : LegId} {a instant : Nat} {rivals : List LegId}
    (h : (s.announceRequest l a instant rivals).1.converter.leg? = some k) :
    s.meter.converter.leg? = some k ∨ s.bias.state = .ready ∧ k = l := by
  have hclaim := (s.meter.within_claim instant .announce l (l :: rivals)).converter
  unfold State.announceRequest at h
  dsimp only at h
  split at h
  · next hready =>
    rw [Bool.and_eq_true, decide_eq_true_eq] at hready
    split at h
    · exact .inr ⟨hready.2, (Option.some.inj h).symm⟩
    · refine .inl ?_
      rw [Meter.addWant] at h
      split at h <;> exact hclaim ▸ h
  · exact .inl (hclaim ▸ h)

/-- An announce's request may leave its range wanted (R127). -/
theorem State.announceRequest_retains {s : State} {l k : LegId} {a instant : Nat} {rivals : List LegId}
    (h : (s.announceRequest l a instant rivals).1.Retains k) : s.meter.Retains k ∨ k = l := by
  have hclaim := (s.meter.within_claim instant .announce l (l :: rivals)).retains k
  by_cases hkl : k = l
  · exact .inr hkl
  refine .inl (hclaim ?_)
  unfold State.announceRequest at h
  dsimp only at h
  split at h
  · split at h
    · exact h
    · rw [Meter.addWant] at h
      split at h
      · exact h
      · rw [Meter.Retains] at h
        simp only [Four.get_set_other _ _ hkl] at h
        exact h
  · exact h

/-! ## The receivers (R56, R72, R161, R162) -/

theorem Leg.Empty.pruned {x : Leg} (h : x.Empty) {rx : Receiver} (hinHand : rx.inHand = [])
    (hexpected : rx.expectations = []) (hscan : rx.scan = none) (hannounces : rx.announces = [])
    (hlatch : rx.latch = false) : ({ x with receiver := rx.prune } : Leg).Empty :=
  { h with
    inHand := by rw [Receiver.prune, hinHand]; rfl
    expected := hexpected, scan := hscan, announces := hannounces, latch := hlatch }

theorem State.upholds_closing (s : State) (l : LegId) (n : Cycle) :
    s.Upholds (s.mapLeg l fun x => x.mapReceiver fun rx => rx.close n) :=
  State.upholds_mapLeg (.of_watched rfl id fun _ h =>
    h.pruned (by rw [h.inHand]; rfl) h.expected h.scan h.announces h.latch)

theorem State.upholds_settled (s : State) (l : LegId) (rest : List Expectation)
    (h : (s.leg l).receiver.expectations ≠ []) :
    s.Upholds (s.mapLeg l fun x => x.mapReceiver fun rx => Receiver.prune { rx with expectations := rest }) :=
  State.upholds_mapLeg (.of_watched rfl id fun _ he => absurd he.expected h)

theorem State.upholds_scanEnded (s : State) (l : LegId) :
    s.Upholds (s.mapLeg l fun x =>
      x.mapReceiver fun rx => Receiver.prune { rx with scan := none, announces := [] }) :=
  State.upholds_mapLeg (.of_watched rfl id fun _ h => h.pruned h.inHand h.expected rfl rfl h.latch)

/-- The stray-light latch of a started leg (R72). -/
theorem State.upholds_setLatch {s : State} {l : LegId} (hs : (s.leg l).state ≠ .stopped) {latch : Bool} {count : Nat}
    (hcount : count < Config.clearRun) (hlatch : latch = false → count = 0) :
    s.Upholds (s.mapLeg l fun x => x.mapReceiver fun rx => { rx with latch := latch, cleanCount := count }) :=
  State.upholds_mapLeg
    ⟨id, fun h => { h with stopped := fun hstopped => absurd hstopped hs, clean := ⟨hcount, hlatch⟩ }⟩

theorem State.upholds_updateLatch {s : State} {l : LegId} (hs : (s.leg l).state ≠ .stopped) (n : Cycle)
    (k : CycleClass) : s.Upholds (s.updateLatch l n k) := by
  have hset := State.upholds_setLatch (latch := true) hs (Nat.succ_pos 15 : 0 < Config.clearRun) nofun
  unfold State.updateLatch
  dsimp only
  split
  · exact (State.upholds_notify _ _).after hset
  · exact .refl s
  · exact hset
  · split
    · exact (State.upholds_notify _ _).after (State.upholds_setLatch hs (Nat.succ_pos _) fun _ => rfl)
    · next hmore => exact State.upholds_setLatch hs (Nat.lt_of_not_le hmore) nofun
  · exact .refl s

section Watched

variable {s : State} {l : LegId} {run : IsolationRun} (hrun : (s.leg l).run = some run)
include hrun

/-- An isolation run goes on. -/
theorem State.upholds_setRun (run' : IsolationRun) : s.Upholds (s.mapLeg l fun x => { x with run := some run' }) :=
  (s.worksOn_setRun l fun h => nomatch hrun.symm.trans h).upholds

theorem State.upholds_watchTurn (k : CycleClass) : s.Upholds (s.watchTurn l run k) := by
  cases k with
  | neutral => exact .refl s
  | stray => exact ((s.movesRecords_endTurn l).worksOn.trans (State.worksOn_nextTurn _ l)).upholds
  | clean =>
    have hset := State.upholds_setRun hrun { run with clean := run.clean + 1 }
    exact .ite (hset.trans (State.worksOn_nameCulprit _ l).upholds) hset

end Watched

theorem State.upholds_updateRun (s : State) (l : LegId) (n : Cycle) (k : CycleClass) :
    s.Upholds (s.updateRun l n k) := by
  unfold State.updateRun
  split
  · exact .refl s
  · next run hrun =>
    split
    · exact .refl s
    · exact .refl s
    · exact .ite (State.upholds_setRun hrun _) (.ite (State.upholds_watchTurn hrun k) (.refl s))

/-! ## What a started leg takes in (R49, R69, R85, R99) -/

theorem Leg.park_frame (x : Leg) (tag : FactoryTag) : x.park tag = { x with queue := (x.park tag).queue } := by
  unfold Leg.park
  split
  · rfl
  · split <;> rfl

section Started

variable {s : State} {l : LegId} (hs : (s.leg l).state ≠ .stopped)
include hs

theorem State.upholds_direct (new : Directive) (ident : Identity) : s.Upholds (s.direct l new ident) :=
  State.upholds_mapLeg (.of_started hs rfl id)

theorem State.upholds_park (tag : FactoryTag) : s.Upholds (s.mapLeg l fun x => x.park tag) := by
  refine State.upholds_mapLeg (.of_started hs ?_ ?_)
  · rw [Leg.park_frame]
    rfl
  · rw [Leg.park_frame]
    exact id

/-- An announce joins the queue of a leg that scans, or its tag is noted as heard (R68, R69). -/
theorem State.upholds_screen (a : Announce) : s.Upholds (s.screen l a) :=
  .ite (.ite (State.upholds_mapLeg (.of_started hs rfl id)) (.refl s)) (s.upholds_heard _ _ _)

theorem State.upholds_allocate (d : Nat) (a : Admission) : s.Upholds (s.allocate l d a) := by
  have hrecord : s.Upholds (s.mapLeg l fun x =>
      { x.setRecord d (some (allocated (s.leg l) d a)) with allocCount := x.allocCount + 1#32 }) :=
    State.upholds_mapLeg (.of_started hs rfl id)
  have hlink (t : State) : t.Upholds (match t.rosterAt a.index with
      | some e => t.setRosterAt a.index (some { e with state := .active, link := some (l, d) })
      | none => t) := by
    split
    · exact t.upholds_setRosterAt _ _
    · exact .refl t
  have hlinked := hrecord.trans (hlink _)
  exact hlinked.trans (State.upholds_direct (hlinked.started hs) _ _)

theorem State.upholds_takeIn (i : Nat) (e : RosterEntry) (r : Nat) (launch : LaunchStep) (power : Option Int)
    (vector : AttrSet) : s.Upholds (s.takeIn l i e r launch power vector) := by
  unfold State.takeIn
  split
  · exact .refl s
  · exact State.upholds_allocate hs _ _

/-! ## The decision on an announce (R81 to R88) -/

theorem State.upholds_holdCandidate (a : Announce) (reason : HeldReason) (i : Option Nat) :
    s.Upholds (s.holdCandidate l a reason i) := by
  refine .ite ((State.upholds_notify _ _).after (State.upholds_setCandidates fun c hc => ?_)) (.refl s)
  rcases List.mem_append.mp hc with hc | hc
  · exact .inl (.inr ⟨c, hc, rfl⟩)
  · rw [List.mem_singleton.mp hc]
    exact .inr hs

theorem State.upholds_decideExpected (a : Announce) (i : Nat) (e : RosterEntry) :
    s.Upholds (s.decideExpected l a i e) := by
  unfold State.decideExpected
  split
  · split
    · exact State.upholds_holdCandidate hs _ _ _
    · exact State.upholds_takeIn hs _ _ _ _ _ _
  · exact State.upholds_holdCandidate hs _ _ _

theorem State.upholds_restarted (a : Announce) (i : Nat) (e : RosterEntry) (d : Nat) :
    s.Upholds (s.restarted l a i e d) := by
  unfold State.restarted
  split
  · exact .refl s
  · have hended := (s.worksOn_endRecord l d .superseded false).upholds
    exact .ite (.refl s) (hended.trans (State.upholds_decideExpected (hended.started hs) _ _ _))

theorem State.upholds_admission (a : Announce) : s.Upholds (s.admission l a) := by
  unfold State.admission
  have hheard := s.upholds_heard a.tag l a.cycle
  refine hheard.trans ?_
  replace hs := hheard.started hs
  clear hheard
  generalize s.heard a.tag l a.cycle = t at hs ⊢
  dsimp only
  split
  · exact .ite (State.upholds_mapCandidates fun c => by split <;> rfl) (.refl t)
  · split
    · split
      · exact State.upholds_park hs _
      · exact .ite (State.upholds_restarted hs _ _ _ _) (State.upholds_holdCandidate hs _ _ _)
      · exact State.upholds_decideExpected hs _ _ _
    · split
      · exact State.upholds_holdCandidate hs _ _ _
      · exact .refl t

end Started

/-- Decisions one after another, on the announces of a started leg. -/
theorem State.upholds_admissions {l : LegId} (as : List Announce) {s : State} (hs : (s.leg l).state ≠ .stopped) :
    s.Upholds (as.foldl (fun s a => s.admission l a) s) := by
  induction as generalizing s with
  | nil => exact .refl s
  | cons a as ih =>
    have hfirst := State.upholds_admission hs a
    exact hfirst.trans (ih (hfirst.started hs))

/-- A candidate taken in, on its leg (R92). -/
theorem State.upholds_carryAdmit {s : State} {c : Candidate} (hs : (s.leg c.leg).state ≠ .stopped) (i : Nat)
    (e : RosterEntry) : s.Upholds (s.carryAdmit c i e) := by
  have hsuperseded (t : State) (e : RosterEntry) : t.Upholds (t.supersedeLinked e) := by
    unfold State.supersedeLinked
    split
    · exact (t.worksOn_endRecord _ _ _ _).upholds
    · exact .refl t
  have hended := (s.upholds_setRosterAt i (some (e.correct c.leg))).trans (hsuperseded _ (e.correct c.leg))
  exact (hended.trans (State.upholds_takeIn (hended.started hs) _ _ _ _ _ _)).trans
    (State.upholds_filterCandidates _ _)

end Sys2Proof.Machine
end

section
/-! SUPPORT. The teardown of a leg keeps the supervision (R152): it leaves a leg that is STOPPED and holds nothing, and
nothing of it in the Level Meter and the Candidate List. -/

namespace Sys2Proof.Machine

theorem State.WorksOn.others {s t : State} {l k : LegId} (h : s.WorksOn l t) (hk : k ≠ l) : t.leg k = s.leg k := by
  rw [h.frame]
  exact s.setLeg_leg_other (t.leg l) hk

theorem State.worksOn_endAll (s : State) (l : LegId) : s.WorksOn l (s.endAll l) :=
  List.foldlRecOn (motive := s.WorksOn l) _ _ (.refl s l) fun t h p _ =>
    h.trans (t.worksOn_endRecord l p.1 .stopped false)

theorem State.endHold_frame (s : State) (l : LegId) (cause : HoldCause) :
    s.endHold l cause =
      { s.setLeg l { s.leg l with hold := none } with iface := (s.endHold l cause).iface } := by
  unfold State.endHold
  split
  · next h =>
    have hsame : { s.leg l with hold := none } = s.leg l := by rw [← h]
    rw [hsame, State.setLeg_self]
  · rfl

theorem State.upholds_endHold (s : State) (l : LegId) (cause : HoldCause) : s.Upholds (s.endHold l cause) := by
  rw [State.endHold_frame]
  exact (State.upholds_setLeg Leg.upholds_noHold).trans (.of_same rfl)

/-- A leg whose run, hold and records have ended as it stops (R152, steps 1 to 4). -/
def State.endedOn (s : State) (l : LegId) : State :=
  (((s.mapLeg l fun x => { x with state := .stopped, finalPending := true }).endRun l .aborted none).endHold l
    .stopped).endAll l

/-- What the end of a leg's run, hold and records leaves, from `s` to `u`. -/
structure EndedOn (l : LegId) (s u : State) : Prop where
  leg : u.leg l =
    { s.leg l with
      state := .stopped, finalPending := true, run := none, hold := none, drops := (u.leg l).drops,
      queue := (u.leg l).queue }
  free : ∀ d, (u.leg l).record d = none
  others : ∀ k, k ≠ l → u.leg k = s.leg k
  parts : (u.meter, u.bias, u.candidates) = (s.meter, s.bias, s.candidates)

theorem State.endedOn_endedOn (s : State) (l : LegId) : EndedOn l s (s.endedOn l) := by
  have hfree : ∀ d, ((s.endedOn l).leg l).record d = none := State.endAll_free _ l
  unfold State.endedOn at hfree ⊢
  generalize hv : (s.mapLeg l fun x => { x with state := .stopped, finalPending := true }) = v at *
  have hvleg : v.leg l = { s.leg l with state := .stopped, finalPending := true } := by
    rw [← hv, State.mapLeg_leg_same]
  have hvothers (k : LegId) (hk : k ≠ l) : v.leg k = s.leg k := by rw [← hv, State.mapLeg_leg_other s _ hk]
  have hvparts : (v.meter, v.bias, v.candidates) = (s.meter, s.bias, s.candidates) := by rw [← hv]; rfl
  clear hv
  have hrun := v.endRun_run l .aborted none
  have hw := v.worksOn_endRun l .aborted none
  generalize v.endRun l .aborted none = w at *
  have hx := w.endHold_frame l .stopped
  generalize w.endHold l .stopped = x at *
  have hxleg : x.leg l = { w.leg l with hold := none } := by rw [hx]; exact State.setLeg_leg_same w l _
  have hu := x.worksOn_endAll l
  generalize x.endAll l = u at *
  have hurun : (u.leg l).run = none := hu.leg.run (by rw [hxleg]; exact hrun)
  refine ⟨?_, hfree, fun k hk => ?_, ?_⟩
  · rw [← hurun, hu.leg.frame, hxleg, hw.leg.frame, hvleg]
  · rw [hu.others hk, hx]
    exact (w.setLeg_leg_other _ hk).trans ((hw.others hk).trans (hvothers k hk))
  · rw [hu.frame, hx, hw.frame]
    exact hvparts

/-- The leg that a teardown leaves (R152). -/
theorem State.teardown_leg (s : State) (l k : LegId) :
    (s.teardown l).leg k =
      if k = l then
        { (s.endedOn l).leg l with
          queue := [{ dir := .releaseAll, ident := none, follow := FollowOn.empty }],
          receiver := ((s.endedOn l).leg l).receiver.cleared, calendar := none }
      else (s.endedOn l).leg k := by
  unfold State.endedOn State.teardown
  simp only [State.notify_leg, State.mapLeg_leg, State.setMeter_leg, State.setCandidates_leg]
  by_cases hk : k = l <;> simp [hk, Leg.mapReceiver]

/-- What else the supervision reads after a teardown (R152). -/
theorem State.teardown_parts (s : State) (l : LegId) :
    ((s.teardown l).meter, (s.teardown l).bias, (s.teardown l).candidates) =
      ((s.endedOn l).meter.dropLeg l, (s.endedOn l).bias,
        (s.endedOn l).candidates.filter fun c => decide (c.leg ≠ l)) := rfl

/-- A leg torn down is STOPPED and holds nothing but its Release ALL (R148, R152). -/
theorem Leg.Sound.tornDown {x : Leg} {b : BiasState} (h : x.Sound b) (hs : x.state ≠ .stopped)
    {drops : List (Option DropRecord)} (hfree : ∀ d, ({ x with drops := drops } : Leg).record d = none) :
    ({ x with
        state := .stopped, finalPending := true, run := none, hold := none, drops := drops,
        queue := [{ dir := .releaseAll, ident := none, follow := FollowOn.empty }],
        receiver := x.receiver.cleared, calendar := none } : Leg).Sound b := by
  obtain ⟨hstart, -⟩ := h.started (Leg.started_iff.mpr hs)
  exact
    { running := nofun
      blind := nofun
      started := nofun
      marks := fun hmarks => by
        obtain ⟨hpending, -⟩ := hmarks
        rw [hstart] at hpending
        cases hpending
      stopped := fun _ => ⟨rfl, rfl, rfl, hfree, rfl, rfl, rfl, rfl, rfl, rfl⟩
      onlyOne := .inl rfl
      run := fun hrun => absurd rfl hrun
      hold := nofun
      clean := ⟨Nat.succ_pos _, fun _ => rfl⟩ }

/-- The Level Meter without a leg holds nothing of it, and of the others what it held (R152). -/
theorem Meter.dropLeg_retains {m : Meter} {l k : LegId} (h : (m.dropLeg l).Retains k) : k ≠ l ∧ m.Retains k := by
  rcases h with h | h | ⟨c, hc, hcl⟩
  · by_cases hkl : k = l
    · subst hkl
      exact absurd (Four.get_set_same _ _ _) h
    · exact ⟨hkl, .inl fun hnone => h ((Four.get_set_other _ _ hkl).trans hnone)⟩
  · by_cases hkl : k = l
    · subst hkl
      exact absurd (Four.get_set_same _ _ _) h
    · exact ⟨hkl, .inr (.inl fun hnone => h ((Four.get_set_other _ _ hkl).trans hnone))⟩
  · obtain ⟨hmem, hne⟩ := List.mem_filter.mp hc
    exact ⟨hcl ▸ of_decide_eq_true hne, .inr (.inr ⟨c, hmem, hcl⟩)⟩

theorem Meter.dropLeg_converter {m : Meter} {l k : LegId} (h : (m.dropLeg l).converter.leg? = some k) :
    k ≠ l ∧ m.converter.leg? = some k := by
  unfold Meter.dropLeg at h
  dsimp only at h
  split at h
  · cases h
  · next hother => exact ⟨fun hkl => hother (hkl ▸ h), h⟩

/-- The teardown of a started leg (R152). -/
theorem State.Supervised.teardown {s : State} (h : s.Supervised) {l : LegId} (hs : (s.leg l).state ≠ .stopped) :
    (s.teardown l).Supervised := by
  obtain ⟨hleg, hfree, hothers, hparts⟩ := s.endedOn_endedOn l
  have hlegs := s.teardown_leg l
  have hdropped := s.teardown_parts l
  generalize s.endedOn l = u at *
  generalize s.teardown l = t at *
  simp only [Prod.mk.injEq] at hparts hdropped
  obtain ⟨humeter, hubias, hucandidates⟩ := hparts
  obtain ⟨hmeter, hbias, hcandidates⟩ := hdropped
  have hother {k : LegId} (hk : k ≠ l) : t.leg k = s.leg k := by rw [hlegs, if_neg hk, hothers k hk]
  obtain ⟨hsound, hlegsSound, hconverter, hretains⟩ := s.supervised_iff.mp h
  refine t.supervised_iff.mpr ⟨by rw [hbias, hubias]; exact hsound, fun k => ?_, fun k hk => ?_, fun k hk => ?_⟩
  · rw [hbias, hubias]
    by_cases hk : k = l
    · rw [hlegs, if_pos hk, hleg]
      exact (hlegsSound l).tornDown hs hfree
    · rw [hother hk]
      exact hlegsSound k
  · rw [hmeter, humeter] at hk
    obtain ⟨hkl, hk⟩ := Meter.dropLeg_converter hk
    rw [hbias, hubias, hother hkl]
    exact hconverter k hk
  · rw [State.Retains, hmeter, humeter, hcandidates, hucandidates] at hk
    rcases hk with hk | ⟨c, hc, rfl⟩
    · obtain ⟨hkl, hk⟩ := Meter.dropLeg_retains hk
      rw [hother hkl]
      exact hretains k (.inl hk)
    · obtain ⟨hmem, hne⟩ := List.mem_filter.mp hc
      rw [hother (of_decide_eq_true hne)]
      exact hretains c.leg (.inr ⟨c, hmem, rfl⟩)

end Sys2Proof.Machine
end

section
/-! SUPPORT. Requests, the line and the resets keep the supervision of the bias, the legs and the converter. -/

namespace Sys2Proof.Machine

/-! ## Requests -/

/-- A request answered from a state that meets the invariant leaves one that meets it. -/
def AnswersSupervised (act : State → Answer) : Prop := ∀ s, s.Supervised → (act s).state.Supervised

theorem answersSupervised_refuse (code : ReplyCode) : AnswersSupervised (refuse code) := fun _ h => h

/-- A request answered DONE with a state that keeps the supervision. -/
theorem State.Supervised.done {s t : State} (hs : s.Supervised) (h : s.Upholds t) (values : List Byte) :
    (done t values).state.Supervised :=
  h.supervised hs

theorem answersSupervised_parsed {α : Type} {parse : List Byte → Option α} {act : α → State → Answer}
    (hact : ∀ f, AnswersSupervised (act f)) (payload : List Byte) : AnswersSupervised (parsed parse act payload) := by
  intro s h
  unfold parsed
  split
  · exact h
  · exact hact _ s h

theorem answersSupervised_withLeg {act : LegId → State → Answer} (hact : ∀ l, AnswersSupervised (act l)) (n : Nat) :
    AnswersSupervised (withLeg n act) := by
  intro s h
  unfold withLeg
  split
  · exact h
  · exact hact _ s h

theorem answersSupervised_withDrop {act : LegId → Nat → State → Answer} (hact : ∀ l d, AnswersSupervised (act l d))
    (f : DropFields) : AnswersSupervised (withDrop f act) :=
  answersSupervised_withLeg (fun l s h => by split; exacts [hact l _ s h, h]) f.leg

theorem answersSupervised_status (payload : List Byte) : AnswersSupervised (answerStatus payload) :=
  answersSupervised_parsed (fun _ s => (State.upholds_setRail s _).supervised) payload

theorem answersSupervised_reset (payload : List Byte) : AnswersSupervised (answerReset payload) :=
  answersSupervised_parsed (fun _ s => (State.upholds_setIface s _).supervised) payload

theorem answersSupervised_bias (payload : List Byte) : AnswersSupervised (answerBias payload) :=
  answersSupervised_parsed (fun _ s => (State.Upholds.ite s.upholds_biasOn s.upholds_biasOff).supervised) payload

theorem answersSupervised_setupLeg (payload : List Byte) : AnswersSupervised (answerSetupLeg payload) := by
  refine answersSupervised_parsed (fun f => answersSupervised_withLeg (fun l s h => ?_) _) payload
  repeat' split
  any_goals exact h
  exact h.done (State.upholds_mapLeg (.of_same rfl rfl)) _

/-- A start becomes pending on a leg that is STOPPED with neither mark set (R148, R151). -/
theorem Leg.upholds_startPending {x : Leg} {b : BiasState} (hquiet : x.quiet = true) :
    x.Upholds b { x with startPending := true } := by
  simp only [Leg.quiet, Bool.and_eq_true, decide_eq_true_eq, Bool.not_eq_true'] at hquiet
  obtain ⟨⟨hs, -⟩, hfinal⟩ := hquiet
  refine ⟨id, fun h => { h with started := fun hstarted => ?_, marks := fun hmarks => ?_, stopped := fun _ => ?_ }⟩
  · exact absurd hs (Leg.started_iff.mp hstarted)
  · obtain ⟨-, hpending⟩ := hmarks
    rw [hfinal] at hpending
    cases hpending
  · exact { h.stopped hs with }

theorem answersSupervised_startLeg (payload : List Byte) : AnswersSupervised (answerStartLeg payload) := by
  refine answersSupervised_parsed (fun f => answersSupervised_withLeg (fun l s h => ?_) _) payload
  split
  · exact h
  · next hquiet => exact h.done (State.upholds_mapLeg (Leg.upholds_startPending (by simpa using hquiet))) _

theorem answersSupervised_stopLeg (payload : List Byte) : AnswersSupervised (answerStopLeg payload) := by
  refine answersSupervised_parsed (fun f => answersSupervised_withLeg (fun l s h => ?_) _) payload
  split
  · next hs => exact h.teardown (Leg.started_iff.mp hs)
  · exact h

theorem answersSupervised_legMuster (payload : List Byte) : AnswersSupervised (answerLegMuster payload) :=
  answersSupervised_parsed (fun _ => answersSupervised_withLeg
    (fun _ _ h => h.done (State.upholds_mapLeg (.of_same rfl rfl)) _) _) payload

/-- A hold of 1 to 1,600 cycles begins on a started leg without an isolation run (R156). -/
theorem Leg.upholds_beginHold {x : Leg} {b : BiasState} (hs : x.state ≠ .stopped) (hrun : x.run = none) {n : Nat}
    (hn : 1 ≤ n ∧ n ≤ Config.maxHold) :
    x.Upholds b { x with hold := some { length := n, first := none, built := 0 } } := by
  refine ⟨id, fun h =>
    { h with stopped := fun hstopped => absurd hstopped hs, onlyOne := .inr hrun, hold := fun h' hh' => ?_ }⟩
  cases hh'
  exact ⟨hn.1, hn.2, Nat.zero_le n⟩

theorem answersSupervised_holdLeg (payload : List Byte) : AnswersSupervised (answerHoldLeg payload) := by
  refine answersSupervised_parsed (fun f => answersSupervised_withLeg (fun l s h => ?_) _) payload
  dsimp only
  split
  · exact h
  · next hfree =>
    split
    · exact h
    · next hlength =>
      simp only [Bool.not_eq_true', Bool.not_eq_false, Bool.and_eq_true, Option.isNone_iff_eq_none] at hfree
      obtain ⟨⟨hs, -⟩, hrun⟩ := hfree
      exact h.done (State.upholds_mapLeg (Leg.upholds_beginHold (Leg.started_iff.mp hs) hrun (by omega))) _

theorem answersSupervised_unholdLeg (payload : List Byte) : AnswersSupervised (answerUnholdLeg payload) := by
  refine answersSupervised_parsed (fun f => answersSupervised_withLeg (fun l s h => ?_) _) payload
  split
  · exact h.done (s.upholds_endHold l _) _
  · exact h

/-- An isolation run becomes active on a RUNNING leg without a hold (R160, R164). -/
theorem Leg.upholds_beginRun {x : Leg} {b : BiasState} (hs : x.state = .running) (hhold : x.hold = none)
    (run : IsolationRun) : x.Upholds b { x with run := some run } := by
  refine ⟨id, fun h => { h with stopped := fun hstopped => ?_, onlyOne := .inl hhold, run := fun _ => hs }⟩
  cases hs.symm.trans hstopped

theorem answersSupervised_isolateLeg (payload : List Byte) : AnswersSupervised (answerIsolateLeg payload) := by
  refine answersSupervised_parsed (fun f => answersSupervised_withLeg (fun l s h => ?_) _) payload
  dsimp only
  split
  · next hfree =>
    simp only [Bool.and_eq_true, decide_eq_true_eq, Option.isNone_iff_eq_none] at hfree
    obtain ⟨⟨⟨hs, -⟩, hhold⟩, -⟩ := hfree
    have hbegun (run : IsolationRun) : s.Upholds (s.mapLeg l fun x => { x with run := some run }) :=
      State.upholds_mapLeg (Leg.upholds_beginRun hs hhold run)
    refine h.done ((hbegun _).trans (worksOn_beginTurn ?_ _ _ 0).upholds) _
    rw [State.mapLeg_leg_same]
    exact nofun
  · exact h

theorem State.upholds_relabel (s : State) (link : Option (LegId × Nat)) (plot share : Nat) :
    s.Upholds (s.relabel link plot share) := by
  unfold State.relabel
  split
  · exact .refl s
  · split
    · exact .refl s
    · next hr => exact (State.movesRecords_setRecord hr _ _).upholds

theorem answersSupervised_rosterPut (payload : List Byte) : AnswersSupervised (answerRosterPut payload) := by
  refine answersSupervised_parsed (fun f s h => ?_) payload
  split
  · split
    · unfold State.putNew
      split
      · exact h
      · exact h.done ((State.upholds_indexCandidate _ _ _).after (s.upholds_setRosterAt _ _)) _
    · unfold State.putOver
      split
      · split
        · exact h
        · exact h.done ((State.upholds_relabel _ _ _ _).after (s.upholds_setRosterAt _ _)) _
      · exact h.done (s.upholds_setRosterAt _ _) _
  · exact h

theorem answersSupervised_rosterRemove (payload : List Byte) : AnswersSupervised (answerRosterRemove payload) := by
  refine answersSupervised_parsed (fun f s h => ?_) payload
  split
  · exact h
  · split
    · exact h
    · exact h.done ((State.upholds_indexCandidate _ _ _).after (s.upholds_setRosterAt _ _)) _

/-- A candidate is a started leg's (R152), which takes its Park or its record. -/
theorem answersSupervised_verdict (payload : List Byte) : AnswersSupervised (answerVerdict payload) := by
  refine answersSupervised_parsed (fun f s h => ?_) payload
  split
  · exact h
  · next c hc =>
    have hs : (s.leg c.leg).state ≠ .stopped := h.retains (.inr ⟨c, (State.candidate_spec hc).1, rfl⟩)
    split
    · have hdropped : s.Upholds (s.dropCandidate f.tag) := s.upholds_filterCandidates _
      exact h.done (hdropped.trans (State.upholds_park (hdropped.started hs) _)) _
    · split
      · exact h
      · exact h.done (State.upholds_carryAdmit hs _ _) _

theorem answersSupervised_setActivation (payload : List Byte) : AnswersSupervised (answerSetActivation payload) := by
  refine answersSupervised_parsed (fun f s h => ?_) payload
  split
  · exact h
  · split
    · exact h.done (State.Upholds.of_same (t := s.setParams f.params) rfl) _
    · exact h

theorem answersSupervised_dropSilence (payload : List Byte) : AnswersSupervised (answerDropSilence payload) := by
  refine answersSupervised_parsed (fun f => answersSupervised_withDrop (fun l d s h => ?_) f) payload
  split
  · exact h
  · next hr =>
    split
    · exact h
    · exact h.done (State.movesRecords_setRecord_direct hr _ _ _ _).upholds _

theorem answersSupervised_dropResume (payload : List Byte) : AnswersSupervised (answerDropResume payload) := by
  refine answersSupervised_parsed (fun f => answersSupervised_withDrop (fun l d s h => ?_) f) payload
  split
  · exact h
  · next hr =>
    split
    · exact h.done (State.movesRecords_setRecord_direct hr _ _ _ _).upholds _
    · exact h

theorem answersSupervised_dropRetire (payload : List Byte) : AnswersSupervised (answerDropRetire payload) := by
  refine answersSupervised_parsed (fun f => answersSupervised_withDrop (fun l d s h => ?_) f) payload
  split
  · exact h
  · exact h.done (s.worksOn_endRecord l d _ _).upholds _

theorem answersSupervised_calLoad (payload : List Byte) : AnswersSupervised (answerCalLoad payload) := by
  refine answersSupervised_parsed (fun f s h => ?_) payload
  split
  · exact h
  · next k _ =>
    split
    · have hloaded : s.meter.Within { s.meter with tables := s.meter.tables.set k f.values } := .of_same rfl
      exact h.done (State.upholds_setMeter hloaded) _
    · exact h

/-- The reads change nothing. -/
theorem answersSupervised_candidateRead (payload : List Byte) : AnswersSupervised (answerCandidateRead payload) := by
  refine answersSupervised_parsed (fun k s h => ?_) payload
  dsimp only
  repeat' split
  all_goals exact h

theorem answersSupervised_rosterRead (payload : List Byte) : AnswersSupervised (answerRosterRead payload) := by
  refine answersSupervised_parsed (fun k s h => ?_) payload
  repeat' split
  all_goals exact h

theorem answersSupervised_calRead (payload : List Byte) : AnswersSupervised (answerCalRead payload) := by
  refine answersSupervised_parsed (fun n s h => ?_) payload
  split <;> exact h

theorem answersSupervised_answerFor (code : Byte) (payload : List Byte) :
    AnswersSupervised (answerFor code payload) := by
  unfold answerFor
  split
  · exact answersSupervised_status payload
  · exact answersSupervised_reset payload
  · exact answersSupervised_bias payload
  · exact answersSupervised_setupLeg payload
  · exact answersSupervised_startLeg payload
  · exact answersSupervised_stopLeg payload
  · exact answersSupervised_legMuster payload
  · exact answersSupervised_parsed (fun _ => answersSupervised_withLeg (fun _ _ h => h) _) payload
  · exact answersSupervised_holdLeg payload
  · exact answersSupervised_unholdLeg payload
  · exact answersSupervised_isolateLeg payload
  · exact answersSupervised_rosterPut payload
  · exact answersSupervised_rosterRemove payload
  · exact answersSupervised_rosterRead payload
  · exact answersSupervised_verdict payload
  · exact answersSupervised_candidateRead payload
  · exact answersSupervised_setActivation payload
  · exact answersSupervised_parsed (fun _ _ h => h) payload
  · exact answersSupervised_dropSilence payload
  · exact answersSupervised_dropResume payload
  · exact answersSupervised_dropRetire payload
  · exact answersSupervised_parsed (fun f => answersSupervised_withDrop (fun _ _ _ h => h) f) payload
  · exact answersSupervised_calLoad payload
  · exact answersSupervised_calRead payload
  · exact answersSupervised_refuse _

/-! ## The line and the resets -/

theorem State.takeRequest_supervised {tag code : Byte} {act : State → Answer} (hact : AnswersSupervised act) {s : State}
    (h : s.Supervised) : (takeRequest tag code act s).Supervised := by
  unfold takeRequest
  split
  · exact h
  · split
    · exact (State.Upholds.ite (s.upholds_setIface _) (.refl s)).supervised h
    · exact (State.upholds_setIface _ _).supervised (hact _ ((s.upholds_setIface _).supervised h))

theorem State.hunt_supervised {s : State} (h : s.Supervised) : s.hunt.Supervised := (s.upholds_setIface _).supervised h

theorem State.deliverFrame_supervised {s : State} (h : s.Supervised) (bytes : List Byte) :
    (s.deliverFrame bytes).Supervised := by
  unfold State.deliverFrame
  split
  · split
    · exact State.takeRequest_supervised (answersSupervised_answerFor _ _) h
    · exact h
  · exact h

theorem State.arbitrate_supervised {s : State} (h : s.Supervised) : s.arbitrate.Supervised :=
  (s.upholds_setIface _).supervised h

theorem State.readBytes_supervised (bytes : List Byte) {s : State} (h : s.Supervised) :
    (s.readBytes bytes).1.Supervised := by
  induction bytes generalizing s with
  | nil => exact h
  | cons b rest ih =>
    unfold State.readBytes
    split
    · exact ih ((s.upholds_setIface _).supervised h)
    · exact State.hunt_supervised h
    · exact ih (State.arbitrate_supervised (State.deliverFrame_supervised (State.hunt_supervised h) _))

theorem State.rescan_supervised (n : Nat) (bytes : List Byte) {s : State} (h : s.Supervised) :
    (State.rescan n bytes s).Supervised := by
  induction n generalizing bytes s with
  | zero => exact h
  | succ n ih =>
    have hread := State.readBytes_supervised bytes h
    unfold State.rescan
    split
    · next heq => rw [heq] at hread; exact hread
    · next heq => rw [heq] at hread; exact ih _ hread

theorem State.receive_supervised (b : Byte) {s : State} (h : s.Supervised) : (s.receive b).Supervised := by
  have hread := State.readBytes_supervised [b] h
  unfold State.receive
  split
  · next heq => rw [heq] at hread; exact hread
  · next heq => rw [heq] at hread; exact State.rescan_supervised _ _ hread

/-- A change of what the supervision does not read. -/
theorem State.Supervised.of_same {s t : State} (h : s.Supervised)
    (hsame : (t.legs, t.meter, t.bias, t.candidates) = (s.legs, s.meter, s.bias, s.candidates)) : t.Supervised :=
  (State.Upholds.of_same hsame).supervised h

theorem State.fullReset_supervised (s : State) : s.fullReset.Supervised :=
  State.supervised_of_fresh (fun l => ⟨Leg.reset, by cases l <;> rfl⟩) rfl rfl rfl

theorem State.requestReset_supervised (s : State) : s.requestReset.Supervised :=
  State.supervised_of_fresh (fun l => ⟨s.leg l, Four.get_map _ _ _⟩) rfl rfl rfl

theorem State.holdInReset_supervised (s : State) (cause : ResetCause) (pin rail : Bool) :
    (s.holdInReset cause pin rail).Supervised :=
  s.fullReset_supervised.of_same rfl

theorem State.leaveReset_supervised {blocks : State} (h : blocks.Supervised) (cause : ResetCause) (railMv : Nat) :
    (blocks.leaveReset cause railMv).Supervised :=
  h.of_same rfl

theorem State.sent_supervised {s : State} (h : s.Supervised) (railMv : Nat) : (s.sent railMv).Supervised := by
  unfold State.sent
  split
  · exact h
  · split
    · split
      · exact State.leaveReset_supervised s.requestReset_supervised _ _
      · exact (s.upholds_setIface _).supervised h
    · exact (s.upholds_setIface _).supervised h

theorem execLeaveReset_supervised {s t : State} (h : s.Supervised) {pinReleased : Bool} {railMv : Nat}
    (ht : execLeaveReset pinReleased railMv s = .next t) : t.Supervised := by
  obtain rfl := Host.Outcome.next.inj ht
  split
  · exact h
  · dsimp only
    split
    · exact h.of_same rfl
    · exact State.leaveReset_supervised s.fullReset_supervised _ _

end Sys2Proof.Machine
end

section
/-! SUPPORT. Every command keeps the supervision of the bias, the legs and the converter (R131, R133, R139, R147, R148,
R152, R156, R160, R164). -/

namespace Sys2Proof.Machine

section Command

variable {s t : State}

/-- An event whose effect meets the invariant. -/
theorem event_supervised {act : State → State} (h : s.Supervised) (hact : (act s).Supervised)
    (ht : event act s = .next t) : t.Supervised := by
  obtain rfl := Host.Outcome.next.inj ht
  split
  · exact h
  · exact State.arbitrate_supervised hact

theorem event_upholds {act : State → State} (hact : s.Upholds (act s)) (h : s.Supervised)
    (ht : event act s = .next t) : t.Supervised :=
  event_supervised h (hact.supervised h) ht

/-- A request frame, whatever its code. -/
theorem request_supervised (tag code : Byte) {act : State → Answer} (hact : AnswersSupervised act) (h : s.Supervised)
    (ht : event (frameRequest tag code act) s = .next t) : t.Supervised := by
  have htaken : (frameRequest tag code act s).Supervised :=
    State.takeRequest_supervised (s := s.hunt) hact (State.hunt_supervised h)
  exact event_supervised h htaken ht

theorem execUnknownRequest_supervised (tag code : Byte) (payload : List Byte) (h : s.Supervised)
    (ht : execUnknownRequest tag code payload s = .next t) : t.Supervised := by
  refine event_supervised h ?_ ht
  split
  · exact h
  · exact State.takeRequest_supervised (answersSupervised_refuse _) (State.hunt_supervised h)

theorem execOffsetFieldExpiry_supervised (l : LegId) (d : Nat) (h : s.Supervised)
    (ht : execOffsetFieldExpiry l d s = .next t) : t.Supervised := by
  refine event_upholds ?_ h ht
  split
  · exact .refl s
  · next hr => exact (State.movesRecords_setRecord hr _ _).upholds

theorem execLaunchFieldExpiry_supervised (l : LegId) (d : Nat) (h : s.Supervised)
    (ht : execLaunchFieldExpiry l d s = .next t) : t.Supervised := by
  refine event_upholds ?_ h ht
  split
  · exact .refl s
  · next hr => exact (State.movesRecords_setRecord hr _ _).upholds

theorem execCandidateLapsed_supervised (tag : FactoryTag) (h : s.Supervised)
    (ht : execCandidateLapsed tag s = .next t) : t.Supervised := by
  refine event_upholds ?_ h ht
  split
  · exact .refl s
  · exact .ite ((State.upholds_notify _ _).after (s.upholds_filterCandidates _)) (.refl s)

theorem execHoldExpiry_supervised (l : LegId) (h : s.Supervised) (ht : execHoldExpiry l s = .next t) :
    t.Supervised :=
  event_upholds (.ite (.after (State.upholds_mapLeg (.of_same rfl rfl)) (s.upholds_beginLeg l _)) (.refl s)) h ht

theorem State.upholds_biasAhead (s : State) : s.Upholds s.biasAhead :=
  State.upholds_setBias (fun h => { h with }) Iff.rfl

theorem execSettleComplete_supervised (h : s.Supervised) (ht : execSettleComplete s = .next t) : t.Supervised := by
  refine event_upholds ?_ h ht
  split
  · next hdue =>
    simp only [Bool.and_eq_true, decide_eq_true_eq] at hdue
    obtain ⟨⟨hsettling, -⟩, -⟩ := hdue
    exact (State.upholds_enterReady hsettling _).trans (State.upholds_biasAhead _)
  · exact .refl s

theorem execRecoveryComplete_supervised (h : s.Supervised) (ht : execRecoveryComplete s = .next t) :
    t.Supervised := by
  refine event_upholds ?_ h ht
  split
  · next hdue =>
    simp only [Bool.and_eq_true, decide_eq_true_eq] at hdue
    obtain ⟨⟨⟨htripped, -⟩, -⟩, -⟩ := hdue
    exact (State.upholds_enterSettling htripped).trans (State.upholds_biasAhead _)
  · exact .refl s

/-! ## The converter (R125, R128, R131) -/

/-- A request in a sample queue is a started leg's (R152). -/
theorem execSampleIntegrationStart_supervised (l : LegId) (h : s.Supervised)
    (ht : execSampleIntegrationStart l s = .next t) : t.Supervised := by
  refine event_supervised h ?_ ht
  split
  · exact h
  · next q rest hqueue =>
    have hheld : s.meter.Retains l := .inl (by rw [hqueue]; exact List.cons_ne_nil q rest)
    have hs := h.retains (.inl hheld)
    have hclaim := s.meter.within_claim q.start .queued l []
    dsimp only
    generalize s.meter.claim q.start .queued l [] = claimed at hclaim ⊢
    have htaken : s.meter.Within { claimed.1 with queues := claimed.1.queues.set l rest } := by
      refine ⟨hclaim.converter, fun k hk => ?_⟩
      by_cases hkl : k = l
      · exact hkl ▸ hheld
      · rw [Meter.Retains] at hk
        simp only [Four.get_set_other _ _ hkl] at hk
        exact hclaim.retains k hk
    split
    · next htaking _ =>
      rw [Bool.and_eq_true, decide_eq_true_eq] at htaking
      exact h.operate htaken htaking.2 hs rfl
    · exact ((State.upholds_setMeter htaken).trans (State.movesRecords_deliverOutcome _ _ _ _ _).upholds).supervised h

theorem execSampleResult_supervised (code : BitVec 12) (h : s.Supervised) (ht : execSampleResult code s = .next t) :
    t.Supervised := by
  refine event_upholds ?_ h ht
  split
  · dsimp only
    split
    · exact s.upholds_idle.trans (State.movesRecords_deliverOutcome _ _ _ _ _).upholds
    · exact s.upholds_idle.trans (State.upholds_mapScan _ _ _)
  · exact .refl s

theorem execCalibrationInstant_supervised (h : s.Supervised) (ht : execCalibrationInstant s = .next t) :
    t.Supervised := by
  refine event_supervised h ?_ ht
  split
  · exact h
  · next c rest hscheduled =>
    have hclaim := s.meter.within_claim c.instant .calibration c.leg []
    dsimp only
    generalize s.meter.claim c.instant .calibration c.leg [] = claimed at hclaim ⊢
    have htaken : s.meter.Within { claimed.1 with scheduled := rest } := by
      refine ⟨hclaim.converter, fun k hk => ?_⟩
      rcases hk with hk | hk | ⟨b, hb, hbk⟩
      · exact hclaim.retains k (.inl hk)
      · exact hclaim.retains k (.inr (.inl hk))
      · exact .inr (.inr ⟨b, hscheduled ▸ List.mem_cons_of_mem c hb, hbk⟩)
    split
    · next htaking =>
      simp only [Bool.and_eq_true, decide_eq_true_eq, Leg.started_iff] at htaking
      obtain ⟨⟨-, hready⟩, hs⟩ := htaking
      exact h.operate htaken hready hs rfl
    · exact (State.upholds_setMeter (htaken.trans (Meter.within_markWant _ _ _ _))).supervised h

theorem execCalibrationResult_supervised (code : BitVec 12) (light : BitVec 32) (h : s.Supervised)
    (ht : execCalibrationResult code light s = .next t) : t.Supervised := by
  refine event_upholds ?_ h ht
  split
  · have hserved (u : State) {m : Meter} (hm : u.meter.Within m) : u.Upholds (u.setMeter m) := State.upholds_setMeter hm
    have hidle := s.upholds_idle
    exact .ite (hidle.trans (hserved _ ((Meter.within_setOffset _ _ _ _).trans (Meter.within_dropWant _ _ _))))
      (hidle.trans (hserved _ (Meter.within_markWant _ _ _ _)))
  · exact .refl s

/-! ## The receivers -/

/-- A leg that scans a window is started (R152). -/
theorem State.Supervised.scans (h : s.Supervised) {l : LegId} {w : WindowScan}
    (hscan : (s.leg l).receiver.scan = some w) : (s.leg l).state ≠ .stopped := fun hs =>
  nomatch hscan.symm.trans ((h.legs l).stopped hs).scan

theorem execGrantedBurstVerdict_supervised (l : LegId) (look : BurstLook) (h : s.Supervised)
    (ht : execGrantedBurstVerdict l look s = .next t) : t.Supervised := by
  refine event_upholds ?_ h ht
  split
  · exact .refl s
  · next x rest hexpected =>
    have hsettled := s.upholds_settled l rest (by rw [hexpected]; exact List.cons_ne_nil x rest)
    exact hsettled.trans (State.worksOn_deliverVerdict _ _ _ _ _).upholds

theorem execAnnounceDelimiterFound_supervised (l : LegId) (a : Nat) (p : Fin 20) (light : BitVec 48)
    (rivals : List LegId) (h : s.Supervised) (ht : execAnnounceDelimiterFound l a p light rivals s = .next t) :
    t.Supervised := by
  refine event_supervised h ?_ ht
  replace h := (s.upholds_recordLight l light).supervised h
  generalize s.recordLight l light = u at h ⊢
  dsimp only
  split
  · exact h
  · next w hscan =>
    have hs := h.scans hscan
    split
    · refine (State.upholds_mapScan _ _ _).supervised (h.setMeter (fun k hk => ?_) fun k hk => ?_)
      · rcases State.announceRequest_converter hk with hk | ⟨hready, rfl⟩
        · exact (h.converter k hk).imp_right Leg.started_iff.mp
        · exact ⟨hready, hs⟩
      · refine (State.announceRequest_retains hk).imp_right fun hkl => ?_
        rw [hkl]
        exact hs
    · exact h

theorem execGarbled_supervised (l : LegId) (what : Garble) (h : s.Supervised) (ht : execGarbled l what s = .next t) :
    t.Supervised := by
  refine event_upholds ?_ h ht
  split
  · exact .ite (s.upholds_mapScan l _) (.refl s)
  · exact s.upholds_mapScan l _
  · exact .refl s

theorem execAnnounceJudgementComplete_supervised (l : LegId) (a : Nat) (content : List Byte) (h : s.Supervised)
    (ht : execAnnounceJudgementComplete l a content s = .next t) : t.Supervised := by
  refine event_supervised h ?_ ht
  split
  · exact h
  · next w hscan =>
    split
    · exact h
    · have hgone := s.upholds_mapScan l fun w => { w with found := w.found.filter fun f => decide (f.a ≠ a) }
      dsimp only
      split
      · exact (s.upholds_mapScan l _).supervised h
      · exact hgone.supervised h
      · exact (hgone.trans (State.upholds_screen (hgone.started (h.scans hscan)) _)).supervised h

theorem execWindowScanEnd_supervised (l : LegId) (h : s.Supervised) (ht : execWindowScanEnd l s = .next t) :
    t.Supervised := by
  refine event_supervised h ?_ ht
  split
  · exact h
  · next hscan =>
    have hended := s.upholds_scanEnded l
    have hdecided := State.upholds_admissions (s.leg l).receiver.announces (hended.started (h.scans hscan))
    exact (State.Upholds.ite (hended.trans hdecided) (.refl s)).supervised h

/-- A leg with a calendar in hand is started (R152), and its latch takes the calendar's class (R72). -/
theorem execCalendarClose_supervised (l : LegId) (lit : List (Nat × Nat)) (h : s.Supervised)
    (ht : execCalendarClose l lit s = .next t) : t.Supervised := by
  refine event_supervised h ?_ ht
  replace h := (s.upholds_recordLight l (historyAtClose lit)).supervised h
  generalize s.recordLight l (historyAtClose lit) = u at h ⊢
  dsimp only
  split
  · exact h
  · next c hclosing =>
    have hs : (u.leg l).state ≠ .stopped := fun hs => by
      rw [Receiver.closing, ((h.legs l).stopped hs).inHand] at hclosing
      cases hclosing
    have hclosed := u.upholds_closing l c.cycle
    exact ((hclosed.trans (State.upholds_updateLatch (hclosed.started hs) _ _)).trans
      (State.upholds_updateRun _ _ _ _)).supervised h

/-! ## Every command -/

/-- Every command keeps the bias, the legs and the converter in agreement. -/
theorem exec_supervised (c : Instr) (h : s.Supervised) (ht : exec c s = .next t) : t.Supervised := by
  have answered (tag code : Byte) (payload : List Byte)
      (ht : event (frameRequest tag code (answerFor code payload)) s = .next t) : t.Supervised :=
    request_supervised tag code (answersSupervised_answerFor code payload) h ht
  have hunted : s.Upholds s.hunt := s.upholds_setIface _
  cases c with
  | status tag payload => exact answered tag 0x01#8 payload ht
  | reset tag payload => exact answered tag 0x02#8 payload ht
  | bias tag payload => exact answered tag 0x03#8 payload ht
  | setupLeg tag payload => exact answered tag 0x10#8 payload ht
  | startLeg tag payload => exact answered tag 0x11#8 payload ht
  | stopLeg tag payload => exact answered tag 0x12#8 payload ht
  | legMuster tag payload => exact answered tag 0x13#8 payload ht
  | legRead tag payload => exact answered tag 0x14#8 payload ht
  | holdLeg tag payload => exact answered tag 0x15#8 payload ht
  | unholdLeg tag payload => exact answered tag 0x16#8 payload ht
  | isolateLeg tag payload => exact answered tag 0x17#8 payload ht
  | rosterPut tag payload => exact answered tag 0x20#8 payload ht
  | rosterRemove tag payload => exact answered tag 0x21#8 payload ht
  | rosterRead tag payload => exact answered tag 0x22#8 payload ht
  | verdict tag payload => exact answered tag 0x23#8 payload ht
  | candidateRead tag payload => exact answered tag 0x24#8 payload ht
  | setActivation tag payload => exact answered tag 0x30#8 payload ht
  | activationRead tag payload => exact answered tag 0x31#8 payload ht
  | dropSilence tag payload => exact answered tag 0x32#8 payload ht
  | dropResume tag payload => exact answered tag 0x33#8 payload ht
  | dropRetire tag payload => exact answered tag 0x34#8 payload ht
  | dropRead tag payload => exact answered tag 0x35#8 payload ht
  | calLoad tag payload => exact answered tag 0x38#8 payload ht
  | calRead tag payload => exact answered tag 0x39#8 payload ht
  | unknownRequest tag code payload => exact execUnknownRequest_supervised tag code payload h ht
  | lineBusy tag code payload =>
    refine event_supervised h ?_ ht
    split
    · exact State.takeRequest_supervised (answersSupervised_refuse _) (State.hunt_supervised h)
    · exact h
  | requestDiscardedResetPending tag code payload => exact event_upholds (.ite hunted (.refl s)) h ht
  | frameDiscarded bytes =>
    refine event_supervised h ?_ ht
    split
    · exact State.rescan_supervised _ _ (State.hunt_supervised h)
    · exact h
  | replyOrNoticeFrameDropped control tag code payload => exact event_upholds (.ite hunted (.refl s)) h ht
  | frameTimeout => exact event_upholds hunted h ht
  | frameTransmitted railMv =>
    exact event_supervised (act := fun s => s.sent railMv) h (State.sent_supervised h railMv) ht
  | characterReceived byte =>
    exact event_supervised (act := fun s => s.receive byte) h (State.receive_supervised byte h) ht
  | resetPinAsserted => exact Host.Outcome.next.inj ht ▸ s.holdInReset_supervised _ _ _
  | powerApplied => exact Host.Outcome.next.inj ht ▸ s.holdInReset_supervised _ _ _
  | leaveReset pinReleased railMv => exact execLeaveReset_supervised h ht
  | railSag => exact event_upholds (.ite s.upholds_enterSag (.refl s)) h ht
  | railRecovery => exact event_upholds (.ite (s.upholds_setRail _) (.refl s)) h ht
  | brownout => exact Host.Outcome.next.inj ht ▸ s.holdInReset_supervised _ _ _
  | cycleBoundary => exact event_upholds s.upholds_boundary h ht
  | offsetFieldExpiry leg drop => exact execOffsetFieldExpiry_supervised leg drop h ht
  | launchFieldExpiry leg drop => exact execLaunchFieldExpiry_supervised leg drop h ht
  | darkOffsetExpiry leg range =>
    exact event_upholds (.ite (State.upholds_setMeter (s.meter.within_invalidate leg range)) (.refl s)) h ht
  | candidateLapsed tag => exact execCandidateLapsed_supervised tag h ht
  | holdExpiry leg => exact execHoldExpiry_supervised leg h ht
  | settleComplete => exact execSettleComplete_supervised h ht
  | recoveryComplete => exact execRecoveryComplete_supervised h ht
  | grantedBurstVerdict leg look => exact execGrantedBurstVerdict_supervised leg look h ht
  | announceDelimiterFound leg a p light rivals =>
    exact execAnnounceDelimiterFound_supervised leg a p light rivals h ht
  | garbled leg what => exact execGarbled_supervised leg what h ht
  | announceJudgementComplete leg a content => exact execAnnounceJudgementComplete_supervised leg a content h ht
  | windowScanEnd leg => exact execWindowScanEnd_supervised leg h ht
  | calendarClose leg lit => exact execCalendarClose_supervised leg lit h ht
  | sampleIntegrationStart leg => exact execSampleIntegrationStart_supervised leg h ht
  | sampleResult code => exact execSampleResult_supervised code h ht
  | calibrationInstant => exact execCalibrationInstant_supervised h ht
  | calibrationResult code light => exact execCalibrationResult_supervised code light h ht

end Command

end Sys2Proof.Machine

open Sys2Proof Sys2Proof.Machine

/-- Settles O57: the command at the front of the queue keeps the invariant, which reads nothing of the queue. -/
theorem everyStepKeepsTheSupervision : Obligations.EveryStepKeepsTheSupervision := by
  unfold Obligations.EveryStepKeepsTheSupervision
  intro s t h ht
  unfold step at ht
  split at ht
  · exact Host.Outcome.next.inj ht ▸ h
  · next c rest _ =>
    exact exec_supervised c (s := { s with pending := rest }) (h.of_same rfl) ht
end

section
/-! SUPPORT. The statements about BIAS but for OFF in READY (R139, R140, R168), and about the rail but for a sag in READY
(R142, R144, R146): each case of the two tables, as one update of the bias. -/

namespace Sys2Proof.Machine

variable {s : State}

/-! ## BIAS (R140) -/

theorem State.biasOn_off_normal (h : s.bias.state = .off) (hnormal : s.rail.state = .normal) :
    s.biasOn = s.setBias (s.bias.leaving .settling) := by
  simp only [State.biasOn, h, hnormal, if_true]
  rfl

theorem State.biasOn_off_sag (h : s.bias.state = .off) (hsag : s.rail.state = .sag) :
    s.biasOn = s.setBias (s.bias.leaving .tripped) := by
  simp only [State.biasOn, h, hsag, reduceCtorEq, if_false]
  rfl

theorem State.biasOn_not_off (h : s.bias.state ≠ .off) : s.biasOn = s := by
  unfold State.biasOn
  split
  next hoff => exact absurd hoff h
  next => rfl

theorem State.biasOff_off (h : s.bias.state = .off) : s.biasOff = s := by
  simp only [State.biasOff, h]

theorem State.biasOff_counting (h : s.bias.state = .settling ∨ s.bias.state = .tripped) :
    s.biasOff = s.setBias (s.bias.leaving .off) := by
  obtain h | h := h
  all_goals
    simp only [State.biasOff, h]
    rfl

theorem answerBias_on (s : State) : answerBias [1#8] s = done s.biasOn (u8 (biasNo s.biasOn.bias.state)) := rfl

theorem answerBias_off (s : State) : answerBias [0#8] s = done s.biasOff (u8 (biasNo s.biasOff.bias.state)) := rfl

theorem choiceOf_eq_none {b : Byte} (hoff : b ≠ 0#8) (hon : b ≠ 1#8) : choiceOf b = none := by
  simp only [choiceOf, if_neg hoff, if_neg hon]

theorem answerBias_malformed {b : Byte} (hoff : b ≠ 0#8) (hon : b ≠ 1#8) (s : State) :
    answerBias [b] s = refuse .malformed s :=
  parsed_none _ _ (choiceOf_eq_none hoff hon) s

/-- BIAS that enters a state without a consequence for the legs: the bias and the reply alone. -/
theorem exec_bias_entered {tag : Byte} {payload : List Byte} {state : BiasState} (htakes : s.takes)
    (hact : answerBias payload (s.took tag 0x03#8) =
      done ((s.took tag 0x03#8).setBias (s.bias.leaving state)) (u8 (biasNo state))) :
    exec (.bias tag payload) s = .next
      { s with
        bias := s.bias.leaving state,
        iface := s.iface.answered tag 0x03#8 .done (u8 (biasNo state)) } :=
  event_answered (t := (s.took tag 0x03#8).setBias (s.bias.leaving state)) htakes hact rfl

/-! ## The rail (R142, R144) -/

theorem exec_railSag_normal (hreset : s.inReset = none) (hnormal : s.rail.state = .normal) :
    exec .railSag s = .next s.enterSag.arbitrate := by
  show event _ s = _
  rw [event_alive _ hreset, if_pos hnormal]

theorem exec_railRecovery_sag (hreset : s.inReset = none) (hsag : s.rail.state = .sag) :
    exec .railRecovery s = .next (s.setRail { s.rail with state := .normal }).arbitrate := by
  show event _ s = _
  rw [event_alive _ hreset, if_pos hsag]

/-- A sag in SETTLING trips the bias (R142). -/
theorem State.enterSag_settling (h : s.bias.state = .settling) :
    s.enterSag =
      { s with
        iface := (s.iface.place (.railSag .tripped)).place (.biasState .tripped .settling .sag),
        bias := s.bias.leaving .tripped, rail := { state := .sag, latch := true, sagSeen := true } } := by
  simp only [State.enterSag, h]
  rfl

/-- A sag in OFF or TRIPPED leaves the bias state and restarts its counts (R142, R143). -/
theorem State.enterSag_untripped (h : s.bias.state = .off ∨ s.bias.state = .tripped) :
    s.enterSag =
      { s with
        iface := s.iface.place (.railSag s.bias.state),
        bias := s.bias.leaving s.bias.state, rail := { state := .sag, latch := true, sagSeen := true } } := by
  obtain h | h := h
  all_goals
    simp only [State.enterSag, h]
    rfl

end Sys2Proof.Machine

open Sys2Proof Sys2Proof.Machine

/-- Settles O6: the table's rows by the bias state that the request finds, and the value that is neither ON nor OFF. -/
theorem biasRequestFollowsItsTable : Obligations.BiasRequestFollowsItsTable := by
  unfold Obligations.BiasRequestFollowsItsTable
  intro tag s htakes
  refine ⟨fun hoff hnormal => ?_, fun hoff hsag => ?_, fun hon => ?_, fun hcounting => ?_, fun hoff => ?_,
    fun b hb0 hb1 => event_refused htakes (answerBias_malformed hb0 hb1 _)⟩
  · refine exec_bias_entered (state := .settling) htakes ?_
    rw [answerBias_on, State.biasOn_off_normal (s := s.took tag 0x03#8) hoff hnormal]
    rfl
  · refine exec_bias_entered (state := .tripped) htakes ?_
    rw [answerBias_on, State.biasOn_off_sag (s := s.took tag 0x03#8) hoff hsag]
    rfl
  · refine event_reported htakes ?_
    rw [answerBias_on, State.biasOn_not_off (s := s.took tag 0x03#8) hon]
    rfl
  · refine exec_bias_entered (state := .off) htakes ?_
    rw [answerBias_off, State.biasOff_counting (s := s.took tag 0x03#8) hcounting]
    rfl
  · have hstate : (s.took tag 0x03#8).bias.state = .off := hoff
    refine event_reported htakes ?_
    rw [answerBias_off, State.biasOff_off hstate, hstate]
    rfl

/-- Settles O8: the sag by the bias state that it finds, and the recovery. -/
theorem railEventsFollowTheirTable : Obligations.RailEventsFollowTheirTable := by
  unfold Obligations.RailEventsFollowTheirTable
  intro s hreset
  refine ⟨fun hnormal hsettling => ?_, fun hnormal hstays => ?_, fun hsag => ?_⟩
  · rw [exec_railSag_normal hreset hnormal, State.enterSag_settling hsettling]
    rfl
  · rw [exec_railSag_normal hreset hnormal, State.enterSag_untripped hstays]
    rfl
  · exact exec_railRecovery_sag hreset hsag
end

section
/-! SUPPORT. The causes that hold the part in reset, and LEAVE_RESET (R144, R145, R174, R175). -/

namespace Sys2Proof.Machine

variable {s : State} {h : HeldReset}

/-! ## Entering a reset (R174) -/

/-- A cause that finds the part running holds it by its own conditions alone. -/
theorem State.holdInReset_running (hrunning : s.inReset = none) (cause : ResetCause) (pin rail : Bool) :
    s.holdInReset cause pin rail =
      { State.blocks with
        inReset := some { cause := cause, pinHeld := pin, railWait := rail }, pending := s.pending } := by
  simp [State.holdInReset, State.fullReset, hrunning]

/-- A cause that finds the part in reset joins its conditions to those still in force (log 19). -/
theorem State.holdInReset_held (hheld : s.inReset = some h) (cause : ResetCause) (pin rail : Bool) :
    s.holdInReset cause pin rail =
      { State.blocks with
        inReset := some { cause := cause, pinHeld := pin || h.pinHeld, railWait := rail || h.railWait },
        pending := s.pending } := by
  simp [State.holdInReset, State.fullReset, hheld]

/-! ## Leaving it (R175) -/

theorem HeldReset.seen_eq (h : HeldReset) (pinReleased : Bool) (railMv : Nat) :
    h.seen pinReleased railMv =
      { h with pinHeld := h.pinHeld && !pinReleased, railWait := h.railWait && decide (railMv ≤ 3100) } := by
  have hrail : (!decide (Config.railLeaveMv < railMv)) = decide (railMv ≤ 3100) := by
    rw [← decide_not]
    exact decide_eq_decide.mpr Nat.not_lt
  rw [HeldReset.seen, hrail]

/-- A condition is left in force by a pin still asserted, or by a rail that has not risen above 3.10 V (R174). -/
theorem HeldReset.seen_inForce_iff {pinReleased : Bool} {railMv : Nat} :
    ((h.seen pinReleased railMv).pinHeld || (h.seen pinReleased railMv).railWait) = true ↔
      (h.pinHeld = true ∧ pinReleased = false) ∨ (h.railWait = true ∧ railMv ≤ 3100) := by
  simp [HeldReset.seen_eq]

theorem railAt_eq (cause : ResetCause) (railMv : Nat) :
    railAt cause railMv =
      if cause = .power ∨ cause = .brownout ∨ 3000 ≤ railMv then Rail.reset
      else { state := .sag, latch := false, sagSeen := true } := by
  cases cause with
  | power | brownout => simp [railAt]
  | pin | request => exact if_congr (by simp [Config.railNormalMv]) rfl rfl

theorem exec_leaveReset_stays (hheld : s.inReset = some h) {pinReleased : Bool} {railMv : Nat}
    (hstays : (h.pinHeld = true ∧ pinReleased = false) ∨ (h.railWait = true ∧ railMv ≤ 3100)) :
    exec (.leaveReset pinReleased railMv) s = .next { s with inReset := some (h.seen pinReleased railMv) } := by
  show execLeaveReset pinReleased railMv s = _
  simp only [execLeaveReset, hheld, if_pos (HeldReset.seen_inForce_iff.mpr hstays)]

/-- With no condition left in force the part leaves reset, with READY in transmission. -/
theorem exec_leaveReset_leaves (hheld : s.inReset = some h) {pinReleased : Bool} {railMv : Nat}
    (hpin : h.pinHeld = true → pinReleased = true) (hrail : h.railWait = true → 3100 < railMv) :
    exec (.leaveReset pinReleased railMv) s = .next
      { State.blocks with
        rail := railAt h.cause railMv,
        iface := { Interface.reset with cause := h.cause, lineOut := some ⟨.notice (.ready h.cause), false⟩ },
        pending := s.pending } := by
  have hleaves : ¬ ((h.pinHeld = true ∧ pinReleased = false) ∨ (h.railWait = true ∧ railMv ≤ 3100)) := by
    rintro (⟨hheldPin, hreleased⟩ | ⟨hwait, hlow⟩)
    · exact absurd (hpin hheldPin) (hreleased ▸ nofun)
    · exact absurd (hrail hwait) (Nat.not_lt.mpr hlow)
  show execLeaveReset pinReleased railMv s = _
  simp only [execLeaveReset, hheld, if_neg (mt HeldReset.seen_inForce_iff.mp hleaves)]
  rfl

end Sys2Proof.Machine

open Sys2Proof Sys2Proof.Machine

/-- Settles O35: each cause finds the part running, or in reset already. -/
theorem pinAndSupplyHoldThePartInReset : Obligations.PinAndSupplyHoldThePartInReset := by
  unfold Obligations.PinAndSupplyHoldThePartInReset
  intro s
  refine ⟨fun hrunning => ?_, fun h hheld => ?_⟩
  · have hold := State.holdInReset_running hrunning
    exact ⟨congrArg _ (hold .pin true false), congrArg _ (hold .power false true),
      congrArg _ (hold .brownout false true)⟩
  · have hold := State.holdInReset_held hheld
    exact ⟨congrArg _ (hold .pin true false), congrArg _ (hold .power false true),
      congrArg _ (hold .brownout false true)⟩

/-- Settles O36: the conditions left in force as the pin and the rail are seen decide whether the part stays. -/
theorem thePartLeavesReset : Obligations.ThePartLeavesReset := by
  unfold Obligations.ThePartLeavesReset
  intro pinReleased railMv s h hheld
  refine ⟨fun hpin hrail => ?_, fun hpin hreleased => ?_, fun hwait hlow => ?_⟩
  · rw [exec_leaveReset_leaves hheld hpin hrail, railAt_eq]
  · rw [exec_leaveReset_stays hheld (.inl ⟨hpin, hreleased⟩), HeldReset.seen_eq, hreleased, Bool.not_false,
      Bool.and_true]
  · rw [exec_leaveReset_stays hheld (.inr ⟨hwait, hlow⟩), HeldReset.seen_eq, decide_eq_true hlow, Bool.and_true]
end

section
/-! SUPPORT. The requests that set a leg's values and marks, and those that begin and end its quiet hold (R150, R151, R154,
R156, R159): each answer by the case of its rule. -/

namespace Sys2Proof.Machine

/-! ## The leg that a request names -/

section Named

variable {α : Type} {parse : List Byte → Option α} {leg : α → Nat} {act : α → LegId → State → Answer}
  {payload : List Byte} {f : α} {s : State}

/-- A request that can be read and names no leg. -/
theorem parsed_withLeg_none (hparse : parse payload = some f) (hnone : Quad.ofNat? (leg f) = none) :
    parsed parse (fun f => withLeg (leg f) (act f)) payload s = refuse .outOfRange s := by
  rw [parsed_some _ _ hparse, withLeg_none hnone]

/-- A request that can be read acts on the leg that it names. -/
theorem parsed_withLeg_some {l : LegId} (hparse : parse payload = some f) (hleg : Quad.ofNat? (leg f) = some l) :
    parsed parse (fun f => withLeg (leg f) (act f)) payload s = act f l s := by
  rw [parsed_some _ _ hparse, withLeg_some hleg]

end Named

section Byte

variable {act : LegId → State → Answer} {b : Byte} {s : State}

/-- A request whose one byte names no leg. -/
theorem parsedByte_none (hnone : Quad.ofNat? b.toNat = none) :
    parsed parseByte (fun n => withLeg n act) [b] s = refuse .outOfRange s :=
  parsed_withLeg_none (leg := id) (f := b.toNat) rfl hnone

/-- A request whose one byte names a leg acts on it. -/
theorem parsedByte_some {l : LegId} (hleg : Quad.ofNat? b.toNat = some l) :
    parsed parseByte (fun n => withLeg n act) [b] s = act l s :=
  parsed_withLeg_some (leg := id) (f := b.toNat) rfl hleg

end Byte

/-- A leg is quiet when it is STOPPED with neither mark set (R148). -/
theorem Leg.quiet_iff {x : Leg} :
    x.quiet = true ↔ x.state = .stopped ∧ x.startPending = false ∧ x.finalPending = false := by
  simp [Leg.quiet, and_assoc]

theorem Leg.quiet_eq_false_iff {x : Leg} :
    x.quiet = false ↔ x.started = true ∨ x.startPending = true ∨ x.finalPending = true := by
  rw [← Bool.not_eq_true, Leg.quiet_iff, Leg.started_iff]
  simp only [not_and_or, Bool.not_eq_false]

/-! ## SETUP-LEG (R18 to R20, R150) -/

section Setup

variable {payload : List Byte} {f : SetupFields} {s : State} {l : LegId} {k : RangeId}

theorem SetupFields.reachOk_iff : f.reachOk = true ↔ f.near < f.far ∧ f.far ≤ 240 ∧ f.trim ≤ 255 := by
  simp only [SetupFields.reachOk, Bool.and_eq_true, decide_eq_true_eq]
  omega

theorem SetupFields.zOk_iff :
    f.zOk = true ↔
      f.zEntered = 0 ∨ (f.zEntered % 20 = 0 ∧ 25 * (100 * f.far) ≤ f.zEntered ∧ f.zEntered ≤ 600000) := by
  simp only [SetupFields.zOk, Bool.or_eq_true, Bool.and_eq_true, decide_eq_true_eq]
  omega

theorem SetupFields.musterOk_iff :
    f.musterOk = true ↔ 8 ≤ f.interval ∧ f.interval ≤ 4000 ∧ 1 ≤ f.maxEchoes ∧ f.maxEchoes ≤ 16 := by
  simp [SetupFields.musterOk, and_assoc]

/-- The derived values of a request, from its effective Z (R18 to R20). -/
theorem SetupFields.derived_setup {z : Nat}
    (hz : f.zEntered = 0 ∧ z = 25 * (100 * f.far) ∨ f.zEntered ≠ 0 ∧ z = f.zEntered) :
    (f.setup k).derived =
      { z := z, omega := 4000 + f.trim + z / 20, span := 125 * (f.far - f.near),
        w := 125 * (f.far - f.near) + 2176, am := (z - 25 * (100 * f.near)) / 20 } := by
  obtain rfl : z = if f.zEntered = 0 then 2500 * f.far else f.zEntered := by
    split <;> omega
  rw [show 25 * (100 * f.near) = 2500 * f.near by omega]
  rfl

section Read

variable (hparse : parseSetup payload = some f) (hleg : Quad.ofNat? f.leg = some l)
include hparse hleg

theorem answerSetupLeg_wrongState (hbusy : (s.leg l).quiet = false) :
    answerSetupLeg payload s = refuse .wrongState s :=
  (parsed_withLeg_some hparse hleg).trans (if_pos (by rw [hbusy]; rfl))

variable (hquiet : (s.leg l).quiet = true)
include hquiet

/-- Any value out of its range has one answer, whichever check finds it. -/
theorem answerSetupLeg_outOfRange
    (hbad : f.reachOk = true → f.zOk = true → f.musterOk = true → Quad.ofNat? f.announceRange = none) :
    answerSetupLeg payload s = refuse .outOfRange s := by
  refine (parsed_withLeg_some hparse hleg).trans ((if_neg (by simp [hquiet])).trans ?_)
  cases hreach : f.reachOk with
  | false => rfl
  | true =>
    cases hz : f.zOk with
    | false => rfl
    | true =>
      cases hmuster : f.musterOk with
      | false => rfl
      | true =>
        rw [hbad hreach hz hmuster]
        rfl

theorem answerSetupLeg_done (hreach : f.reachOk = true) (hz : f.zOk = true) (hmuster : f.musterOk = true)
    (hrange : Quad.ofNat? f.announceRange = some k) :
    answerSetupLeg payload s =
      done (s.mapLeg l fun x => { x with setup := f.setup k, derived := (f.setup k).derived })
        (f.setup k).derived.values := by
  refine (parsed_withLeg_some hparse hleg).trans ((if_neg (by simp [hquiet])).trans ?_)
  rw [hreach, hz, hmuster, hrange]
  rfl

end Read

end Setup

/-! ## START-LEG and LEG-MUSTER (R151, R154) -/

section Marks

variable {s : State} {b : Byte} {l : LegId} (hleg : Quad.ofNat? b.toNat = some l)
include hleg

theorem answerStartLeg_wrongState (hbusy : (s.leg l).quiet = false) :
    answerStartLeg [b] s = refuse .wrongState s :=
  (parsedByte_some hleg).trans (if_pos (by rw [hbusy]; rfl))

theorem answerStartLeg_done (hquiet : (s.leg l).quiet = true) :
    answerStartLeg [b] s = done (s.mapLeg l fun x => { x with startPending := true }) [] :=
  (parsedByte_some hleg).trans (if_neg (by simp [hquiet]))

end Marks

/-- The muster flag is set in any leg state. -/
theorem answerLegMuster_done {s : State} {payload : List Byte} {f : LegMusterFields} {l : LegId}
    (hparse : parseLegMuster payload = some f) (hleg : Quad.ofNat? f.leg = some l) :
    answerLegMuster payload s = done (s.mapLeg l fun x => { x with setup := { x.setup with musterOn := f.on } }) [] :=
  parsed_withLeg_some hparse hleg

theorem parseLegMuster_none {leg flag : Byte} (hoff : flag ≠ 0#8) (hon : flag ≠ 1#8) :
    parseLegMuster [leg, flag] = none := by
  rw [parseLegMuster, choiceOf_eq_none hoff hon]
  rfl

/-! ## HOLD-LEG and UNHOLD-LEG (R156, R159) -/

section Hold

/-- A hold can begin on a started leg with neither a hold nor an isolation run. -/
theorem Leg.holdable_iff {x : Leg} :
    (x.started && x.hold.isNone && x.run.isNone) = true ↔ x.state ≠ .stopped ∧ x.hold = none ∧ x.run = none := by
  simp [Leg.started_iff, and_assoc]

variable {payload : List Byte} {f : HoldFields} {s : State} {l : LegId}

section Begin

variable (hparse : parseHold payload = some f) (hleg : Quad.ofNat? f.leg = some l)
include hparse hleg

theorem answerHoldLeg_wrongState
    (hbusy : (s.leg l).state = .stopped ∨ (s.leg l).hold ≠ none ∨ (s.leg l).run ≠ none) :
    answerHoldLeg payload s = refuse .wrongState s := by
  refine (parsed_withLeg_some hparse hleg).trans (if_pos ?_)
  rw [Bool.not_eq_true', ← Bool.not_eq_true, Leg.holdable_iff]
  tauto

variable (hstarted : (s.leg l).state ≠ .stopped) (hhold : (s.leg l).hold = none) (hrun : (s.leg l).run = none)
include hstarted hhold hrun

theorem answerHoldLeg_outOfRange (hlength : f.length = 0 ∨ 1600 < f.length) :
    answerHoldLeg payload s = refuse .outOfRange s :=
  (parsed_withLeg_some hparse hleg).trans
    ((if_neg (by simp [Leg.holdable_iff.mpr ⟨hstarted, hhold, hrun⟩])).trans
      (if_pos (hlength.imp_left fun h => h ▸ Nat.zero_lt_one)))

theorem answerHoldLeg_done (hlow : 1 ≤ f.length) (hhigh : f.length ≤ 1600) :
    answerHoldLeg payload s =
      done (s.mapLeg l fun x => { x with hold := some { length := f.length, first := none, built := 0 } }) [] :=
  (parsed_withLeg_some hparse hleg).trans
    ((if_neg (by simp [Leg.holdable_iff.mpr ⟨hstarted, hhold, hrun⟩])).trans
      (if_neg (not_or.mpr ⟨Nat.not_lt.mpr hlow, Nat.not_lt.mpr hhigh⟩)))

end Begin

/-- A hold in effect ends with its notice (R158). -/
theorem State.endHold_held {h : Hold} (hheld : (s.leg l).hold = some h) (cause : HoldCause) :
    s.endHold l cause =
      (s.mapLeg l fun x => { x with hold := none }).notify (.holdEnded l cause h.built (s.leg l).count) := by
  simp only [State.endHold, hheld]

section End

variable {b : Byte} (hleg : Quad.ofNat? b.toNat = some l)
include hleg

theorem answerUnholdLeg_wrongState (hhold : (s.leg l).hold = none) :
    answerUnholdLeg [b] s = refuse .wrongState s :=
  (parsedByte_some hleg).trans (if_neg (by simp [hhold]))

theorem answerUnholdLeg_done {h : Hold} (hheld : (s.leg l).hold = some h) :
    answerUnholdLeg [b] s =
      done
        ((s.mapLeg l fun x => { x with hold := none }).notify (.holdEnded l .released h.built (s.leg l).count)) [] :=
  (parsedByte_some hleg).trans
    ((if_pos (by rw [hheld]; rfl)).trans (by rw [State.endHold_held hheld]))

end End

end Hold

end Sys2Proof.Machine

open Sys2Proof Sys2Proof.Machine

/-- Settles O9: the checks in their order, and then the setup with the derived values of its effective Z. -/
theorem setupLegReplacesTheSetup : Obligations.SetupLegReplacesTheSetup := by
  unfold Obligations.SetupLegReplacesTheSetup
  refine ⟨fun tag payload s htakes hnone => event_refused htakes (parsed_none _ _ hnone _),
    fun tag payload f s htakes hparse => ⟨fun hnone => ?noLeg, fun l hleg hbusy => ?busy,
      fun l hleg hquiet hbad => ?outOfRange,
      fun l k z hleg hquiet hnear hfar htrim hz hlow hhigh hmin hmax hrange => ?done⟩⟩
  case noLeg => exact event_refused htakes (parsed_withLeg_none hparse hnone)
  case busy => exact event_refused htakes (answerSetupLeg_wrongState hparse hleg hbusy)
  case outOfRange =>
    refine event_refused htakes (answerSetupLeg_outOfRange hparse hleg hquiet fun hreach hz hmuster => ?_)
    obtain ⟨hnear, hfar, htrim⟩ := SetupFields.reachOk_iff.mp hreach
    obtain ⟨hlow, hhigh, hmin, hmax⟩ := SetupFields.musterOk_iff.mp hmuster
    exact Quad.ofNat?_eq_none_iff.mpr (Nat.lt_of_not_le fun hrange =>
      hbad ⟨hnear, hfar, htrim, SetupFields.zOk_iff.mp hz, hlow, hhigh, hmin, hmax, hrange⟩)
  case done =>
    have heffective : f.zEntered = 0 ∧ z = 25 * (100 * f.far) ∨ f.zEntered ≠ 0 ∧ z = f.zEntered :=
      hz.imp_right fun ⟨hentered, hsame, _⟩ => ⟨hentered, hsame⟩
    have hzOk : f.zOk = true :=
      SetupFields.zOk_iff.mpr (hz.imp And.left fun ⟨_, hsame, hrest⟩ => hsame ▸ hrest)
    have hact := answerSetupLeg_done (s := s.took tag 0x10#8) hparse hleg hquiet
      (SetupFields.reachOk_iff.mpr ⟨hnear, hfar, htrim⟩) hzOk
      (SetupFields.musterOk_iff.mpr ⟨hlow, hhigh, hmin, hmax⟩) hrange
    rw [SetupFields.derived_setup heffective] at hact
    exact event_answered htakes hact rfl

/-- Settles O10: a start on a quiet leg, and the muster flag on any. -/
theorem startAndMusterSetTheirMarks : Obligations.StartAndMusterSetTheirMarks := by
  unfold Obligations.StartAndMusterSetTheirMarks
  refine ⟨fun tag b s htakes => ⟨fun hnone => ?_, fun l hleg => ⟨fun hbusy => ?_, fun hstopped hstart hfinal => ?_⟩⟩,
    fun tag payload f s htakes hparse => ⟨fun hnone => ?_, fun l hleg => ?_⟩,
    fun tag leg flag s htakes hoff hon => event_refused htakes (parsed_none _ _ (parseLegMuster_none hoff hon) _)⟩
  · exact event_refused htakes (parsedByte_none hnone)
  · exact event_refused htakes (answerStartLeg_wrongState hleg (Leg.quiet_eq_false_iff.mpr hbusy))
  · exact event_answered htakes (answerStartLeg_done hleg (Leg.quiet_iff.mpr ⟨hstopped, hstart, hfinal⟩)) rfl
  · exact event_refused htakes (parsed_withLeg_none hparse hnone)
  · exact event_answered htakes (answerLegMuster_done hparse hleg) rfl

/-- Settles O13: the leg's state before the length, and a hold that ends with its notice. -/
theorem holdAndUnholdBeginAndEndAHold : Obligations.HoldAndUnholdBeginAndEndAHold := by
  unfold Obligations.HoldAndUnholdBeginAndEndAHold
  refine ⟨fun tag payload f s htakes hparse => ⟨fun hnone => ?_, fun l hleg => ⟨fun hbusy => ?_,
      fun hstarted hhold hrun => ⟨fun hlength => ?_, fun hlow hhigh => ?_⟩⟩⟩,
    fun tag b s htakes => ⟨fun hnone => ?_, fun l hleg => ⟨fun hhold => ?_, fun h hheld => ?_⟩⟩⟩
  · exact event_refused htakes (parsed_withLeg_none hparse hnone)
  · exact event_refused htakes (answerHoldLeg_wrongState hparse hleg hbusy)
  · exact event_refused htakes (answerHoldLeg_outOfRange hparse hleg hstarted hhold hrun hlength)
  · exact event_answered htakes (answerHoldLeg_done hparse hleg hstarted hhold hrun hlow hhigh) rfl
  · exact event_refused htakes (parsedByte_none hnone)
  · exact event_refused htakes (answerUnholdLeg_wrongState hleg hhold)
  · exact event_answered htakes (answerUnholdLeg_done hleg hheld) (Interface.taken_place _ _ _ _)
end

section
/-! SUPPORT. ISOLATE-LEG (R160, R161): an isolation run begins with the turn of its first candidate, or ends at once. -/

namespace Sys2Proof.Machine

section Isolate

variable {s : State} {l : LegId} {b : Byte}

/-- A run can begin on a RUNNING leg with its latch set and neither a hold nor a run. -/
theorem Leg.isolable_iff {x : Leg} :
    (decide (x.state = .running) && x.receiver.latch && x.hold.isNone && x.run.isNone) = true ↔
      x.state = .running ∧ x.receiver.latch = true ∧ x.hold = none ∧ x.run = none := by
  simp [and_assoc]

/-- The run of ISOLATE-LEG before its first turn begins (R160). -/
def IsolationRun.fresh (list : List Identity) : IsolationRun :=
  { list := list, pos := 0, begun := 0, phase := .silenceQueued, silence := none, clean := 0 }

theorem State.mapLeg_run_turned (s : State) (l : LegId) (run : Option IsolationRun) :
    (s.mapLeg l fun x => { x with run := run }) = s.turned l (s.leg l).drops (s.leg l).queue run s.iface := by
  conv_lhs => rw [← s.turned_self l]
  exact s.turned_setRun l _ _ _ _ run

theorem answerIsolateLeg_wrongState (hleg : Quad.ofNat? b.toNat = some l)
    (hbusy : (s.leg l).state ≠ .running ∨ (s.leg l).receiver.latch = false ∨ (s.leg l).hold ≠ none ∨
      (s.leg l).run ≠ none) :
    answerIsolateLeg [b] s = refuse .wrongState s := by
  refine (parsedByte_some hleg).trans (if_neg ?_)
  rw [Leg.isolable_iff, ← Bool.not_eq_false]
  tauto

section Begins

variable (hleg : Quad.ofNat? b.toNat = some l) (hrunning : (s.leg l).state = .running)
  (hlatch : (s.leg l).receiver.latch = true) (hhold : (s.leg l).hold = none) (hrun : (s.leg l).run = none)
include hleg hrunning hlatch hhold hrun

/-- On a leg that allows it, the turns of the fresh run begin. -/
theorem answerIsolateLeg_begins :
    answerIsolateLeg [b] s =
      done
        (beginTurn l (.fresh (s.leg l).turnList) (s.leg l).turnList 0
          (s.turned l (s.leg l).drops (s.leg l).queue (some (.fresh (s.leg l).turnList)) s.iface))
        (u8 (s.leg l).turnList.length) := by
  rw [← State.mapLeg_run_turned]
  exact (parsedByte_some hleg).trans
    (if_pos (Leg.isolable_iff.mpr ⟨hrunning, hlatch, hhold, hrun⟩))

/-- With no candidate the run ends NONE at once, and leaves its leg as it was. -/
theorem answerIsolateLeg_none (hturns : (s.leg l).turnList = []) :
    answerIsolateLeg [b] s =
      done (s.notify (.isolationDone l .none none none 0 (s.leg l).count)) [0#8] := by
  have hself : s.turned l (s.leg l).drops (s.leg l).queue none s.iface = s := by
    rw [← hrun, State.turned_self]
  rw [answerIsolateLeg_begins hleg hrunning hlatch hhold hrun, hturns, beginTurn, turned_endRun, ← State.turned_notify,
    hself]
  rfl

/-- The first candidate's turn begins: its flag is set and a Silence for it is queued. -/
theorem answerIsolateLeg_first {r : DropRecord} {rest : List Identity}
    (hturns : (s.leg l).turnList = r.ident :: rest) (hr : s.record l r.ident.drop = some r)
    (hstate : r.state ≠ .silenced) :
    answerIsolateLeg [b] s =
      done
        (s.turned l ((s.leg l).drops.set r.ident.drop (some { r with isolated := true }))
          (enqueue r.ident.drop (.silence r.ident.drop) (some r.ident) (s.leg l).queue)
          (some { IsolationRun.fresh (s.leg l).turnList with begun := 1 }) s.iface)
        (u8 (s.leg l).turnList.length) := by
  have hrecord : (s.leg l).drops[r.ident.drop]?.join = some r := hr
  rw [answerIsolateLeg_begins hleg hrunning hlatch hhold hrun]
  congr 1
  conv_lhs => enter [3]; rw [hturns]
  rw [beginTurn, State.turned_record, hrecord]
  dsimp only
  rw [if_pos ⟨rfl, hstate⟩, State.turned_setRecord, State.turned_setRun, State.turned_direct]
  rfl

end Begins

end Isolate

end Sys2Proof.Machine

open Sys2Proof Sys2Proof.Machine

/-- Settles O14: the leg's state, and then the turn list, whose first candidate is one that is not SILENCED. -/
theorem isolateLegBeginsTheFirstTurn : Obligations.IsolateLegBeginsTheFirstTurn := by
  unfold Obligations.IsolateLegBeginsTheFirstTurn
  refine ⟨fun tag b s htakes hnone => event_refused htakes (parsedByte_none hnone),
    fun tag b l s htakes hleg => ⟨fun hbusy => event_refused htakes (answerIsolateLeg_wrongState hleg hbusy),
      fun hrunning hlatch hhold hrun turns hturns => ?_⟩⟩
  have hlist : (s.leg l).turnList = turns.map fun p => p.2.ident := by rw [hturns]; rfl
  refine ⟨fun hempty => ?_, fun d r rest hfirst hr hdrop => ?_⟩
  · have hnone : (s.leg l).turnList = [] := by rw [hlist, hempty]; rfl
    have hact := answerIsolateLeg_none (s := s.took tag 0x17#8) hleg hrunning hlatch hhold hrun hnone
    have hanswered := event_answered htakes hact (Interface.taken_place _ _ _ _)
    exact hanswered
  · subst hdrop
    have hmem : (r.ident.drop, r) ∈ (s.leg l).live.filter fun p => decide (p.2.state ≠ .silenced) := by
      rw [← hturns, hfirst]
      exact List.mem_cons_self
    have hstate : r.state ≠ .silenced := of_decide_eq_true (List.mem_filter.mp hmem).2
    have hcons : (s.leg l).turnList = r.ident :: rest.map fun p => p.2.ident := by rw [hlist, hfirst]; rfl
    have hact := answerIsolateLeg_first (s := s.took tag 0x17#8) hleg hrunning hlatch hhold hrun hcons hr hstate
    rw [State.took_leg, hlist, List.length_map] at hact
    exact event_answered htakes hact rfl
end

section
/-! SUPPORT. STOP-LEG (R152): what the ten steps of a teardown leave of the leg, the roster and the interface, and the
statement about it. -/

namespace Sys2Proof.Machine

/-! ## The records of a leg without an isolation run, ended one after another (R98, R152) -/

/-- The notice of a record that ends STOPPED on a leg at a cycle. -/
def stoppedNotice (l : LegId) (count : Cycle) (p : Nat × DropRecord) : Notice :=
  .dropEnded l p.1 p.2.tag p.2.plot p.2.rosterIndex .stopped p.2.state p.2.attempts p.2.misses count

/-- A roster entry as it is left when its record ends (R75). -/
def RosterEntry.freed (e : RosterEntry) : RosterEntry := { e with state := .expected, link := none }

/-- What the end of the records `ps` of leg `l` leaves, from `s` to `t`: a notice for each, and their roster entries
freed. -/
structure RecordsEnded (l : LegId) (ps : List (Nat × DropRecord)) (s t : State) : Prop where
  length : (t.leg l).drops.length = (s.leg l).drops.length
  iface : t.iface = (ps.map (stoppedNotice l (s.leg l).count)).foldl Interface.place s.iface
  rosterAt : ∀ i, t.rosterAt i =
    if ∃ p ∈ ps, p.2.rosterIndex = i then (s.rosterAt i).map RosterEntry.freed else s.rosterAt i

section Ended

variable {s : State} {l : LegId}

/-- The state in which a record has ended STOPPED on a leg without a run. -/
def State.afterStop (s : State) (l : LegId) (d : Nat) (r : DropRecord) : State :=
  (s.unlink r.rosterIndex).turned l ((s.leg l).drops.set d none)
    ((s.leg l).queue.map fun q => if q.dir.drop? = some d then { q with follow := FollowOn.empty } else q) none
    (s.iface.place (stoppedNotice l (s.leg l).count (d, r)))

/-- Without a run, a record that ends STOPPED takes no turn with it. -/
theorem endRecord_stopped {d : Nat} {r : DropRecord} (hr : s.record l d = some r) (hrun : (s.leg l).run = none) :
    s.endRecord l d .stopped false = s.afterStop l d r := by
  have hself := (s.unlink r.rosterIndex).turned_self l
  rw [State.endRecord, hr]
  dsimp only
  rw [if_neg Bool.false_ne_true, ← hself, State.turned_clearFollow, State.turned_setRecord, State.turned_notify,
    State.turned_leg, State.unlink_leg, hrun, (s.unlink_frame _).1]
  split
  · rw [State.nextTurn, State.turned_leg]
    rfl
  · rfl

theorem foldl_endRecord_stopped {ps : List (Nat × DropRecord)} (hrun : (s.leg l).run = none)
    (hps : ∀ p ∈ ps, s.record l p.1 = some p.2) (hascending : ps.Pairwise fun a b => a.1 < b.1) :
    RecordsEnded l ps s (ps.foldl (fun s p => s.endRecord l p.1 .stopped false) s) := by
  induction ps generalizing s with
  | nil => exact ⟨rfl, rfl, fun i => (if_neg (by simp)).symm⟩
  | cons p ps ih =>
    obtain ⟨hp, hps⟩ := List.forall_mem_cons.mp hps
    obtain ⟨hfirst, hascending⟩ := List.pairwise_cons.mp hascending
    rw [List.foldl_cons, endRecord_stopped hp hrun]
    generalize hu : s.afterStop l p.1 p.2 = u
    have huleg : u.leg l = { s.leg l with
        drops := (s.leg l).drops.set p.1 none, queue := (u.leg l).queue, run := none } := by
      rw [← hu, State.afterStop, State.turned_leg, State.unlink_leg]
    have hurecord (q : Nat × DropRecord) (hq : q ∈ ps) : u.record l q.1 = some q.2 := by
      rw [State.record, huleg, ← hps q hq]
      exact Leg.setRecord_record_other _ none (Nat.ne_of_gt (hfirst q hq))
    have hurosterAt (i : Nat) : u.rosterAt i =
        if i = p.2.rosterIndex then (s.rosterAt p.2.rosterIndex).map RosterEntry.freed else s.rosterAt i := by
      rw [← hu]
      exact s.unlink_rosterAt p.2.rosterIndex i
    have huiface : u.iface = s.iface.place (stoppedNotice l (s.leg l).count p) := by rw [← hu]; rfl
    obtain ⟨hlength, hiface, hrosterAt⟩ := ih (by rw [huleg]) hurecord hascending
    refine ⟨?_, ?_, fun i => ?_⟩
    · rw [hlength, huleg]
      exact List.length_set ..
    · rw [hiface, huiface, huleg]
      rfl
    · rw [hrosterAt, hurosterAt]
      by_cases hi : i = p.2.rosterIndex
      · have hfreed (o : Option RosterEntry) :
            (o.map RosterEntry.freed).map RosterEntry.freed = o.map RosterEntry.freed := Option.map_map ..
        rw [if_pos hi, hi, hfreed, ite_self, if_pos ⟨p, List.mem_cons_self, rfl⟩]
      · rw [if_neg hi]
        exact if_congr (by simp [Ne.symm hi]) rfl rfl

/-- Every record of a leg without a run ends at `endAll`. -/
theorem State.endAll_recordsEnded (hrun : (s.leg l).run = none) : RecordsEnded l (s.leg l).live s (s.endAll l) :=
  foldl_endRecord_stopped hrun (fun _ hp => Leg.record_of_mem_live hp) (s.leg l).live_ascending

/-- A drop table without a record is FREE at each of its places. -/
theorem eq_map_none {ds es : List (Option DropRecord)} (hlength : ds.length = es.length)
    (hfree : ∀ d : Nat, ds[d]?.join = none) : ds = es.map fun _ => none := by
  rw [List.map_const', List.eq_replicate_iff]
  refine ⟨hlength, fun o ho => ?_⟩
  obtain ⟨d, hd⟩ := List.mem_iff_getElem?.mp ho
  have hjoin := hfree d
  rw [hd] at hjoin
  exact hjoin

end Ended

/-! ## The run and the hold (R152, R158, R164) -/

/-- The notice of a leg's hold that ends as the leg stops. -/
def stoppedHoldNotices (l : LegId) (x : Leg) : List Notice :=
  x.hold.toList.map fun h => .holdEnded l .stopped h.built x.count

theorem State.endRun_leg (s : State) (l : LegId) (outcome : RunOutcome) (culprit : Option (Nat × FactoryTag)) :
    (s.endRun l outcome culprit).leg l = { s.leg l with run := none } := by
  unfold State.endRun
  split
  · next hrun => rw [← hrun]
  · rw [State.notify_leg, State.mapLeg_leg_same]

theorem endHold_onLegs (s : State) (l : LegId) :
    OnLegs [l] (stoppedHoldNotices l (s.leg l)) s (s.endHold l .stopped) := by
  unfold State.endHold stoppedHoldNotices
  split
  · next hnone => rw [hnone]; exact .refl [l] s
  · next hheld => rw [hheld]; exact (onLegs_mapLeg s l _).trans (onLegs_notify [l] _ _)

/-- A leg whose run and hold have ended as it stops (R152, steps 1 to 3). -/
def State.stoppedOn (s : State) (l : LegId) : State :=
  ((s.mapLeg l fun x => { x with state := .stopped, finalPending := true }).endRun l .aborted none).endHold l .stopped

theorem State.stoppedOn_leg (s : State) (l : LegId) :
    (s.stoppedOn l).leg l =
      { s.leg l with state := .stopped, finalPending := true, run := none, hold := none } := by
  rw [State.stoppedOn, State.endHold_frame]
  refine (State.setLeg_leg_same _ l _).trans ?_
  rw [State.endRun_leg, State.mapLeg_leg_same]

theorem State.stoppedOn_onLegs (s : State) (l : LegId) :
    OnLegs [l] (abortNotices s l ++ stoppedHoldNotices l (s.leg l)) s (s.stoppedOn l) := by
  generalize hv : (s.mapLeg l fun x => { x with state := .stopped, finalPending := true }) = v
  have hmarked : OnLegs [l] [] s v := hv ▸ onLegs_mapLeg s l _
  have hvleg : v.leg l = { s.leg l with state := .stopped, finalPending := true } := by
    rw [← hv, State.mapLeg_leg_same]
  have habort := endRun_onLegs v l
  have hhold := endHold_onLegs (v.endRun l .aborted none) l
  rw [abortNotices, hvleg] at habort
  rw [State.endRun_leg, hvleg] at hhold
  rw [State.stoppedOn, hv]
  exact hmarked.trans (habort.trans hhold)

/-! ## The teardown as a whole (R152) -/

section Teardown

variable (s : State) (l : LegId)

theorem State.endedOn_eq : s.endedOn l = (s.stoppedOn l).endAll l := rfl

theorem State.endedOn_recordsEnded : RecordsEnded l (s.leg l).live (s.stoppedOn l) (s.endedOn l) := by
  have hended := State.endAll_recordsEnded (s := s.stoppedOn l) (l := l) (by rw [State.stoppedOn_leg])
  have hlive : ((s.stoppedOn l).leg l).live = (s.leg l).live := by rw [State.stoppedOn_leg]; rfl
  rwa [hlive, ← State.endedOn_eq] at hended

theorem State.teardown_leg_same :
    (s.teardown l).leg l =
      { s.leg l with
        state := .stopped, finalPending := true, run := none, hold := none, calendar := none,
        drops := (s.leg l).drops.map fun _ => none,
        queue := [{ dir := .releaseAll, ident := none, follow := FollowOn.empty }],
        receiver := { Receiver.reset with lightHistory := (s.leg l).receiver.lightHistory } } := by
  obtain ⟨hleg, hfree, -, -⟩ := s.endedOn_endedOn l
  have hlength := (s.endedOn_recordsEnded l).length
  rw [State.stoppedOn_leg] at hlength
  rw [State.teardown_leg, if_pos rfl, hleg, eq_map_none hlength hfree]
  rfl

theorem State.teardown_leg_other {k : LegId} (hk : k ≠ l) : (s.teardown l).leg k = s.leg k := by
  rw [State.teardown_leg, if_neg hk, (s.endedOn_endedOn l).others k hk]

/-- Entries of the roster that the leg's records had are freed, and the others stand. -/
theorem State.teardown_rosterAt (i : Nat) :
    (s.teardown l).rosterAt i =
      if ∃ p ∈ (s.leg l).live, p.2.rosterIndex = i then (s.rosterAt i).map RosterEntry.freed else s.rosterAt i := by
  have hroster : (s.stoppedOn l).rosterAt i = s.rosterAt i := by
    rw [State.rosterAt, (s.stoppedOn_onLegs l).roster]
    rfl
  rw [← hroster]
  exact (s.endedOn_recordsEnded l).rosterAt i

theorem teardownNotices_eq :
    teardownNotices l (s.leg l) =
      (abortNotices s l ++ stoppedHoldNotices l (s.leg l)) ++
        (s.leg l).live.map (stoppedNotice l (s.leg l).count) ++ [.legState l .stopped (s.leg l).count] := by
  unfold teardownNotices abortNotices stoppedHoldNotices
  cases (s.leg l).run <;> cases (s.leg l).hold <;> rfl

theorem State.teardown_iface :
    (s.teardown l).iface = (teardownNotices l (s.leg l)).foldl Interface.place s.iface := by
  have hlast : (s.teardown l).iface =
      (s.endedOn l).iface.place (.legState l .stopped ((s.teardown l).leg l).count) := rfl
  rw [hlast, State.teardown_leg_same, (s.endedOn_recordsEnded l).iface, State.stoppedOn_leg,
    (s.stoppedOn_onLegs l).iface, teardownNotices_eq]
  simp only [List.foldl_append, List.foldl_cons, List.foldl_nil]

/-- The parts that a teardown does not touch. -/
theorem State.teardown_rest :
    (s.teardown l).bias = s.bias ∧ (s.teardown l).rail = s.rail ∧ (s.teardown l).params = s.params ∧
      (s.teardown l).boundaries = s.boundaries ∧ (s.teardown l).inReset = s.inReset := by
  have hstopped := s.stoppedOn_onLegs l
  have hended : s.endedOn l = { (s.stoppedOn l).setLeg l ((s.endedOn l).leg l) with
      iface := (s.endedOn l).iface, roster := (s.endedOn l).roster } := ((s.stoppedOn l).worksOn_endAll l).frame
  exact ⟨(congrArg State.bias hended).trans hstopped.bias, (congrArg State.rail hended).trans hstopped.rail,
    (congrArg State.params hended).trans hstopped.params,
    (congrArg State.boundaries hended).trans hstopped.boundaries,
    (congrArg State.inReset hended).trans hstopped.inReset⟩

theorem State.teardown_candidates_meter :
    (s.teardown l).candidates = s.candidates.filter (fun c => decide (c.leg ≠ l)) ∧
      (s.teardown l).meter = s.meter.dropLeg l := by
  have hparts := (s.endedOn_endedOn l).parts
  simp only [Prod.mk.injEq] at hparts
  obtain ⟨hmeter, -, hcandidates⟩ := hparts
  rw [← hmeter, ← hcandidates]
  exact ⟨rfl, rfl⟩

end Teardown

section Stop

variable {s : State} {b : Byte} {l : LegId} (hleg : Quad.ofNat? b.toNat = some l)
include hleg

theorem answerStopLeg_wrongState (hstopped : (s.leg l).state = .stopped) :
    answerStopLeg [b] s = refuse .wrongState s :=
  (parsedByte_some hleg).trans
    (if_neg fun hstarted => Leg.started_iff.mp hstarted hstopped)

theorem answerStopLeg_done (hstarted : (s.leg l).started = true) :
    answerStopLeg [b] s = done (s.teardown l) [] :=
  (parsedByte_some hleg).trans (if_pos hstarted)

end Stop

end Sys2Proof.Machine

open Sys2Proof Sys2Proof.Machine

/-- Settles O11: what the teardown leaves, part by part. -/
theorem stopLegTearsTheLegDown : Obligations.StopLegTearsTheLegDown := by
  unfold Obligations.StopLegTearsTheLegDown
  refine ⟨fun tag b s htakes hnone => event_refused htakes (parsedByte_none hnone),
    fun tag b l s htakes hleg => ⟨fun hstopped => event_refused htakes (answerStopLeg_wrongState hleg hstopped),
      fun hstarted => ?_⟩⟩
  have hact := answerStopLeg_done (s := s.took tag 0x12#8) hleg hstarted
  have hiface := ((s.took tag 0x12#8).teardown_iface l).trans
    (Interface.taken_foldl_place (teardownNotices l (s.leg l)) s.iface tag 0x12#8)
  have hrosterAt := (s.took tag 0x12#8).teardown_rosterAt l
  obtain ⟨hcandidates, hmeter⟩ := (s.took tag 0x12#8).teardown_candidates_meter l
  obtain ⟨hbias, hrail, hparams, hboundaries, hreset⟩ := (s.took tag 0x12#8).teardown_rest l
  refine ⟨_, event_answered htakes hact hiface, (s.took tag 0x12#8).teardown_leg_same l,
    fun k hk => (s.took tag 0x12#8).teardown_leg_other l hk, hcandidates, hmeter, fun i e he hlinked => ?_,
    fun i hunlinked => (hrosterAt i).trans (if_neg ?_), rfl, hbias, hrail, hparams, hboundaries,
    hreset.trans htakes.1⟩
  · obtain ⟨d, r, hr, hi⟩ := hlinked
    have hfreed := (hrosterAt i).trans (if_pos ⟨(d, r), Leg.mem_live.mpr hr, hi⟩)
    exact hfreed.trans (congrArg (Option.map RosterEntry.freed) he)
  · rintro ⟨⟨d, r⟩, hmem, hi⟩
    exact hunlinked d r (Leg.mem_live.mp hmem) hi
end

section
/-! SUPPORT. What the commands leave of the interface and of the queue. All but those of the line and the resets place
notices at the most (R171): the frame being received, the buffer, the busy list, the replies and the frame in
transmission stand. -/

namespace Sys2Proof.Machine

/-! ## Steps that place notices at the most -/

/-- An interface that becomes another: what the line holds stands, and the notice queue keeps its bound. -/
structure Interface.LineKept (i j : Interface) : Prop where
  rx : j.rx = i.rx
  buffer : j.buffer = i.buffer
  busy : j.busy = i.busy
  replies : j.replies = i.replies
  lineOut : j.lineOut = i.lineOut
  notices : i.notices.length ≤ Config.maxNotices → j.notices.length ≤ Config.maxNotices

/-- A step that keeps what the line holds, and the commands that wait. -/
structure State.KeepsLine (s t : State) : Prop where
  iface : s.iface.LineKept t.iface
  pending : t.pending = s.pending

theorem Interface.LineKept.refl (i : Interface) : i.LineKept i := ⟨rfl, rfl, rfl, rfl, rfl, id⟩

theorem Interface.LineKept.trans {i j k : Interface} (h : i.LineKept j) (h' : j.LineKept k) : i.LineKept k :=
  ⟨h'.rx.trans h.rx, h'.buffer.trans h.buffer, h'.busy.trans h.busy, h'.replies.trans h.replies,
    h'.lineOut.trans h.lineOut, h'.notices ∘ h.notices⟩

theorem Interface.lineKept_place (i : Interface) (n : Notice) : i.LineKept (i.place n) := by
  obtain ⟨hrx, hbuffer, hbusy, hreplies, hline, -, -⟩ := i.place_frame n
  exact ⟨hrx, hbuffer, hbusy, hreplies, hline, i.place_length n⟩

namespace State.KeepsLine

theorem refl (s : State) : s.KeepsLine s := ⟨.refl _, rfl⟩

variable {s t u : State}

theorem trans (h : s.KeepsLine t) (h' : t.KeepsLine u) : s.KeepsLine u :=
  ⟨h.iface.trans h'.iface, h'.pending.trans h.pending⟩

/-- A step after one that keeps the line. -/
theorem after (h' : t.KeepsLine u) (h : s.KeepsLine t) : s.KeepsLine u := h.trans h'

theorem ite {c : Prop} [Decidable c] (ht : s.KeepsLine t) (hu : s.KeepsLine u) :
    s.KeepsLine (if c then t else u) := by
  split
  · exact ht
  · exact hu

/-- A step that leaves the interface and the queue. -/
theorem of_same (h : (t.iface, t.pending) = (s.iface, s.pending)) : s.KeepsLine t := by
  obtain ⟨hiface, hpending⟩ := Prod.mk.inj h
  exact ⟨hiface ▸ .refl _, hpending⟩

end State.KeepsLine

theorem State.keepsLine_foldl {α : Type} {f : State → α → State} (hf : ∀ (s : State) (a : α), s.KeepsLine (f s a))
    (as : List α) (s : State) : s.KeepsLine (as.foldl f s) :=
  List.foldlRecOn (motive := s.KeepsLine) as f (.refl s) fun t h a _ => h.trans (hf t a)

theorem State.keepsLine_notify (s : State) (n : Notice) : s.KeepsLine (s.notify n) :=
  ⟨s.iface.lineKept_place n, rfl⟩

theorem State.keepsLine_setLeg (s : State) (l : LegId) (x : Leg) : s.KeepsLine (s.setLeg l x) := .of_same rfl

theorem State.keepsLine_mapLeg (s : State) (l : LegId) (f : Leg → Leg) : s.KeepsLine (s.mapLeg l f) := .of_same rfl

theorem State.keepsLine_setRecord (s : State) (l : LegId) (d : Nat) (r : Option DropRecord) :
    s.KeepsLine (s.setRecord l d r) := .of_same rfl

theorem State.keepsLine_direct (s : State) (l : LegId) (new : Directive) (ident : Identity) :
    s.KeepsLine (s.direct l new ident) := .of_same rfl

theorem State.keepsLine_setMeter (s : State) (m : Meter) : s.KeepsLine (s.setMeter m) := .of_same rfl

theorem State.keepsLine_setBias (s : State) (b : Bias) : s.KeepsLine (s.setBias b) := .of_same rfl

theorem State.keepsLine_setRail (s : State) (r : Rail) : s.KeepsLine (s.setRail r) := .of_same rfl

theorem State.keepsLine_setCandidates (s : State) (cs : List Candidate) : s.KeepsLine (s.setCandidates cs) :=
  .of_same rfl

theorem State.keepsLine_setRosterAt (s : State) (i : Nat) (e : Option RosterEntry) : s.KeepsLine (s.setRosterAt i e) :=
  .of_same rfl

theorem State.keepsLine_heard (s : State) (tag : FactoryTag) (l : LegId) (n : Cycle) : s.KeepsLine (s.heard tag l n) := by
  obtain ⟨hiface, -, -, -, -, -, -, -, -, hpending⟩ := s.heard_frame tag l n
  exact .of_same (Prod.ext hiface hpending)

theorem State.keepsLine_unlink (s : State) (i : Nat) : s.KeepsLine (s.unlink i) := by
  obtain ⟨hiface, -, -, -, -, -, -, -, -, hpending⟩ := s.unlink_frame i
  exact .of_same (Prod.ext hiface hpending)

/-- What moves records and directives alone leaves the line. -/
theorem State.MovesRecords.keepsLine {s t : State} {l : LegId} (h : s.MovesRecords l t) : s.KeepsLine t := by
  rw [h.frame]
  exact s.keepsLine_setLeg l _

/-! ## Records and isolation runs (R97 to R113, R160 to R164) -/

theorem State.keepsLine_endRun (s : State) (l : LegId) (outcome : RunOutcome) (culprit : Option (Nat × FactoryTag)) :
    s.KeepsLine (s.endRun l outcome culprit) := by
  unfold State.endRun
  split
  · exact .refl s
  · exact (State.keepsLine_notify _ _).after (s.keepsLine_mapLeg l _)

theorem keepsLine_beginTurn (l : LegId) (run : IsolationRun) (ts : List Identity) (pos : Nat) (s : State) :
    s.KeepsLine (beginTurn l run ts pos s) := by
  induction ts generalizing pos with
  | nil => exact s.keepsLine_endRun l .none none
  | cons t ts ih =>
    unfold beginTurn
    split
    · exact ih (pos + 1)
    · exact .ite (.of_same rfl) (ih (pos + 1))

theorem State.keepsLine_nextTurn (s : State) (l : LegId) : s.KeepsLine (s.nextTurn l) := by
  unfold State.nextTurn
  split
  · exact .refl s
  · exact keepsLine_beginTurn l _ _ _ s

theorem State.keepsLine_nameCulprit (s : State) (l : LegId) : s.KeepsLine (s.nameCulprit l) := by
  unfold State.nameCulprit
  split
  · exact .refl s
  · split
    · exact .refl s
    · split
      · exact .refl s
      · exact (State.keepsLine_endRun _ l _ _).after (s.keepsLine_setRecord l _ _)

theorem State.keepsLine_endRecord (s : State) (l : LegId) (d : Nat) (reason : EndReason) (release : Bool) :
    s.KeepsLine (s.endRecord l d reason release) := by
  unfold State.endRecord
  split
  · exact .refl s
  · next r _ =>
    have hqueued (u : State) : u.KeepsLine
        (if release then u.direct l (.release d) r.ident else u.mapLeg l fun x => x.clearFollow d) :=
      .ite (u.keepsLine_direct l _ _) (u.keepsLine_mapLeg l _)
    have hfreed := (State.keepsLine_setRecord _ l d none).after ((hqueued _).after (s.keepsLine_unlink r.rosterIndex))
    exact .ite ((State.keepsLine_nextTurn _ l).after ((State.keepsLine_notify _ _).after hfreed))
      ((State.keepsLine_notify _ _).after hfreed)

theorem State.keepsLine_allocate (s : State) (l : LegId) (d : Nat) (a : Admission) :
    s.KeepsLine (s.allocate l d a) := by
  have hlinked (u : State) : u.KeepsLine (match u.rosterAt a.index with
      | some e => u.setRosterAt a.index (some { e with state := .active, link := some (l, d) })
      | none => u) := by
    split
    · exact u.keepsLine_setRosterAt _ _
    · exact .refl u
  exact (State.keepsLine_direct _ l _ _).after ((hlinked _).after (s.keepsLine_mapLeg l _))

theorem State.keepsLine_takeIn (s : State) (l : LegId) (i : Nat) (e : RosterEntry) (r : Nat) (launch : LaunchStep)
    (power : Option Int) (vector : AttrSet) : s.KeepsLine (s.takeIn l i e r launch power vector) := by
  unfold State.takeIn
  split
  · exact .refl s
  · exact s.keepsLine_allocate l _ _

/-! ## Verdicts (R100 to R113) -/

theorem State.keepsLine_enrolMiss (s : State) (l : LegId) (d : Nat) (grant : Cycle) (r : DropRecord) :
    s.KeepsLine (s.enrolMiss l d grant r) :=
  .ite (.ite (.ite (.of_same rfl) ((State.keepsLine_endRecord _ l d _ _).after (s.keepsLine_setRecord l d _)))
    (s.keepsLine_setRecord l d _)) (.refl s)

theorem State.keepsLine_soakMiss (s : State) (l : LegId) (d : Nat) (r : DropRecord) :
    s.KeepsLine (s.soakMiss l d r) :=
  .ite ((State.keepsLine_endRecord _ l d _ _).after (s.keepsLine_setRecord l d _)) (s.keepsLine_setRecord l d _)

theorem State.keepsLine_soakGood (s : State) (l : LegId) (d : Nat) (r : DropRecord) :
    s.KeepsLine (s.soakGood l d r) :=
  .ite ((State.keepsLine_notify _ _).after (s.keepsLine_setRecord l d _)) (s.keepsLine_setRecord l d _)

theorem State.keepsLine_serviceMiss (s : State) (l : LegId) (d : Nat) (r : DropRecord) :
    s.KeepsLine (s.serviceMiss l d r) :=
  .ite ((State.keepsLine_endRecord _ l d _ _).after (s.keepsLine_setRecord l d _)) (s.keepsLine_setRecord l d _)

theorem State.keepsLine_countVerdict (s : State) (l : LegId) (d : Nat) (v : Delivered) :
    s.KeepsLine (s.countVerdict l d v) := by
  unfold State.countVerdict
  split
  · exact .refl s
  · dsimp only
    split
    · exact .ite (s.keepsLine_setRecord l d _) (s.keepsLine_enrolMiss l d _ _)
    · exact .ite (.refl s) (s.keepsLine_soakMiss l d _)
    · exact .ite (s.keepsLine_soakGood l d _) (s.keepsLine_soakMiss l d _)
    · exact .ite (s.keepsLine_setRecord l d _) (s.keepsLine_serviceMiss l d _)
    · exact .refl s

theorem State.keepsLine_takeVerdict (s : State) (l : LegId) (d : Nat) (v : Delivered) :
    s.KeepsLine (s.takeVerdict l d v) := by
  unfold State.takeVerdict
  split
  · exact .refl s
  · refine .ite (.refl s) ?_
    split
    · exact .refl s
    · exact s.keepsLine_endRecord l d _ _
    · exact ((s.movesRecords_keepReport l d v).trans (State.movesRecords_driftWork _ _ _ _)).keepsLine.trans
        (State.keepsLine_countVerdict _ l d v)
    · exact s.keepsLine_countVerdict l d v

theorem State.keepsLine_deliverVerdict (s : State) (l : LegId) (x : Expectation) (look : BurstLook) (judged : Bool) :
    s.KeepsLine (s.deliverVerdict l x look judged) := by
  unfold State.deliverVerdict
  split
  · exact .refl s
  · exact .ite ((s.keepsLine_takeVerdict l _ _).trans (State.movesRecords_fillVerdict _ _ _ _ _).keepsLine) (.refl s)

/-! ## A leg begins its cycle (R42, R46, R47, R151, R157) -/

theorem State.keepsLine_requestSample (s : State) (l : LegId) (d : Nat) (q : SampleRequest) :
    s.KeepsLine (s.requestSample l d q) := by
  unfold State.requestSample
  split
  · exact .refl s
  · exact .ite (.of_same rfl) (s.keepsLine_setRecord l d _)

theorem State.keepsLine_grantEcho (l : LegId) (n : Cycle) (marker : Nat) (s : State) (g : EchoGrant) :
    s.KeepsLine (State.grantEcho l n marker s g) := by
  unfold State.grantEcho
  split
  · exact .refl s
  · exact .ite (.of_same rfl) ((State.keepsLine_requestSample _ l _ _).after (.of_same rfl))

theorem State.keepsLine_grantService (l : LegId) (n : Cycle) (marker : Nat) (s : State) (g : ServiceGrant) :
    s.KeepsLine (State.grantService l n marker s g) := by
  unfold State.grantService
  split
  · exact .refl s
  · exact .ite (.of_same rfl) ((State.keepsLine_requestSample _ l _ _).after (.of_same rfl))

theorem State.keepsLine_holdAtBuild (s : State) (l : LegId) (n : Cycle) : s.KeepsLine (s.holdAtBuild l n) := by
  rw [State.holdAtBuild_eq]
  exact (State.keepsLine_foldl State.keepsLine_notify _ _).after (s.keepsLine_setLeg l _)

theorem State.keepsLine_beginCycle (s : State) (l : LegId) (marker : Nat) : s.KeepsLine (s.beginCycle l marker) := by
  have hheld := (State.keepsLine_holdAtBuild _ l (s.leg l).count).after
    (s.keepsLine_setLeg l (((s.leg l).startRecords (s.leg l).count).depart (s.leg l).count).1)
  exact (State.keepsLine_foldl (State.keepsLine_grantService l _ marker) _ _).after
    ((State.keepsLine_foldl (State.keepsLine_grantEcho l _ marker) _ _).after
      ((State.keepsLine_mapLeg _ l _).after hheld))

theorem State.keepsLine_startCycles (s : State) (l : LegId) (marker : Nat) : s.KeepsLine (s.startCycles l marker) :=
  (State.keepsLine_notify _ _).after
    ((State.keepsLine_beginCycle _ l marker).after (s.keepsLine_setLeg l ((s.leg l).starting s.bias.state)))

theorem State.keepsLine_beginLeg (s : State) (l : LegId) (marker : Nat) : s.KeepsLine (s.beginLeg l marker) := by
  by_cases hs : (s.leg l).state = .stopped
  · rw [State.beginLeg_stopped hs]
    exact .ite (s.keepsLine_mapLeg l _) (.ite (s.keepsLine_startCycles l marker) (s.keepsLine_mapLeg l _))
  · rw [State.beginLeg_started hs]
    exact (State.keepsLine_beginCycle _ l marker).after (s.keepsLine_mapLeg l _)

theorem State.keepsLine_boundaryLeg (instant : Nat) (s : State) (l : LegId) :
    s.KeepsLine (State.boundaryLeg instant s l) :=
  .ite (s.keepsLine_mapLeg l _) (s.keepsLine_beginLeg l instant)

/-! ## The Bias Supply (R133, R141 to R143, R147, R164) -/

theorem State.keepsLine_blindLeg (s : State) (l : LegId) : s.KeepsLine (s.blindLeg l) :=
  .ite ((State.keepsLine_notify _ _).after (s.keepsLine_mapLeg l _)) (.refl s)

theorem State.keepsLine_abortRun (s : State) (l : LegId) : s.KeepsLine (s.abortRun l) :=
  (State.keepsLine_endRun _ l _ _).after (s.movesRecords_endTurn l).keepsLine

theorem State.keepsLine_abandon (s : State) : s.KeepsLine s.abandon := by
  have hidle := s.keepsLine_setMeter { s.meter with converter := .idle }
  unfold State.abandon
  dsimp only
  split
  · exact .refl s
  · exact hidle.trans (State.movesRecords_deliverOutcome _ _ _ _ _).keepsLine
  · exact .of_same rfl
  · exact .of_same rfl

theorem State.keepsLine_leaveReady (s : State) : s.KeepsLine s.leaveReady :=
  (State.keepsLine_foldl (fun s l => s.keepsLine_mapLeg l _) _ _).after
    ((State.keepsLine_abandon _).after
      ((State.keepsLine_foldl State.keepsLine_abortRun _ _).after
        (State.keepsLine_foldl State.keepsLine_blindLeg _ s)))

theorem State.keepsLine_wakeLeg (s : State) (l : LegId) : s.KeepsLine (s.wakeLeg l) :=
  .ite ((State.keepsLine_notify _ _).after (s.keepsLine_mapLeg l _)) (.refl s)

theorem State.keepsLine_enterReady (s : State) (instant : Nat) : s.KeepsLine (s.enterReady instant) :=
  (State.keepsLine_foldl State.keepsLine_wakeLeg _ _).after
    ((State.keepsLine_notify _ _).after
      ((State.keepsLine_setMeter _ _).after (s.keepsLine_setBias _)))

theorem State.keepsLine_enterSettling (s : State) : s.KeepsLine s.enterSettling :=
  (State.keepsLine_notify _ _).after (s.keepsLine_setBias _)

theorem State.keepsLine_countBias (s : State) (instant : Nat) : s.KeepsLine (s.countBias instant) := by
  unfold State.countBias
  split
  · exact .refl s
  · exact .refl s
  · exact .ite (s.keepsLine_enterReady instant) (s.keepsLine_setBias _)
  · exact .ite (.ite s.keepsLine_enterSettling (s.keepsLine_setBias _)) (s.keepsLine_setBias _)

theorem State.keepsLine_enterSag (s : State) : s.KeepsLine s.enterSag := by
  have hentered (b : Bias) (r : Rail) (n : Notice) : s.KeepsLine (((s.setRail r).setBias b).notify n) :=
    (State.keepsLine_notify _ n).after (.of_same rfl)
  unfold State.enterSag
  exact .ite (.ite ((State.keepsLine_leaveReady _).after ((State.keepsLine_notify _ _).after (hentered _ _ _)))
    ((State.keepsLine_notify _ _).after (hentered _ _ _))) (hentered _ _ _)

theorem State.keepsLine_biasOn (s : State) : s.KeepsLine s.biasOn := by
  unfold State.biasOn
  split
  · exact s.keepsLine_setBias _
  · exact .refl s

theorem State.keepsLine_biasOff (s : State) : s.KeepsLine s.biasOff := by
  unfold State.biasOff
  split
  · exact .refl s
  · exact (State.keepsLine_leaveReady _).after (s.keepsLine_setBias _)
  · exact s.keepsLine_setBias _

/-! ## The boundary (R1, R89, R128) -/

theorem State.keepsLine_lapseCandidates (s : State) : s.KeepsLine s.lapseCandidates :=
  (State.keepsLine_foldl (fun s (c : Candidate) => s.keepsLine_notify c.lapseNotice) _ _).after (s.keepsLine_setCandidates _)

theorem State.keepsLine_arbitrateCalibration (s : State) (instant : Nat) :
    s.KeepsLine (s.arbitrateCalibration instant) := by
  unfold State.arbitrateCalibration
  split
  · exact .refl s
  · split
    · exact .refl s
    · exact s.keepsLine_setMeter _

theorem State.keepsLine_boundaryBias (s : State) (instant : Nat) : s.KeepsLine (s.boundaryBias instant) :=
  (State.keepsLine_setRail _ _).after (.ite (s.keepsLine_setBias _) (s.keepsLine_countBias instant))

theorem State.keepsLine_boundary (s : State) : s.KeepsLine s.boundary := by
  have hlapsed := (State.keepsLine_lapseCandidates _).after
    (State.keepsLine_foldl (State.keepsLine_boundaryLeg s.comingInstant) Quad.all s)
  have hmeter : s.KeepsLine s.beforeBias :=
    (State.keepsLine_setMeter _ _).after ((State.keepsLine_arbitrateCalibration _ s.comingInstant).after hlapsed)
  rw [State.boundary_eq_boundaryBias]
  exact ((State.keepsLine_boundaryBias _ _).after hmeter).trans (.of_same rfl)

/-! ## Announces and candidates (R68, R69, R81 to R94) -/

theorem State.keepsLine_screen (s : State) (l : LegId) (a : Announce) : s.KeepsLine (s.screen l a) :=
  .ite (.ite (s.keepsLine_mapLeg l _) (.refl s)) (s.keepsLine_heard _ l _)

theorem State.keepsLine_holdCandidate (s : State) (l : LegId) (a : Announce) (reason : HeldReason) (i : Option Nat) :
    s.KeepsLine (s.holdCandidate l a reason i) :=
  .ite ((State.keepsLine_notify _ _).after (s.keepsLine_setCandidates _)) (.refl s)

theorem State.keepsLine_decideExpected (s : State) (l : LegId) (a : Announce) (i : Nat) (e : RosterEntry) :
    s.KeepsLine (s.decideExpected l a i e) := by
  unfold State.decideExpected
  split
  · split
    · exact s.keepsLine_holdCandidate l a _ _
    · exact s.keepsLine_takeIn l i e _ _ _ _
  · exact s.keepsLine_holdCandidate l a _ _

theorem State.keepsLine_restarted (s : State) (l : LegId) (a : Announce) (i : Nat) (e : RosterEntry) (d : Nat) :
    s.KeepsLine (s.restarted l a i e d) := by
  unfold State.restarted
  split
  · exact .refl s
  · exact .ite (.refl s) ((State.keepsLine_decideExpected _ l a i _).after (s.keepsLine_endRecord l d _ _))

theorem State.keepsLine_admission (s : State) (l : LegId) (a : Announce) : s.KeepsLine (s.admission l a) := by
  unfold State.admission
  refine (s.keepsLine_heard a.tag l a.cycle).trans ?_
  generalize s.heard a.tag l a.cycle = t
  dsimp only
  split
  · exact .ite (t.keepsLine_setCandidates _) (.refl t)
  · split
    · split
      · exact t.keepsLine_mapLeg l _
      · exact .ite (t.keepsLine_restarted l a _ _ _) (t.keepsLine_holdCandidate l a _ _)
      · exact t.keepsLine_decideExpected l a _ _
    · split
      · exact t.keepsLine_holdCandidate l a _ _
      · exact .refl t

theorem State.keepsLine_carryAdmit (s : State) (c : Candidate) (i : Nat) (e : RosterEntry) :
    s.KeepsLine (s.carryAdmit c i e) := by
  have hsuperseded (u : State) (e : RosterEntry) : u.KeepsLine (u.supersedeLinked e) := by
    unfold State.supersedeLinked
    split
    · exact u.keepsLine_endRecord _ _ _ _
    · exact .refl u
  exact (State.keepsLine_setCandidates _ _).after
    ((State.keepsLine_takeIn _ c.leg i _ _ _ _ _).after ((hsuperseded _ _).after (s.keepsLine_setRosterAt i _)))

/-! ## The teardown (R152) -/

theorem State.keepsLine_endHold (s : State) (l : LegId) (cause : HoldCause) : s.KeepsLine (s.endHold l cause) := by
  unfold State.endHold
  split
  · exact .refl s
  · exact (State.keepsLine_notify _ _).after (s.keepsLine_mapLeg l _)

theorem State.keepsLine_endAll (s : State) (l : LegId) : s.KeepsLine (s.endAll l) :=
  State.keepsLine_foldl (fun s (p : Nat × DropRecord) => s.keepsLine_endRecord l p.1 _ _) _ s

theorem State.keepsLine_teardown (s : State) (l : LegId) : s.KeepsLine (s.teardown l) := by
  have hended : s.KeepsLine (s.endedOn l) :=
    (State.keepsLine_endAll _ l).after ((State.keepsLine_endHold _ l _).after
      ((State.keepsLine_endRun _ l _ _).after (s.keepsLine_mapLeg l _)))
  exact (State.keepsLine_notify _ _).after (hended.trans (.of_same rfl))

/-! ## The close of a calendar (R72, R162) -/

theorem State.keepsLine_updateLatch (s : State) (l : LegId) (n : Cycle) (k : CycleClass) :
    s.KeepsLine (s.updateLatch l n k) := by
  have hset (latch : Bool) (count : Nat) : s.KeepsLine (s.mapLeg l fun x =>
      x.mapReceiver fun rx => { rx with latch := latch, cleanCount := count }) := s.keepsLine_mapLeg l _
  unfold State.updateLatch
  dsimp only
  split
  · exact (State.keepsLine_notify _ _).after (hset true 0)
  · exact .refl s
  · exact hset true 0
  · exact .ite ((State.keepsLine_notify _ _).after (hset false 0)) (hset true _)
  · exact .refl s

theorem State.keepsLine_watchTurn (s : State) (l : LegId) (run : IsolationRun) (k : CycleClass) :
    s.KeepsLine (s.watchTurn l run k) := by
  cases k with
  | neutral => exact .refl s
  | stray => exact (State.keepsLine_nextTurn _ l).after (s.movesRecords_endTurn l).keepsLine
  | clean => exact .ite ((State.keepsLine_nameCulprit _ l).after (s.keepsLine_mapLeg l _)) (s.keepsLine_mapLeg l _)

theorem State.keepsLine_updateRun (s : State) (l : LegId) (n : Cycle) (k : CycleClass) :
    s.KeepsLine (s.updateRun l n k) := by
  unfold State.updateRun
  split
  · exact .refl s
  · split
    · exact .refl s
    · exact .refl s
    · exact .ite (s.keepsLine_mapLeg l _) (.ite (s.keepsLine_watchTurn l _ k) (.refl s))

end Sys2Proof.Machine
end

section
/-! SUPPORT. What a request can answer (R168): it is refused and changes nothing, or it is DONE and keeps what the line
holds. -/

namespace Sys2Proof.Machine

/-- An answer to a request taken in state `s`: a refusal that changes nothing, or DONE from a state that keeps the
line. -/
inductive Answer.Clean (s : State) : Answer → Prop
  | refused (code : ReplyCode) : Answer.Clean s (refuse code s)
  | done {t : State} (h : s.KeepsLine t) (values : List Byte) : Answer.Clean s (Machine.done t values)

/-- A request that is answered so in every state. -/
def AnswersCleanly (act : State → Answer) : Prop := ∀ s, Answer.Clean s (act s)

theorem Answer.Clean.keepsLine {s : State} {a : Answer} (h : a.Clean s) : s.KeepsLine a.state := by
  cases h with
  | refused code => exact .refl s
  | done h values => exact h

/-- A request that is not answered DONE changes nothing (R168). -/
theorem Answer.Clean.state_eq {s : State} {a : Answer} (h : a.Clean s) (hcode : a.code ≠ .done) : a.state = s := by
  cases h with
  | refused code => rfl
  | done h values => exact absurd rfl hcode

/-- A request that reads the state alone. -/
theorem Answer.Clean.reads (s : State) (values : List Byte) : Answer.Clean s (Machine.done s values) :=
  .done (.refl s) values

theorem answersCleanly_refuse (code : ReplyCode) : AnswersCleanly (refuse code) := fun _ => .refused code

theorem answersCleanly_parsed {α : Type} {parse : List Byte → Option α} {act : α → State → Answer}
    (hact : ∀ f, AnswersCleanly (act f)) (payload : List Byte) : AnswersCleanly (parsed parse act payload) := by
  intro s
  unfold parsed
  split
  · exact .refused _
  · exact hact _ s

theorem answersCleanly_withLeg {act : LegId → State → Answer} (hact : ∀ l, AnswersCleanly (act l)) (n : Nat) :
    AnswersCleanly (withLeg n act) := by
  intro s
  unfold withLeg
  split
  · exact .refused _
  · exact hact _ s

theorem answersCleanly_withDrop {act : LegId → Nat → State → Answer} (hact : ∀ l d, AnswersCleanly (act l d))
    (f : DropFields) : AnswersCleanly (withDrop f act) :=
  answersCleanly_withLeg (fun l s => by split; exacts [hact l _ s, .refused _]) f.leg

/-! ## The part as a whole (R140, R172, R173) -/

theorem answersCleanly_status (payload : List Byte) : AnswersCleanly (answerStatus payload) :=
  answersCleanly_parsed (fun _ s => .done (s.keepsLine_setRail _) _) payload

/-- A reset that becomes pending is nothing of what the line holds. -/
theorem State.keepsLine_resetPending (s : State) : s.KeepsLine (s.setIface { s.iface with resetPending := true }) :=
  ⟨⟨rfl, rfl, rfl, rfl, rfl, id⟩, rfl⟩

theorem answersCleanly_reset (payload : List Byte) : AnswersCleanly (answerReset payload) :=
  answersCleanly_parsed (fun _ s => .done s.keepsLine_resetPending _) payload

theorem answersCleanly_bias (payload : List Byte) : AnswersCleanly (answerBias payload) :=
  answersCleanly_parsed (fun _ s => .done (.ite s.keepsLine_biasOn s.keepsLine_biasOff) _) payload

/-! ## Legs (R150 to R160) -/

theorem answersCleanly_setupLeg (payload : List Byte) : AnswersCleanly (answerSetupLeg payload) := by
  refine answersCleanly_parsed (fun f => answersCleanly_withLeg (fun l s => ?_) _) payload
  split
  · exact .refused _
  · split
    · exact .refused _
    · split
      · exact .refused _
      · split
        · exact .refused _
        · split
          · exact .refused _
          · exact .done (s.keepsLine_mapLeg l _) _

theorem answersCleanly_startLeg (payload : List Byte) : AnswersCleanly (answerStartLeg payload) := by
  refine answersCleanly_parsed (fun n => answersCleanly_withLeg (fun l s => ?_) _) payload
  split
  · exact .refused _
  · exact .done (s.keepsLine_mapLeg l _) _

theorem answersCleanly_stopLeg (payload : List Byte) : AnswersCleanly (answerStopLeg payload) := by
  refine answersCleanly_parsed (fun n => answersCleanly_withLeg (fun l s => ?_) _) payload
  split
  · exact .done (s.keepsLine_teardown l) _
  · exact .refused _

theorem answersCleanly_legMuster (payload : List Byte) : AnswersCleanly (answerLegMuster payload) :=
  answersCleanly_parsed (fun _ => answersCleanly_withLeg (fun l s => .done (s.keepsLine_mapLeg l _) _) _) payload

theorem answersCleanly_legRead (payload : List Byte) : AnswersCleanly (answerLegRead payload) :=
  answersCleanly_parsed (fun _ => answersCleanly_withLeg (fun _ s => .reads s _) _) payload

theorem answersCleanly_holdLeg (payload : List Byte) : AnswersCleanly (answerHoldLeg payload) := by
  refine answersCleanly_parsed (fun f => answersCleanly_withLeg (fun l s => ?_) _) payload
  dsimp only
  split
  · exact .refused _
  · split
    · exact .refused _
    · exact .done (s.keepsLine_mapLeg l _) _

theorem answersCleanly_unholdLeg (payload : List Byte) : AnswersCleanly (answerUnholdLeg payload) := by
  refine answersCleanly_parsed (fun n => answersCleanly_withLeg (fun l s => ?_) _) payload
  split
  · exact .done (s.keepsLine_endHold l _) _
  · exact .refused _

theorem answersCleanly_isolateLeg (payload : List Byte) : AnswersCleanly (answerIsolateLeg payload) := by
  refine answersCleanly_parsed (fun n => answersCleanly_withLeg (fun l s => ?_) _) payload
  dsimp only
  split
  · exact .done ((keepsLine_beginTurn l _ _ 0 _).after (s.keepsLine_mapLeg l _)) _
  · exact .refused _

/-! ## The roster and the candidates (R76 to R79, R90 to R95) -/

theorem State.keepsLine_relabel (s : State) (link : Option (LegId × Nat)) (plot share : Nat) :
    s.KeepsLine (s.relabel link plot share) := by
  unfold State.relabel
  split
  · exact .refl s
  · split
    · exact .refl s
    · exact s.keepsLine_setRecord _ _ _

theorem State.keepsLine_indexCandidate (s : State) (tag : FactoryTag) (i : Option Nat) :
    s.KeepsLine (s.indexCandidate tag i) :=
  s.keepsLine_setCandidates _

theorem answersCleanly_rosterPut (payload : List Byte) : AnswersCleanly (answerRosterPut payload) := by
  refine answersCleanly_parsed (fun f s => ?_) payload
  split
  · split
    · unfold State.putNew
      split
      · exact .refused _
      · exact .done ((State.keepsLine_indexCandidate _ _ _).after (s.keepsLine_setRosterAt _ _)) _
    · unfold State.putOver
      split
      · split
        · exact .refused _
        · exact .done ((State.keepsLine_relabel _ _ _ _).after (s.keepsLine_setRosterAt _ _)) _
      · exact .done (s.keepsLine_setRosterAt _ _) _
  · exact .refused _

theorem answersCleanly_rosterRemove (payload : List Byte) : AnswersCleanly (answerRosterRemove payload) := by
  refine answersCleanly_parsed (fun f s => ?_) payload
  split
  · exact .refused _
  · split
    · exact .refused _
    · exact .done ((State.keepsLine_indexCandidate _ _ _).after (s.keepsLine_setRosterAt _ _)) _

theorem answersCleanly_rosterRead (payload : List Byte) : AnswersCleanly (answerRosterRead payload) := by
  refine answersCleanly_parsed (fun k s => ?_) payload
  split
  · split
    · exact .refused _
    · split
      · exact .refused _
      · exact .reads s _
  · split
    · exact .refused _
    · exact .reads s _

theorem answersCleanly_verdict (payload : List Byte) : AnswersCleanly (answerVerdict payload) := by
  refine answersCleanly_parsed (fun f s => ?_) payload
  split
  · exact .refused _
  · split
    · exact .done ((State.keepsLine_mapLeg _ _ _).after (s.keepsLine_setCandidates _)) _
    · split
      · exact .refused _
      · exact .done (s.keepsLine_carryAdmit _ _ _) _

theorem answersCleanly_candidateRead (payload : List Byte) : AnswersCleanly (answerCandidateRead payload) := by
  have hread (pos : Nat) (s : State) : Answer.Clean s (match s.candidates[pos]? with
      | none => refuse .notFound s
      | some c => done s (c.values pos s.candidates.length)) := by
    split
    · exact .refused _
    · exact .reads s _
  refine answersCleanly_parsed (fun k s => ?_) payload
  dsimp only
  split
  · split
    · exact .refused _
    · exact hread _ s
  · exact hread _ s

/-! ## Drop records and parameters (R114 to R122) -/

theorem State.keepsLine_setParams (s : State) (p : Activation) : s.KeepsLine (s.setParams p) := .of_same rfl

theorem answersCleanly_setActivation (payload : List Byte) : AnswersCleanly (answerSetActivation payload) := by
  refine answersCleanly_parsed (fun f s => ?_) payload
  split
  · exact .refused _
  · split
    · exact .done (s.keepsLine_setParams _) _
    · exact .refused _

theorem answersCleanly_activationRead (payload : List Byte) : AnswersCleanly (answerActivationRead payload) :=
  answersCleanly_parsed (fun _ s => .reads s _) payload

theorem answersCleanly_dropSilence (payload : List Byte) : AnswersCleanly (answerDropSilence payload) := by
  refine answersCleanly_parsed (fun f => answersCleanly_withDrop (fun l d s => ?_) f) payload
  split
  · exact .refused _
  · split
    · exact .refused _
    · exact .done ((State.keepsLine_direct _ l _ _).after (s.keepsLine_setRecord l d _)) _

theorem answersCleanly_dropResume (payload : List Byte) : AnswersCleanly (answerDropResume payload) := by
  refine answersCleanly_parsed (fun f => answersCleanly_withDrop (fun l d s => ?_) f) payload
  split
  · exact .refused _
  · split
    · exact .done ((State.keepsLine_direct _ l _ _).after (s.keepsLine_setRecord l d _)) _
    · exact .refused _

theorem answersCleanly_dropRetire (payload : List Byte) : AnswersCleanly (answerDropRetire payload) := by
  refine answersCleanly_parsed (fun f => answersCleanly_withDrop (fun l d s => ?_) f) payload
  split
  · exact .refused _
  · exact .done (s.keepsLine_endRecord l d _ _) _

theorem answersCleanly_dropRead (payload : List Byte) : AnswersCleanly (answerDropRead payload) :=
  answersCleanly_parsed (fun f => answersCleanly_withDrop (fun _ _ s => .reads s _) f) payload

/-! ## The calibration tables (R137, R138) -/

theorem answersCleanly_calLoad (payload : List Byte) : AnswersCleanly (answerCalLoad payload) := by
  refine answersCleanly_parsed (fun f s => ?_) payload
  split
  · exact .refused _
  · split
    · exact .done (s.keepsLine_setMeter _) _
    · exact .refused _

theorem answersCleanly_calRead (payload : List Byte) : AnswersCleanly (answerCalRead payload) := by
  refine answersCleanly_parsed (fun n s => ?_) payload
  split
  · exact .refused _
  · exact .reads s _

/-! ## Every code -/

theorem answersCleanly_answerFor (code : Byte) (payload : List Byte) : AnswersCleanly (answerFor code payload) := by
  unfold answerFor
  split
  · exact answersCleanly_status payload
  · exact answersCleanly_reset payload
  · exact answersCleanly_bias payload
  · exact answersCleanly_setupLeg payload
  · exact answersCleanly_startLeg payload
  · exact answersCleanly_stopLeg payload
  · exact answersCleanly_legMuster payload
  · exact answersCleanly_legRead payload
  · exact answersCleanly_holdLeg payload
  · exact answersCleanly_unholdLeg payload
  · exact answersCleanly_isolateLeg payload
  · exact answersCleanly_rosterPut payload
  · exact answersCleanly_rosterRemove payload
  · exact answersCleanly_rosterRead payload
  · exact answersCleanly_verdict payload
  · exact answersCleanly_candidateRead payload
  · exact answersCleanly_setActivation payload
  · exact answersCleanly_activationRead payload
  · exact answersCleanly_dropSilence payload
  · exact answersCleanly_dropResume payload
  · exact answersCleanly_dropRetire payload
  · exact answersCleanly_dropRead payload
  · exact answersCleanly_calLoad payload
  · exact answersCleanly_calRead payload
  · exact answersCleanly_refuse _

end Sys2Proof.Machine
end

section
/-! SUPPORT. The bytes of a frame at the receive side (R166): what reading one more of them can come to. -/

namespace Sys2Proof.Machine

/-- The bytes after a sync are held on, discarded or complete, whole in each case. -/
theorem readFrame_cases (bytes : List Byte) :
    readFrame bytes = .goOn (some bytes) ∨ readFrame bytes = .discarded bytes ∨ readFrame bytes = .complete bytes := by
  unfold readFrame
  split
  · split
    · exact .inr (.inl rfl)
    · exact .inl rfl
  · split
    · exact .inr (.inl rfl)
    · split
      · exact .inl rfl
      · split
        · exact .inr (.inr rfl)
        · exact .inr (.inl rfl)
  · exact .inl rfl

theorem readFrame_goOn {bytes : List Byte} {rx : Option (List Byte)} (h : readFrame bytes = .goOn rx) :
    rx = some bytes := by
  rcases readFrame_cases bytes with h' | h' | h' <;> cases h.symm.trans h'
  rfl

theorem readFrame_discarded {bytes again : List Byte} (h : readFrame bytes = .discarded again) : again = bytes := by
  rcases readFrame_cases bytes with h' | h' | h' <;> cases h.symm.trans h'
  rfl

/-- The bytes held after one more are those of a frame that can go on. -/
theorem readByte_goOn {rx rx' : Option (List Byte)} {b : Byte} (h : readByte rx b = .goOn rx') {bytes : List Byte}
    (hrx : rx' = some bytes) : readFrame bytes = .goOn (some bytes) := by
  subst hrx
  cases rx with
  | none =>
    have hheld : (if b = Config.syncByte then some [] else none) = some bytes := Reading.goOn.inj h
    split at hheld <;> cases hheld
    rfl
  | some held =>
    have hframe : readFrame (held ++ [b]) = .goOn (some bytes) := h
    cases readFrame_goOn hframe
    exact hframe

end Sys2Proof.Machine
end

section
/-! SUPPORT. The line holds what it should while a command acts (R166, R167, R170, R171), and the output arbiter then
leaves the interface sound: every command outside the resets is an event of this kind. -/

namespace Sys2Proof.Machine

/-! ## The interface while a command acts -/

/-- A sound interface but for the line: a frame may wait while it is idle, until the output arbiter looks at it. -/
structure Interface.Orderly (i : Interface) : Prop where
  notices : i.notices.length ≤ Config.maxNotices
  buffer : i.buffer.length ≤ Config.bufferPlaces
  busy : i.busy.length ≤ Config.busyPlaces
  places : i.buffer = i.inUse
  held : ∀ bytes, i.rx = some bytes → readFrame bytes = .goOn (some bytes)

namespace Interface

variable {i j : Interface}

theorem Sound.orderly (h : i.Sound) : i.Orderly := ⟨h.notices, h.buffer, h.busy, h.places, h.held⟩

theorem LineKept.orderly (h : i.LineKept j) (hi : i.Orderly) : j.Orderly where
  notices := h.notices hi.notices
  buffer := h.buffer ▸ hi.buffer
  busy := h.busy ▸ hi.busy
  places := by
    rw [h.buffer, hi.places, inUse, inUse, h.lineOut, h.replies]
  held := h.rx ▸ hi.held

theorem Orderly.setRx (h : i.Orderly) {rx : Option (List Byte)}
    (hheld : ∀ bytes, rx = some bytes → readFrame bytes = .goOn (some bytes)) : ({ i with rx := rx } : Interface).Orderly :=
  { h with held := hheld }

/-- The frame that the arbiter begins leaves its own queue, and a reply's place stays occupied. -/
theorem Orderly.arbitrate (h : i.Orderly) : i.arbitrate.Orderly := by
  obtain ⟨hnotices, hbuffer, hbusy, hplaces, hheld⟩ := h
  unfold Interface.arbitrate Interface.send
  split
  · exact ⟨hnotices, hbuffer, hbusy, hplaces, hheld⟩
  · next hidle =>
    rw [inUse, hidle] at hplaces
    split
    · next b bs hcons =>
      rw [hcons] at hbusy
      exact ⟨hnotices, hbuffer, Nat.le_of_succ_le hbusy, hplaces, hheld⟩
    · split
      · next r rs hcons =>
        rw [hcons] at hplaces
        exact ⟨hnotices, hbuffer, hbusy, hplaces, hheld⟩
      · split
        · next n ns hcons =>
          rw [hcons] at hnotices
          exact ⟨Nat.le_of_succ_le hnotices, hbuffer, hbusy, hplaces, hheld⟩
        · refine ⟨hnotices, hbuffer, hbusy, ?_, hheld⟩
          rw [inUse, hidle]
          exact hplaces

/-- The arbiter leaves no idle line with a frame waiting (R170). -/
theorem Orderly.sound_arbitrate (h : i.Orderly) : i.arbitrate.Sound where
  notices := h.arbitrate.notices
  buffer := h.arbitrate.buffer
  busy := h.arbitrate.busy
  places := h.arbitrate.places
  held := h.arbitrate.held
  idle hidle := by
    obtain ⟨hbusy, hreplies, hnotices, hsame⟩ := i.arbitrate_idle hidle
    rw [hsame]
    exact ⟨hbusy, hreplies, hnotices⟩

/-- The reply to a request that took the next place, and then kept the line (R168, R170). -/
theorem Orderly.answered (h : i.Orderly) (hroom : i.buffer.length < Config.bufferPlaces) (r : Reply)
    (hkept : LineKept { i with buffer := i.buffer ++ [⟨r.tag, r.request⟩] } j) :
    ({ j with replies := j.replies ++ [r] } : Interface).Orderly where
  notices := hkept.notices h.notices
  buffer := by
    rw [hkept.buffer]
    simpa using hroom
  busy := hkept.busy ▸ h.busy
  places := by
    rw [inUse, hkept.buffer, hkept.lineOut, hkept.replies]
    simp [h.places, inUse]
  held := hkept.rx ▸ h.held

/-- A reply in transmission has the first place (R167). -/
theorem inUse_reply {x : Sending} {r : Reply} (hline : i.lineOut = some x) (hreply : x.frame = .reply r) :
    i.inUse = ⟨r.tag, r.request⟩ :: i.replies.map fun r => ⟨r.tag, r.request⟩ := by
  obtain ⟨frame, lost⟩ := x
  cases hreply
  rw [inUse, hline]
  rfl

/-- Without a reply in transmission the places are those of the replies that wait. -/
theorem inUse_waiting (hother : ∀ x r, i.lineOut = some x → x.frame ≠ .reply r) :
    i.inUse = i.replies.map fun r => ⟨r.tag, r.request⟩ := by
  unfold inUse
  split
  · next r lost hline => exact absurd rfl (hother _ r hline)
  · rfl

/-- The interface of a part that leaves reset, before READY begins (R175). -/
theorem left_orderly (cause : ResetCause) : (Interface.left cause).Orderly :=
  ⟨Nat.zero_le _, Nat.zero_le _, Nat.zero_le _, rfl, nofun⟩

end Interface

/-! ## Steps of the line -/

/-- A step that keeps the interface in order, and the commands that wait. -/
structure State.HoldsLine (s t : State) : Prop where
  orderly : s.iface.Orderly → t.iface.Orderly
  pending : t.pending = s.pending

namespace State.HoldsLine

theorem refl (s : State) : s.HoldsLine s := ⟨id, rfl⟩

variable {s t u : State}

theorem trans (h : s.HoldsLine t) (h' : t.HoldsLine u) : s.HoldsLine u :=
  ⟨h'.orderly ∘ h.orderly, h'.pending.trans h.pending⟩

theorem ite {c : Prop} [Decidable c] (ht : s.HoldsLine t) (hu : s.HoldsLine u) :
    s.HoldsLine (if c then t else u) := by
  split
  · exact ht
  · exact hu

end State.HoldsLine

theorem State.KeepsLine.holdsLine {s t : State} (h : s.KeepsLine t) : s.HoldsLine t :=
  ⟨h.iface.orderly, h.pending⟩

theorem State.holdsLine_hunt (s : State) : s.HoldsLine s.hunt := ⟨fun h => h.setRx nofun, rfl⟩

theorem State.holdsLine_arbitrate (s : State) : s.HoldsLine s.arbitrate := ⟨fun h => h.arbitrate, rfl⟩

/-- A request frame takes a place with its reply, joins the busy list, or is dropped (R167, R173). -/
theorem holdsLine_takeRequest (tag code : Byte) {act : State → Answer} (hact : AnswersCleanly act) (s : State) :
    s.HoldsLine (takeRequest tag code act s) := by
  unfold takeRequest
  refine .ite (.refl s) ?_
  split
  · split
    · next hroom =>
      exact ⟨fun h => { h with busy := by simpa using hroom }, rfl⟩
    · exact .refl s
  · next hroom =>
    have hkept := (hact (s.setIface { s.iface with buffer := s.iface.buffer ++ [⟨tag, code⟩] })).keepsLine
    exact ⟨fun h => h.answered (Nat.lt_of_not_le hroom) ⟨tag, code, _, _⟩ hkept.iface, hkept.pending⟩

theorem holdsLine_frameRequest (tag code : Byte) {act : State → Answer} (hact : AnswersCleanly act) (s : State) :
    s.HoldsLine (frameRequest tag code act s) :=
  s.holdsLine_hunt.trans (holdsLine_takeRequest tag code hact s.hunt)

theorem State.holdsLine_deliverFrame (s : State) (bytes : List Byte) : s.HoldsLine (s.deliverFrame bytes) := by
  unfold State.deliverFrame
  split
  · exact .ite (holdsLine_takeRequest _ _ (answersCleanly_answerFor _ _) s) (.refl s)
  · exact .refl s

theorem State.holdsLine_readBytes (bytes : List Byte) (s : State) : s.HoldsLine (s.readBytes bytes).1 := by
  induction bytes generalizing s with
  | nil => exact .refl s
  | cons b rest ih =>
    unfold State.readBytes
    split
    · next rx hread =>
      have hheld : s.HoldsLine (s.setIface { s.iface with rx := rx }) :=
        ⟨fun h => h.setRx fun _ hrx => readByte_goOn hread hrx, rfl⟩
      exact hheld.trans (ih _)
    · exact s.holdsLine_hunt
    · exact ((s.holdsLine_hunt.trans (State.holdsLine_deliverFrame _ _)).trans (State.holdsLine_arbitrate _)).trans (ih _)

theorem State.holdsLine_rescan (n : Nat) (bytes : List Byte) (s : State) : s.HoldsLine (State.rescan n bytes s) := by
  induction n generalizing bytes s with
  | zero => exact .refl s
  | succ n ih =>
    have hread := State.holdsLine_readBytes bytes s
    unfold State.rescan
    split
    · next heq => rw [heq] at hread; exact hread
    · next heq => rw [heq] at hread; exact hread.trans (ih _ _)

theorem State.holdsLine_receive (s : State) (b : Byte) : s.HoldsLine (s.receive b) := by
  have hread := State.holdsLine_readBytes [b] s
  unfold State.receive
  split
  · next heq => rw [heq] at hread; exact hread
  · next heq => rw [heq] at hread; exact hread.trans (State.holdsLine_rescan _ _ _)

/-- The part leaves reset with READY alone on the line (R175). -/
theorem State.leaveReset_sound (blocks : State) (cause : ResetCause) (railMv : Nat) :
    (blocks.leaveReset cause railMv).iface.Sound :=
  ((Interface.lineKept_place _ _).orderly (Interface.left_orderly cause)).sound_arbitrate

/-- A frame sent leaves the line, and a reply gives up the first place (R167, R170). -/
theorem State.holdsLine_sent (s : State) (railMv : Nat) : s.HoldsLine (s.sent railMv) := by
  unfold State.sent
  split
  · exact .refl s
  · next x hline =>
    split
    · next r hframe =>
      refine .ite ⟨fun _ => (State.leaveReset_sound _ _ _).orderly, rfl⟩ ⟨fun h => ?_, rfl⟩
      have hplaces := h.places.trans (Interface.inUse_reply hline hframe)
      exact { h with
        buffer := by
          rw [State.setIface_iface, List.length_tail]
          exact (Nat.sub_le _ _).trans h.buffer
        places := congrArg List.tail hplaces }
    · next hother =>
      have hwaiting : s.iface.inUse = s.iface.replies.map fun r => ⟨r.tag, r.request⟩ := by
        refine Interface.inUse_waiting fun y r hy => ?_
        cases hline.symm.trans hy
        exact hother r
      exact ⟨fun h => { h with places := h.places.trans hwaiting }, rfl⟩

end Sys2Proof.Machine
end

section
/-! SUPPORT. Every command outside the resets is an event that holds the line (R166 to R171): its effect keeps the
interface in order and the commands that wait, and then the output arbiter looks at the line. -/

namespace Sys2Proof.Machine

/-- A meaning that is an event, whose effect holds the line. -/
def LineEvent (meaning : State → Host.Outcome State Fault Refusal) : Prop :=
  ∃ act : State → State, (∀ s : State, s.HoldsLine (act s)) ∧ ∀ s, meaning s = event act s

theorem LineEvent.of_holds {act : State → State} (h : ∀ s : State, s.HoldsLine (act s)) : LineEvent (event act) :=
  ⟨act, h, fun _ => rfl⟩

/-- An event that places notices at the most. -/
theorem LineEvent.of_keeps {act : State → State} (h : ∀ s : State, s.KeepsLine (act s)) : LineEvent (event act) :=
  .of_holds fun s => (h s).holdsLine

/-- A request frame, whatever its code. -/
theorem lineEvent_request (tag code : Byte) {act : State → Answer} (hact : AnswersCleanly act) :
    LineEvent (event (frameRequest tag code act)) :=
  .of_holds (holdsLine_frameRequest tag code hact)

/-! ## The management line (R166 to R168, R173) -/

theorem lineEvent_unknownRequest (tag code : Byte) (payload : List Byte) :
    LineEvent (execUnknownRequest tag code payload) :=
  .of_holds fun s => .ite (.refl s) (holdsLine_frameRequest tag code (answersCleanly_refuse _) s)

theorem lineEvent_lineBusy (tag code : Byte) (payload : List Byte) : LineEvent (execLineBusy tag code payload) :=
  .of_holds fun s => .ite (holdsLine_frameRequest tag code (answersCleanly_refuse _) s) (.refl s)

theorem lineEvent_requestDiscardedResetPending (tag code : Byte) (payload : List Byte) :
    LineEvent (execRequestDiscardedResetPending tag code payload) :=
  .of_holds fun s => .ite s.holdsLine_hunt (.refl s)

theorem lineEvent_frameDiscarded (bytes : List Byte) : LineEvent (execFrameDiscarded bytes) :=
  .of_holds fun s => .ite (s.holdsLine_hunt.trans (State.holdsLine_rescan _ _ _)) (.refl s)

theorem lineEvent_replyOrNoticeFrameDropped (control tag code : Byte) (payload : List Byte) :
    LineEvent (execReplyOrNoticeFrameDropped control tag code payload) :=
  .of_holds fun s => .ite s.holdsLine_hunt (.refl s)

/-! ## The rail and the boundary (R1, R30, R89, R103, R126, R141, R143, R144, R158) -/

theorem lineEvent_railSag : LineEvent execRailSag := .of_keeps fun s => .ite s.keepsLine_enterSag (.refl s)

theorem lineEvent_railRecovery : LineEvent execRailRecovery :=
  .of_keeps fun s => .ite (s.keepsLine_setRail _) (.refl s)

theorem lineEvent_offsetFieldExpiry (l : LegId) (d : Nat) : LineEvent (execOffsetFieldExpiry l d) :=
  .of_keeps fun s => by
    split
    · exact .refl s
    · exact s.keepsLine_setRecord l d _

theorem lineEvent_launchFieldExpiry (l : LegId) (d : Nat) : LineEvent (execLaunchFieldExpiry l d) :=
  .of_keeps fun s => by
    split
    · exact .refl s
    · exact s.keepsLine_setRecord l d _

theorem lineEvent_darkOffsetExpiry (l : LegId) (k : RangeId) : LineEvent (execDarkOffsetExpiry l k) :=
  .of_keeps fun s => .ite (s.keepsLine_setMeter _) (.refl s)

theorem lineEvent_candidateLapsed (tag : FactoryTag) : LineEvent (execCandidateLapsed tag) :=
  .of_keeps fun s => by
    split
    · exact .refl s
    · exact .ite ((State.keepsLine_notify _ _).after (s.keepsLine_setCandidates _)) (.refl s)

theorem lineEvent_holdExpiry (l : LegId) : LineEvent (execHoldExpiry l) :=
  .of_keeps fun s => .ite ((State.keepsLine_mapLeg _ l _).after (s.keepsLine_beginLeg l _)) (.refl s)

theorem lineEvent_settleComplete : LineEvent execSettleComplete :=
  .of_keeps fun s => .ite ((State.keepsLine_setBias _ _).after (s.keepsLine_enterReady _)) (.refl s)

theorem lineEvent_recoveryComplete : LineEvent execRecoveryComplete :=
  .of_keeps fun s => .ite ((State.keepsLine_setBias _ _).after s.keepsLine_enterSettling) (.refl s)

/-! ## The Burst Receivers (R61 to R72) -/

theorem lineEvent_grantedBurstVerdict (l : LegId) (look : BurstLook) : LineEvent (execGrantedBurstVerdict l look) :=
  .of_keeps fun s => by
    split
    · exact .refl s
    · exact (State.keepsLine_deliverVerdict _ l _ _ _).after (s.keepsLine_mapLeg l _)

theorem lineEvent_announceDelimiterFound (l : LegId) (a : Nat) (p : Fin 20) (light : BitVec 48)
    (rivals : List LegId) : LineEvent (execAnnounceDelimiterFound l a p light rivals) :=
  .of_keeps fun s => by
    have hlit : s.KeepsLine (s.recordLight l light) := s.keepsLine_mapLeg l _
    dsimp only
    split
    · exact hlit
    · exact .ite ((State.keepsLine_mapLeg _ l _).after ((State.keepsLine_setMeter _ _).after hlit)) hlit

theorem lineEvent_garbled (l : LegId) (what : Garble) : LineEvent (execGarbled l what) :=
  .of_keeps fun s => by
    split
    · exact .ite (s.keepsLine_mapLeg l _) (.refl s)
    · exact s.keepsLine_mapLeg l _
    · exact .refl s

theorem lineEvent_announceJudgementComplete (l : LegId) (a : Nat) (content : List Byte) :
    LineEvent (execAnnounceJudgementComplete l a content) :=
  .of_keeps fun s => by
    split
    · exact .refl s
    · split
      · exact .refl s
      · dsimp only
        split
        · exact s.keepsLine_mapLeg l _
        · exact s.keepsLine_mapLeg l _
        · exact (State.keepsLine_screen _ l _).after (s.keepsLine_mapLeg l _)

theorem lineEvent_windowScanEnd (l : LegId) : LineEvent (execWindowScanEnd l) :=
  .of_keeps fun s => by
    split
    · exact .refl s
    · exact .ite ((State.keepsLine_foldl (fun s a => s.keepsLine_admission l a) _ _).after (s.keepsLine_mapLeg l _))
        (.refl s)

theorem lineEvent_calendarClose (l : LegId) (lit : List (Nat × Nat)) : LineEvent (execCalendarClose l lit) :=
  .of_keeps fun s => by
    have hlit : s.KeepsLine (s.recordLight l (historyAtClose lit)) := s.keepsLine_mapLeg l _
    dsimp only
    split
    · exact hlit
    · exact (State.keepsLine_updateRun _ l _ _).after
        ((State.keepsLine_updateLatch _ l _ _).after ((State.keepsLine_mapLeg _ l _).after hlit))

/-! ## The converter (R124, R128, R129, R131) -/

theorem lineEvent_sampleIntegrationStart (l : LegId) : LineEvent (execSampleIntegrationStart l) :=
  .of_keeps fun s => by
    split
    · exact .refl s
    · dsimp only
      split
      · exact s.keepsLine_setMeter _
      · exact (State.movesRecords_deliverOutcome _ _ _ _ _).keepsLine.after (s.keepsLine_setMeter _)

theorem lineEvent_sampleResult (code : BitVec 12) : LineEvent (execSampleResult code) :=
  .of_keeps fun s => by
    split
    · dsimp only
      split
      · exact (State.movesRecords_deliverOutcome _ _ _ _ _).keepsLine.after (s.keepsLine_setMeter _)
      · exact (State.keepsLine_mapLeg _ _ _).after (s.keepsLine_setMeter _)
    · exact .refl s

theorem lineEvent_calibrationInstant : LineEvent execCalibrationInstant :=
  .of_keeps fun s => by
    split
    · exact .refl s
    · exact .ite (s.keepsLine_setMeter _) (s.keepsLine_setMeter _)

theorem lineEvent_calibrationResult (code : BitVec 12) (light : BitVec 32) :
    LineEvent (execCalibrationResult code light) :=
  .of_keeps fun s => by
    split
    · exact .ite (s.keepsLine_setMeter _) (s.keepsLine_setMeter _)
    · exact .refl s

/-! ## Every command -/

/-- A command that does not act in reset is an event that holds the line (R174). -/
theorem exec_lineEvent {c : Instr} (h : actsInReset c = false) : LineEvent (exec c) := by
  cases c with
  | status tag payload => exact lineEvent_request tag 0x01#8 (answersCleanly_status payload)
  | reset tag payload => exact lineEvent_request tag 0x02#8 (answersCleanly_reset payload)
  | bias tag payload => exact lineEvent_request tag 0x03#8 (answersCleanly_bias payload)
  | setupLeg tag payload => exact lineEvent_request tag 0x10#8 (answersCleanly_setupLeg payload)
  | startLeg tag payload => exact lineEvent_request tag 0x11#8 (answersCleanly_startLeg payload)
  | stopLeg tag payload => exact lineEvent_request tag 0x12#8 (answersCleanly_stopLeg payload)
  | legMuster tag payload => exact lineEvent_request tag 0x13#8 (answersCleanly_legMuster payload)
  | legRead tag payload => exact lineEvent_request tag 0x14#8 (answersCleanly_legRead payload)
  | holdLeg tag payload => exact lineEvent_request tag 0x15#8 (answersCleanly_holdLeg payload)
  | unholdLeg tag payload => exact lineEvent_request tag 0x16#8 (answersCleanly_unholdLeg payload)
  | isolateLeg tag payload => exact lineEvent_request tag 0x17#8 (answersCleanly_isolateLeg payload)
  | rosterPut tag payload => exact lineEvent_request tag 0x20#8 (answersCleanly_rosterPut payload)
  | rosterRemove tag payload => exact lineEvent_request tag 0x21#8 (answersCleanly_rosterRemove payload)
  | rosterRead tag payload => exact lineEvent_request tag 0x22#8 (answersCleanly_rosterRead payload)
  | verdict tag payload => exact lineEvent_request tag 0x23#8 (answersCleanly_verdict payload)
  | candidateRead tag payload => exact lineEvent_request tag 0x24#8 (answersCleanly_candidateRead payload)
  | setActivation tag payload => exact lineEvent_request tag 0x30#8 (answersCleanly_setActivation payload)
  | activationRead tag payload => exact lineEvent_request tag 0x31#8 (answersCleanly_activationRead payload)
  | dropSilence tag payload => exact lineEvent_request tag 0x32#8 (answersCleanly_dropSilence payload)
  | dropResume tag payload => exact lineEvent_request tag 0x33#8 (answersCleanly_dropResume payload)
  | dropRetire tag payload => exact lineEvent_request tag 0x34#8 (answersCleanly_dropRetire payload)
  | dropRead tag payload => exact lineEvent_request tag 0x35#8 (answersCleanly_dropRead payload)
  | calLoad tag payload => exact lineEvent_request tag 0x38#8 (answersCleanly_calLoad payload)
  | calRead tag payload => exact lineEvent_request tag 0x39#8 (answersCleanly_calRead payload)
  | unknownRequest tag code payload => exact lineEvent_unknownRequest tag code payload
  | lineBusy tag code payload => exact lineEvent_lineBusy tag code payload
  | requestDiscardedResetPending tag code payload => exact lineEvent_requestDiscardedResetPending tag code payload
  | frameDiscarded bytes => exact lineEvent_frameDiscarded bytes
  | replyOrNoticeFrameDropped control tag code payload =>
    exact lineEvent_replyOrNoticeFrameDropped control tag code payload
  | frameTimeout => exact .of_holds State.holdsLine_hunt
  | frameTransmitted railMv => exact .of_holds fun s => s.holdsLine_sent railMv
  | characterReceived byte => exact .of_holds fun s => s.holdsLine_receive byte
  | resetPinAsserted => cases h
  | powerApplied => cases h
  | leaveReset pinReleased railMv => cases h
  | railSag => exact lineEvent_railSag
  | railRecovery => exact lineEvent_railRecovery
  | brownout => cases h
  | cycleBoundary => exact .of_keeps State.keepsLine_boundary
  | offsetFieldExpiry leg drop => exact lineEvent_offsetFieldExpiry leg drop
  | launchFieldExpiry leg drop => exact lineEvent_launchFieldExpiry leg drop
  | darkOffsetExpiry leg range => exact lineEvent_darkOffsetExpiry leg range
  | candidateLapsed tag => exact lineEvent_candidateLapsed tag
  | holdExpiry leg => exact lineEvent_holdExpiry leg
  | settleComplete => exact lineEvent_settleComplete
  | recoveryComplete => exact lineEvent_recoveryComplete
  | grantedBurstVerdict leg look => exact lineEvent_grantedBurstVerdict leg look
  | announceDelimiterFound leg a p light rivals => exact lineEvent_announceDelimiterFound leg a p light rivals
  | garbled leg what => exact lineEvent_garbled leg what
  | announceJudgementComplete leg a content => exact lineEvent_announceJudgementComplete leg a content
  | windowScanEnd leg => exact lineEvent_windowScanEnd leg
  | calendarClose leg lit => exact lineEvent_calendarClose leg lit
  | sampleIntegrationStart leg => exact lineEvent_sampleIntegrationStart leg
  | sampleResult code => exact lineEvent_sampleResult code
  | calibrationInstant => exact lineEvent_calibrationInstant
  | calibrationResult code light => exact lineEvent_calibrationResult code light

/-- A command that acts in reset holds the part in reset, leaves it waiting there, or leaves reset (R174, R175). -/
theorem exec_actsInReset {c : Instr} (h : actsInReset c = true) (s : State) :
    ∃ t, exec c s = .next t ∧ t.pending = s.pending ∧ (s.iface.Sound → t.iface.Sound) := by
  have hreset : Interface.reset.Sound := (Interface.left_orderly .power).sound_arbitrate
  cases c with
  | resetPinAsserted => exact ⟨_, rfl, rfl, fun _ => hreset⟩
  | powerApplied => exact ⟨_, rfl, rfl, fun _ => hreset⟩
  | brownout => exact ⟨_, rfl, rfl, fun _ => hreset⟩
  | leaveReset pinReleased railMv =>
    refine ⟨_, rfl, ?_⟩
    split
    · exact ⟨rfl, id⟩
    · dsimp only
      split
      · exact ⟨rfl, id⟩
      · exact ⟨rfl, fun _ => State.leaveReset_sound _ _ _⟩
  | _ => cases h

/-- Every command answers a next state, with the queue as it stands and the interface sound when it was. -/
theorem exec_next (c : Instr) (s : State) :
    ∃ t, exec c s = .next t ∧ t.pending = s.pending ∧ (s.iface.Sound → t.iface.Sound) := by
  cases hc : actsInReset c with
  | true => exact exec_actsInReset hc s
  | false =>
    obtain ⟨act, hact, hexec⟩ := exec_lineEvent hc
    by_cases hreset : s.inReset = none
    · refine ⟨_, (hexec s).trans (event_alive act hreset), (hact s).pending, fun h => ?_⟩
      exact ((hact s).orderly h.orderly).sound_arbitrate
    · exact ⟨s, (hexec s).trans (event_inReset act hreset), rfl, id⟩

end Sys2Proof.Machine

open Sys2Proof Sys2Proof.Machine

/-- Settles O56: the command at the front of the queue leaves the interface sound, which reads nothing of the queue. -/
theorem everyStepKeepsTheInterface : Obligations.EveryStepKeepsTheInterface := by
  unfold Obligations.EveryStepKeepsTheInterface
  intro s t h ht
  unfold step at ht
  split at ht
  · exact Host.Outcome.next.inj ht ▸ h
  · next c rest _ =>
    obtain ⟨u, hu, -, hsound⟩ := exec_next c { s with pending := rest }
    exact Host.Outcome.next.inj (hu.symm.trans ht) ▸ hsound h

/-- Settles O2: a command outside the resets is an event, which does nothing in reset and keeps the queue. -/
theorem everyCommandCompletes : Obligations.EveryCommandCompletes := by
  unfold Obligations.EveryCommandCompletes
  refine ⟨fun c s => ?_, fun c s hreset hc => ?_⟩
  · obtain ⟨t, ht, hpending, -⟩ := exec_next c s
    exact ⟨t, ht, hpending⟩
  · obtain ⟨act, -, hexec⟩ := exec_lineEvent hc
    exact (hexec s).trans (event_inReset act hreset)
end

section
/-! SUPPORT. Request frames by their code (R167, R168, R173): the command of a frame is its request taken, and a payload
of a length that its code does not allow is not read. -/

namespace Sys2Proof.Machine

/-! ## The command of a request frame (R168) -/

theorem commandOf_unknown {code : Byte} (h : code ∉ Config.requestCodes) (tag : Byte) (payload : List Byte) :
    commandOf tag code payload = .unknownRequest tag code payload := by
  unfold commandOf
  split
  on_goal 25 => rfl
  all_goals exact absurd (by decide) h

theorem answerFor_unknown {code : Byte} (h : code ∉ Config.requestCodes) (payload : List Byte) :
    answerFor code payload = refuse .unknownRequest := by
  unfold answerFor
  split
  on_goal 25 => rfl
  all_goals exact absurd (by decide) h

/-- Effects that agree in a state make the same event of it. -/
theorem event_congr {act act' : State → State} {s : State} (h : act s = act' s) : event act s = event act' s := by
  rw [event, event, h]

theorem exec_unknownRequest {code : Byte} (h : code ∉ Config.requestCodes) (tag : Byte) (payload : List Byte)
    (s : State) :
    exec (.unknownRequest tag code payload) s = event (frameRequest tag code (refuse .unknownRequest)) s :=
  event_congr (act := fun s =>
    if Config.requestCodes.contains code then s else frameRequest tag code (refuse .unknownRequest) s)
    (if_neg (by simpa using h))

/-- The command of a request frame takes the request of its code, whether that is a request code or not. -/
theorem exec_commandOf (tag code : Byte) (payload : List Byte) (s : State) :
    exec (commandOf tag code payload) s = event (frameRequest tag code (answerFor code payload)) s := by
  by_cases hcode : code ∈ Config.requestCodes
  · fin_cases hcode <;> rfl
  · rw [commandOf_unknown hcode, answerFor_unknown hcode, exec_unknownRequest hcode]

/-! ## Payload lengths (R168, R177) -/

/-- A form that reads no payload but of the lengths given. -/
def ReadsLengths {α : Type} (parse : List Byte → Option α) (lengths : List Nat) : Prop :=
  ∀ payload, payload.length ∉ lengths → parse payload = none

theorem ReadsLengths.malformed {α : Type} {parse : List Byte → Option α} {lengths : List Nat}
    (h : ReadsLengths parse lengths) {payload : List Byte} (hlength : payload.length ∉ lengths)
    (act : α → State → Answer) (s : State) : parsed parse act payload s = refuse .malformed s :=
  parsed_none parse act (h payload hlength) s

theorem readsLengths_empty : ReadsLengths parseEmpty [0] := by
  intro payload h
  unfold parseEmpty
  split
  · exact absurd (List.mem_singleton_self _) h
  · rfl

theorem readsLengths_byte : ReadsLengths parseByte [1] := by
  intro payload h
  unfold parseByte
  split
  · exact absurd (List.mem_singleton_self _) h
  · rfl

theorem readsLengths_choice : ReadsLengths parseChoice [1] := by
  intro payload h
  unfold parseChoice
  split
  · exact absurd (List.mem_singleton_self _) h
  · rfl

theorem readsLengths_setup : ReadsLengths parseSetup [17] := by
  intro payload h
  unfold parseSetup
  split
  · exact absurd (List.mem_singleton_self _) h
  · rfl

theorem readsLengths_legMuster : ReadsLengths parseLegMuster [2] := by
  intro payload h
  unfold parseLegMuster
  split
  · exact absurd (List.mem_singleton_self _) h
  · rfl

theorem readsLengths_hold : ReadsLengths parseHold [3] := by
  intro payload h
  unfold parseHold
  split
  · exact absurd (List.mem_singleton_self _) h
  · rfl

theorem readsLengths_rosterPut : ReadsLengths parseRosterPut [14] := by
  intro payload h
  unfold parseRosterPut
  split
  · exact absurd (List.mem_singleton_self _) h
  · rfl

theorem readsLengths_tag : ReadsLengths parseTag [8] := by
  intro payload h
  unfold parseTag
  split
  · exact absurd (List.mem_singleton_self _) h
  · rfl

theorem readsLengths_verdict : ReadsLengths parseVerdict [14] := by
  intro payload h
  unfold parseVerdict
  split
  · exact absurd (List.mem_singleton_self _) h
  · rfl

theorem readsLengths_activation : ReadsLengths parseActivation [9] := by
  intro payload h
  unfold parseActivation
  split
  · exact absurd (List.mem_singleton_self _) h
  · rfl

theorem readsLengths_drop : ReadsLengths parseDrop [2] := by
  intro payload h
  unfold parseDrop
  split
  · exact absurd (List.mem_singleton_self _) h
  · rfl

/-- After a choice byte a tag is read from 8 bytes alone. -/
theorem readsLengths_keyTag {c : Byte} {rest : List Byte} (h : (c :: rest).length ≠ 9) :
    (if c = 1#8 then (parseTag rest).map EntryKey.tag else none) = none := by
  rw [readsLengths_tag rest fun hmem => h (congrArg (· + 1) (List.mem_singleton.mp hmem))]
  exact ite_self _

theorem readsLengths_rosterKey : ReadsLengths parseRosterKey [3, 9] := by
  intro payload h
  unfold parseRosterKey
  split
  · exact absurd List.mem_cons_self h
  · exact readsLengths_keyTag fun hlength => h (hlength ▸ List.mem_cons_of_mem _ List.mem_cons_self)
  · rfl

theorem readsLengths_candidateKey : ReadsLengths parseCandidateKey [2, 9] := by
  intro payload h
  unfold parseCandidateKey
  split
  · exact absurd List.mem_cons_self h
  · exact readsLengths_keyTag fun hlength => h (hlength ▸ List.mem_cons_of_mem _ List.mem_cons_self)
  · rfl

theorem readsLengths_calLoad : ReadsLengths parseCalLoad [19] := by
  intro payload h
  unfold parseCalLoad
  split
  · exact if_neg fun hlength => h (List.mem_singleton.mpr (congrArg (· + 1) hlength))
  · rfl

/-- A request of a length that its code does not allow is MALFORMED, whatever else it carries (R168). -/
theorem answerFor_malformed {code : Byte} (hcode : code ∈ Config.requestCodes) {payload : List Byte}
    (hlength : payload.length ∉ payloadLengths code) (s : State) :
    answerFor code payload s = refuse .malformed s := by
  fin_cases hcode
  · show answerStatus payload s = _
    exact readsLengths_empty.malformed hlength _ s
  · show answerReset payload s = _
    exact readsLengths_empty.malformed hlength _ s
  · show answerBias payload s = _
    exact readsLengths_choice.malformed hlength _ s
  · show answerSetupLeg payload s = _
    exact readsLengths_setup.malformed hlength _ s
  · show answerStartLeg payload s = _
    exact readsLengths_byte.malformed hlength _ s
  · show answerStopLeg payload s = _
    exact readsLengths_byte.malformed hlength _ s
  · show answerLegMuster payload s = _
    exact readsLengths_legMuster.malformed hlength _ s
  · show answerLegRead payload s = _
    exact readsLengths_byte.malformed hlength _ s
  · show answerHoldLeg payload s = _
    exact readsLengths_hold.malformed hlength _ s
  · show answerUnholdLeg payload s = _
    exact readsLengths_byte.malformed hlength _ s
  · show answerIsolateLeg payload s = _
    exact readsLengths_byte.malformed hlength _ s
  · show answerRosterPut payload s = _
    exact readsLengths_rosterPut.malformed hlength _ s
  · show answerRosterRemove payload s = _
    exact readsLengths_tag.malformed hlength _ s
  · show answerRosterRead payload s = _
    exact readsLengths_rosterKey.malformed hlength _ s
  · show answerVerdict payload s = _
    exact readsLengths_verdict.malformed hlength _ s
  · show answerCandidateRead payload s = _
    exact readsLengths_candidateKey.malformed hlength _ s
  · show answerSetActivation payload s = _
    exact readsLengths_activation.malformed hlength _ s
  · show answerActivationRead payload s = _
    exact readsLengths_empty.malformed hlength _ s
  · show answerDropSilence payload s = _
    exact readsLengths_drop.malformed hlength _ s
  · show answerDropResume payload s = _
    exact readsLengths_drop.malformed hlength _ s
  · show answerDropRetire payload s = _
    exact readsLengths_drop.malformed hlength _ s
  · show answerDropRead payload s = _
    exact readsLengths_drop.malformed hlength _ s
  · show answerCalLoad payload s = _
    exact readsLengths_calLoad.malformed hlength _ s
  · show answerCalRead payload s = _
    exact readsLengths_byte.malformed hlength _ s

/-! ## STATUS (R172) -/

/-- The values that STATUS reports of the state in which it acts: its own place is occupied. -/
theorem State.took_statusValues (s : State) (tag : Byte) :
    (s.took tag 0x01#8).statusValues =
      u8 (causeNo s.iface.cause) ++ u8 (biasNo s.bias.state) ++ u8 (railNo s.rail.state) ++ flagByte s.rail.latch
        ++ Quad.all.flatMap (fun l => u8 (legStateNo (s.leg l).state) ++ flagByte (s.leg l).startPending
            ++ flagByte (s.leg l).finalPending)
        ++ u16 (usedCount s.roster) ++ u8 s.candidates.length ++ u8 s.iface.notices.length
        ++ u8 (s.iface.buffer.length + 1) := by
  have hplaces : (s.took tag 0x01#8).iface.buffer.length = s.iface.buffer.length + 1 := List.length_append
  rw [State.statusValues, hplaces]
  simp only [Quad.all, List.flatMap_cons, List.flatMap_nil, List.append_nil, List.append_assoc]
  rfl

end Sys2Proof.Machine

open Sys2Proof Sys2Proof.Machine

/-- Settles O3: no form reads a payload of another length, and every answer but DONE is a refusal. -/
theorem aRefusedRequestChangesNothing : Obligations.ARefusedRequestChangesNothing := by
  unfold Obligations.ARefusedRequestChangesNothing
  refine ⟨fun tag code payload s htakes hcode hlength => ?_, fun code payload s hrefused =>
    (answersCleanly_answerFor code payload s).state_eq hrefused⟩
  rw [exec_commandOf]
  exact event_refused htakes (answerFor_malformed hcode hlength _)

/-- Settles O4: STATUS acts in the state that its own place leaves, and moves the sag latch alone. -/
theorem statusReportsThePart : Obligations.StatusReportsThePart := by
  unfold Obligations.StatusReportsThePart
  intro tag s htakes
  rw [← s.took_statusValues tag]
  exact event_answered (t := (s.took tag 0x01#8).setRail { s.rail with latch := false }) htakes rfl rfl

/-- Settles O5: RESET moves the mark alone. -/
theorem resetRequestMarksAReset : Obligations.ResetRequestMarksAReset := by
  unfold Obligations.ResetRequestMarksAReset
  intro tag s htakes
  exact event_answered (i := { s.iface with resetPending := true })
    (t := (s.took tag 0x02#8).setIface { (s.took tag 0x02#8).iface with resetPending := true }) htakes rfl rfl

/-- Settles O29: the command of the frame is its request, and the event of its own finds its condition met. -/
theorem requestFramesAreTurnedAway : Obligations.RequestFramesAreTurnedAway := by
  unfold Obligations.RequestFramesAreTurnedAway
  refine fun tag code payload s hreset => ⟨fun htakes hcode => ?_, fun hpending hfull hroom t ht => ?_,
    fun hpending t ht => ?_⟩
  · rw [exec_unknownRequest hcode]
    exact event_refused htakes rfl
  · have hbusy (act : State → Answer) : event (frameRequest tag code act) s = .next t :=
      ht ▸ event_request_busy tag code act hreset hpending hfull hroom
    have hdue : exec (.lineBusy tag code payload) s = event (frameRequest tag code (refuse .lineBusy)) s :=
      event_congr (if_pos ⟨hfull, hpending⟩)
    exact ⟨hdue.trans (hbusy _), (exec_commandOf tag code payload s).trans (hbusy _)⟩
  · have hdue : exec (.requestDiscardedResetPending tag code payload) s = event State.hunt s :=
      event_congr (if_pos hpending)
    subst ht
    exact ⟨hdue.trans (event_alive _ hreset),
      (exec_commandOf tag code payload s).trans (event_request_pending tag code _ hreset hpending)⟩
end

section
/-! SUPPORT. The receive side byte by byte (R165, R166, R176): what a byte makes of a frame that is being received, the
characters of a whole frame, and the bytes of a discarded one read again. -/

namespace Sys2Proof.Machine

/-! ## The bytes of a frame -/

/-- A frame whose control byte has a frame kind goes on. -/
theorem readFrame_control {c : Byte} (h : c &&& 3#8 ≠ 0#8) : readFrame [c] = .goOn (some [c]) := if_neg h

theorem readFrame_noKind {c : Byte} (h : c &&& 3#8 = 0#8) : readFrame [c] = .discarded [c] := if_pos h

/-- A frame whose length byte is 240 or less goes on until its CRC has come. -/
theorem readFrame_body {c t k len : Byte} {rest : List Byte} (hlen : len.toNat ≤ 240)
    (hrest : rest.length < len.toNat + 2) :
    readFrame (c :: t :: k :: len :: rest) = .goOn (some (c :: t :: k :: len :: rest)) := by
  unfold readFrame
  exact (if_neg (Nat.not_lt.mpr hlen)).trans (if_pos hrest)

theorem readFrame_tooLong {c t k len : Byte} (hlen : 240 < len.toNat) :
    readFrame [c, t, k, len] = .discarded [c, t, k, len] :=
  if_pos hlen

/-- A frame of 240 payload bytes at the most, with as many bytes as its length byte says and two besides, is complete
exactly when those two are its CRC. -/
theorem readFrame_whole {c t k len : Byte} {payload crc : List Byte} (hlen : len.toNat ≤ 240)
    (hpayload : payload.length = len.toNat) (hcrc : crc.length = 2) :
    readFrame (c :: t :: k :: len :: (payload ++ crc)) =
      if crcBytes (c :: t :: k :: len :: payload) = crc then .complete (c :: t :: k :: len :: (payload ++ crc))
      else .discarded (c :: t :: k :: len :: (payload ++ crc)) := by
  have hall : ¬ (payload ++ crc).length < len.toNat + 2 := by
    rw [List.length_append, hpayload, hcrc]
    exact Nat.lt_irrefl _
  have hbody : (c :: t :: k :: len :: (payload ++ crc)).take (4 + len.toNat) = c :: t :: k :: len :: payload := by
    rw [← hpayload, show 4 + payload.length = (c :: t :: k :: len :: payload).length from Nat.add_comm _ _]
    exact List.take_left
  have hend : (c :: t :: k :: len :: (payload ++ crc)).drop (4 + len.toNat) = crc := by
    rw [← hpayload, show 4 + payload.length = (c :: t :: k :: len :: payload).length from Nat.add_comm _ _]
    exact List.drop_left
  unfold readFrame
  refine ((if_neg (Nat.not_lt.mpr hlen)).trans (if_neg hall)).trans ?_
  rw [hbody, hend]

/-- A frame that holds `held` goes on through all of the bytes that come next. -/
def GoesOn : List Byte → List Byte → Prop
  | _, [] => True
  | held, b :: rest => readFrame (held ++ [b]) = .goOn (some (held ++ [b])) ∧ GoesOn (held ++ [b]) rest

/-- The payload and the CRC, up to its second byte. -/
theorem goesOn_body {c t k len : Byte} (hlen : len.toNat ≤ 240) {got rest : List Byte}
    (hrest : got.length + rest.length < len.toNat + 2) : GoesOn (c :: t :: k :: len :: got) rest := by
  induction rest generalizing got with
  | nil => trivial
  | cons b rest ih =>
    have hmore : (got ++ [b]).length + rest.length < len.toNat + 2 := by
      rw [List.length_append, List.length_singleton, Nat.add_assoc, Nat.add_comm 1]
      exact hrest
    exact ⟨readFrame_body hlen (Nat.lt_of_le_of_lt (Nat.le_add_right _ _) hmore), ih hmore⟩

/-- The bytes before the length byte. -/
theorem goesOn_header {c : Byte} (hkind : c &&& 3#8 ≠ 0#8) (t k : Byte) : GoesOn [] [c, t, k] :=
  ⟨readFrame_control hkind, rfl, rfl, trivial⟩

/-- A frame with a frame kind and a length of 240 or less, up to the second byte of its CRC. -/
theorem goesOn_frame {c len : Byte} (hkind : c &&& 3#8 ≠ 0#8) (t k : Byte) (hlen : len.toNat ≤ 240) {rest : List Byte}
    (hrest : rest.length < len.toNat + 2) : GoesOn [] (c :: t :: k :: len :: rest) :=
  ⟨readFrame_control hkind, rfl, rfl, readFrame_body hlen (Nat.succ_pos _),
    goesOn_body hlen (by rwa [List.length_nil, Nat.zero_add])⟩

/-- A frame that goes on up to its last byte is discarded there. -/
theorem discardsAt_last {held bytes : List Byte} (hgoes : GoesOn held bytes) {b : Byte}
    (hlast : readFrame (held ++ bytes ++ [b]) = .discarded (held ++ bytes ++ [b])) :
    discardsAt held (bytes ++ [b]) = true := by
  induction bytes generalizing held with
  | nil =>
    rw [List.append_nil] at hlast
    simp only [List.nil_append, discardsAt, hlast, List.isEmpty_nil]
  | cons a rest ih =>
    obtain ⟨hgoOn, hrest⟩ := hgoes
    simp only [List.cons_append, discardsAt, hgoOn]
    refine ih hrest ?_
    rwa [List.append_assoc held, List.singleton_append]

/-- Each of the three ways to be discarded is at the frame's last byte (R166). -/
theorem DiscardedFrame.discardsAt {bytes : List Byte} (h : DiscardedFrame bytes) : discardsAt [] bytes = true := by
  rcases h with ⟨c, rfl, hkind⟩ | ⟨c, t, k, len, rfl, hkind, hlen⟩ |
    ⟨c, t, k, len, payload, crc, rfl, hkind, hlen, hpayload, hcrc, hwrong⟩
  · exact discardsAt_last (bytes := []) trivial (readFrame_noKind hkind)
  · exact discardsAt_last (goesOn_header hkind t k) (readFrame_tooLong hlen)
  · have hwhole := (readFrame_whole (c := c) (t := t) (k := k) hlen hpayload hcrc).trans (if_neg (Ne.symm hwrong))
    obtain ⟨c1, c0, rfl⟩ := List.length_eq_two.mp hcrc
    have hsplit : payload ++ [c1, c0] = payload ++ [c1] ++ [c0] := by rw [List.append_assoc]; rfl
    rw [hsplit] at hwhole
    have hgoes : GoesOn [] (c :: t :: k :: len :: (payload ++ [c1])) := by
      refine goesOn_frame hkind t k hlen ?_
      rw [List.length_append, hpayload]
      exact Nat.lt_succ_self _
    have hat := discardsAt_last hgoes hwhole
    rwa [List.append_assoc, show [c, t, k, len] ++ (payload ++ [c1, c0]) =
      c :: t :: k :: len :: (payload ++ [c1]) ++ [c0] by rw [hsplit]; rfl]

/-! ## One byte -/

section Receive

variable {s : State} {b : Byte} {bytes : List Byte} {rx : Option (List Byte)}

theorem State.receive_goOn (h : readByte s.iface.rx b = .goOn rx) :
    s.receive b = s.setIface { s.iface with rx := rx } := by
  simp only [State.receive, State.readBytes, h]

theorem State.receive_complete (h : readByte s.iface.rx b = .complete bytes) :
    s.receive b = (s.hunt.deliverFrame bytes).arbitrate := by
  simp only [State.receive, State.readBytes, h]

theorem State.receive_discarded (h : readByte s.iface.rx b = .discarded bytes) :
    s.receive b = s.hunt.rescan bytes.length bytes := by
  simp only [State.receive, State.readBytes, h, List.append_nil]

theorem exec_characterReceived (b : Byte) (hreset : s.inReset = none) :
    exec (.characterReceived b) s = .next (s.receive b).arbitrate :=
  event_alive (fun s => s.receive b) hreset

theorem exec_characterReceived_goOn (hreset : s.inReset = none) (h : readByte s.iface.rx b = .goOn rx) :
    exec (.characterReceived b) s = .next { s with iface := Interface.arbitrate { s.iface with rx := rx } } := by
  rw [exec_characterReceived b hreset, State.receive_goOn h]
  rfl

/-- The frame completes, and the arbiter has nothing left to do once it is delivered. -/
theorem exec_characterReceived_complete (hreset : s.inReset = none) (h : readByte s.iface.rx b = .complete bytes) :
    exec (.characterReceived b) s = .next (s.hunt.deliverFrame bytes).arbitrate := by
  rw [exec_characterReceived b hreset, State.receive_complete h]
  exact congrArg (fun i => Host.Outcome.next (State.setIface _ i)) (Interface.arbitrate_arbitrate _)

end Receive

theorem Interface.setRx_self {i : Interface} {rx : Option (List Byte)} (h : i.rx = rx) : { i with rx := rx } = i := by
  subst h
  rfl

/-- The arbiter does not look at the receive side. -/
theorem Interface.arbitrate_setRx (i : Interface) (rx : Option (List Byte)) :
    Interface.arbitrate { i with rx := rx } = { i.arbitrate with rx := rx } := by
  obtain ⟨_, _, busy, replies, notices, _, lineOut, _, _⟩ := i
  cases lineOut with
  | some x => rfl
  | none =>
    cases busy with
    | cons b bs => rfl
    | nil =>
      cases replies with
      | cons r rs => rfl
      | nil => cases notices <;> rfl

/-! ## The characters of a frame -/

/-- The state with a frame being received, or none. -/
def State.receiving (s : State) (rx : Option (List Byte)) : State := s.setIface { s.iface with rx := rx }

theorem receiveAll_cons {s t : State} {b : Byte} (h : exec (.characterReceived b) s = .next t) (bytes : List Byte) :
    receiveAll (b :: bytes) s = receiveAll bytes t := by
  rw [receiveAll, List.foldl_cons, h]
  rfl

theorem receiveAll_append (bytes more : List Byte) (s : State) :
    receiveAll (bytes ++ more) s = receiveAll more (receiveAll bytes s) := List.foldl_append

section Characters

variable {s : State} (hreset : s.inReset = none) (hline : s.iface.arbitrate = s.iface)
include hreset hline

/-- A character with which the frame goes on changes nothing else, where the arbiter has nothing to do. -/
theorem exec_characterReceived_receiving {rx rx' : Option (List Byte)} {b : Byte} (h : readByte rx b = .goOn rx') :
    exec (.characterReceived b) (s.receiving rx) = .next (s.receiving rx') := by
  rw [exec_characterReceived_goOn (s := s.receiving rx) hreset h]
  refine congrArg (fun i => Host.Outcome.next (s.setIface i)) ?_
  exact (s.iface.arbitrate_setRx rx').trans (by rw [hline])

theorem receiveAll_goesOn {bytes held : List Byte} (hgoes : GoesOn held bytes) :
    receiveAll bytes (s.receiving (some held)) = s.receiving (some (held ++ bytes)) := by
  induction bytes generalizing held with
  | nil =>
    rw [List.append_nil]
    rfl
  | cons b rest ih =>
    obtain ⟨hgoOn, hrest⟩ := hgoes
    have hexec := exec_characterReceived_receiving hreset hline (rx := some held) hgoOn
    rw [receiveAll_cons hexec, ih hrest, List.append_assoc]
    rfl

/-- The characters of a frame from its sync to the byte that completes it deliver it. -/
theorem receiveAll_complete (hrx : s.iface.rx = none) {bytes : List Byte} (hgoes : GoesOn [] bytes) {b : Byte}
    (hwhole : readFrame (bytes ++ [b]) = .complete (bytes ++ [b])) :
    receiveAll (Config.syncByte :: (bytes ++ [b])) s = (s.hunt.deliverFrame (bytes ++ [b])).arbitrate := by
  have hhunting : s = s.receiving none := by rw [State.receiving, Interface.setRx_self hrx]; rfl
  have hsync : exec (.characterReceived Config.syncByte) s = .next (s.receiving (some [])) := by
    have hexec := exec_characterReceived_receiving hreset hline (rx := none) (b := Config.syncByte) rfl
    rwa [← hhunting] at hexec
  have hlast := exec_characterReceived_complete (s := s.receiving (some bytes)) (b := b) hreset hwhole
  rw [receiveAll_cons hsync, receiveAll_append, receiveAll_goesOn hreset hline hgoes]
  exact receiveAll_cons hlast []

end Characters

/-- A frame of a request is delivered to the request of its code (R166). -/
theorem State.deliverFrame_request {control : Byte} (h : control &&& 3#8 = 1#8) {tag code len : Byte}
    {payload : List Byte} (hlen : payload.length = len.toNat) (crc : List Byte) (s : State) :
    s.deliverFrame (control :: tag :: code :: len :: (payload ++ crc)) =
      takeRequest tag code (answerFor code payload) s := by
  have hpayload : (payload ++ crc).take len.toNat = payload := by rw [← hlen]; exact List.take_left
  exact (if_pos h).trans (by rw [hpayload])

/-! ## Bytes read again -/

/-- The bytes of the frame being received, its sync among them. -/
def frameLength (rx : Option (List Byte)) : Nat := rx.elim 0 fun held => held.length + 1

theorem frameLength_goOn {rx rx' : Option (List Byte)} {b : Byte} (h : readByte rx b = .goOn rx') :
    frameLength rx' ≤ frameLength rx + 1 := by
  cases rx with
  | none =>
    have hheld : (if b = Config.syncByte then some [] else none) = rx' := Reading.goOn.inj h
    rw [← hheld]
    split
    · exact Nat.le_refl _
    · exact Nat.zero_le _
  | some held =>
    rw [readFrame_goOn h]
    exact Nat.le_of_eq (congrArg (· + 1) List.length_append)

/-- A frame discarded is read again without its sync. -/
theorem length_discarded {rx : Option (List Byte)} {b : Byte} {bytes : List Byte}
    (h : readByte rx b = .discarded bytes) : bytes.length = frameLength rx := by
  cases rx with
  | none => cases h
  | some held =>
    rw [readFrame_discarded h]
    exact List.length_append

/-- A request that is taken leaves the receive side as it is. -/
theorem takeRequest_rx (tag code : Byte) {act : State → Answer} (hact : AnswersCleanly act) (s : State) :
    (takeRequest tag code act s).iface.rx = s.iface.rx := by
  unfold takeRequest
  split
  · rfl
  · split
    · split <;> rfl
    · exact (hact _).keepsLine.iface.rx

theorem State.deliverFrame_rx (s : State) (bytes : List Byte) : (s.deliverFrame bytes).iface.rx = s.iface.rx := by
  unfold State.deliverFrame
  split
  · split
    · exact takeRequest_rx _ _ (answersCleanly_answerFor _ _) s
    · rfl
  · rfl

/-- The receive side is HUNTING after a frame. -/
theorem State.delivered_rx (s : State) (bytes : List Byte) :
    (s.hunt.deliverFrame bytes).arbitrate.iface.rx = none := by
  obtain ⟨-, hrx, -, -⟩ := (s.hunt.deliverFrame bytes).iface.arbitrate_frame
  exact hrx.trans (s.hunt.deliverFrame_rx bytes)

section Rescan

variable {s : State} {b : Byte} {bytes : List Byte} {rx : Option (List Byte)} (n : Nat) (rest : List Byte)

theorem State.rescan_goOn (h : readByte s.iface.rx b = .goOn rx) :
    State.rescan (n + 1) (b :: rest) s = State.rescan (n + 1) rest (s.setIface { s.iface with rx := rx }) := by
  simp only [State.rescan, State.readBytes, h]

theorem State.rescan_complete (h : readByte s.iface.rx b = .complete bytes) :
    State.rescan (n + 1) (b :: rest) s = State.rescan (n + 1) rest (s.hunt.deliverFrame bytes).arbitrate := by
  simp only [State.rescan, State.readBytes, h]

theorem State.rescan_discarded (h : readByte s.iface.rx b = .discarded bytes) :
    State.rescan (n + 1) (b :: rest) s = State.rescan n (bytes ++ rest) s.hunt := by
  simp only [State.rescan, State.readBytes, h]

end Rescan

/-- Bytes read again are received one after another. The readings left are as many as the bytes, those of the frame
being received among them: a frame that is discarded is read again without its sync. -/
theorem State.rescan_eq_receive (n : Nat) (bytes : List Byte) (s : State)
    (hn : frameLength s.iface.rx + bytes.length ≤ n) : State.rescan n bytes s = bytes.foldl State.receive s := by
  induction n using Nat.strong_induction_on generalizing bytes s with
  | _ n ihn =>
    cases n with
    | zero =>
      obtain rfl := List.eq_nil_of_length_eq_zero (Nat.eq_zero_of_add_eq_zero_left (Nat.le_zero.mp hn))
      rfl
    | succ n =>
      induction bytes generalizing s with
      | nil => rfl
      | cons b rest ih =>
        rw [List.length_cons] at hn
        rw [List.foldl_cons]
        cases hread : readByte s.iface.rx b with
        | goOn rx =>
          have hlength := frameLength_goOn hread
          rw [State.rescan_goOn n rest hread, State.receive_goOn hread]
          refine ih _ ?_
          show frameLength rx + rest.length ≤ n + 1
          omega
        | complete frame =>
          rw [State.rescan_complete n rest hread, State.receive_complete hread]
          refine ih _ ?_
          rw [State.delivered_rx, show frameLength none = 0 from rfl]
          omega
        | discarded again =>
          have hlength := length_discarded hread
          have hhunting : frameLength s.hunt.iface.rx = 0 := rfl
          rw [State.rescan_discarded n rest hread, State.receive_discarded hread,
            ihn n (Nat.lt_succ_self n) _ _ (by rw [hhunting, List.length_append]; omega),
            ihn again.length (by omega) _ _ (by rw [hhunting, Nat.zero_add]), List.foldl_append]

/-! ## The frame that the line takes next (R170, R171) -/

section Arbitrate

variable {i : Interface} (hidle : i.lineOut = none)
include hidle

theorem Interface.arbitrate_busy {b : FrameId} {bs : List FrameId} (hbusy : i.busy = b :: bs) :
    i.arbitrate = { i with busy := bs, lineOut := some ⟨.busyReply b, i.lost⟩, lost := false } := by
  simp only [Interface.arbitrate, hidle, hbusy, Interface.send]

theorem Interface.arbitrate_reply {r : Reply} {rs : List Reply} (hbusy : i.busy = []) (hreplies : i.replies = r :: rs) :
    i.arbitrate = { i with replies := rs, lineOut := some ⟨.reply r, i.lost⟩, lost := false } := by
  simp only [Interface.arbitrate, hidle, hbusy, hreplies, Interface.send]

theorem Interface.arbitrate_notice {n : Notice} {ns : List Notice} (hbusy : i.busy = []) (hreplies : i.replies = [])
    (hnotices : i.notices = n :: ns) :
    i.arbitrate = { i with notices := ns, lineOut := some ⟨.notice n, i.lost⟩, lost := false } := by
  simp only [Interface.arbitrate, hidle, hbusy, hreplies, hnotices, Interface.send]

theorem Interface.arbitrate_nothing (hbusy : i.busy = []) (hreplies : i.replies = []) (hnotices : i.notices = []) :
    i.arbitrate = i := by
  simp only [Interface.arbitrate, hidle, hbusy, hreplies, hnotices]

end Arbitrate

/-- The interface as a frame sent leaves it: the line idle, and a reply's place free (R167). -/
def Interface.freed (i : Interface) (frame : FrameOut) : Interface :=
  { i with
    lineOut := none,
    buffer := match frame with
      | .reply _ => i.buffer.tail
      | _ => i.buffer }

/-- A frame sent frees the line, but for the RESET reply with its reset pending. -/
theorem State.sent_freed {s : State} {x : Sending} (hline : s.iface.lineOut = some x)
    (hruns : ¬ (s.iface.resetPending = true ∧ ∃ r, x.frame = .reply r ∧ r.request = 0x02#8 ∧ r.code = .done))
    (railMv : Nat) : s.sent railMv = s.setIface (s.iface.freed x.frame) := by
  simp only [State.sent, hline]
  cases hframe : x.frame with
  | busyReply f => rfl
  | notice n => rfl
  | reply r =>
    have hnot : ¬ s.iface.resetSent r = true := fun hsent => by
      simp only [Interface.resetSent, Bool.and_eq_true, decide_eq_true_eq] at hsent
      obtain ⟨⟨hpending, hrequest⟩, hdone⟩ := hsent
      exact hruns ⟨hpending, r, hframe, hrequest, hdone⟩
    exact if_neg hnot

end Sys2Proof.Machine

open Sys2Proof Sys2Proof.Machine

/-- Settles O30: each byte is one with which the receive side goes on. -/
theorem theReceiveSideHoldsAFrame : Obligations.TheReceiveSideHoldsAFrame := by
  unfold Obligations.TheReceiveSideHoldsAFrame
  refine fun s hreset => ⟨fun b hrx hb => ?_, fun hrx => ?_, fun held b hrx hgoes => ?_, event_alive State.hunt hreset,
    fun control tag code payload hkind => ?_⟩
  · have hread : readByte s.iface.rx b = .goOn none := by
      rw [hrx]
      exact congrArg Reading.goOn (if_neg hb)
    have hexec := exec_characterReceived_goOn hreset hread
    rwa [Interface.setRx_self hrx] at hexec
  · exact exec_characterReceived_goOn hreset (by rw [hrx]; rfl)
  · refine exec_characterReceived_goOn hreset ?_
    rw [hrx]
    show readFrame (held ++ [b]) = _
    rcases hgoes with ⟨rfl, hkind⟩ | hone | htwo | ⟨hthree, hlen⟩ | ⟨c, t, k, len, rest, rfl, hlen, hrest⟩
    · exact readFrame_control hkind
    · obtain ⟨c, rfl⟩ := List.length_eq_one_iff.mp hone
      rfl
    · obtain ⟨c, t, rfl⟩ := List.length_eq_two.mp htwo
      rfl
    · obtain ⟨c, t, k, rfl⟩ := List.length_eq_three.mp hthree
      exact readFrame_body hlen (Nat.succ_pos _)
    · refine readFrame_body hlen ?_
      show (rest ++ [b]).length < len.toNat + 2
      rwa [List.length_append]
  · have hdropped : exec (.replyOrNoticeFrameDropped control tag code payload) s = event State.hunt s :=
      event_congr (if_pos hkind)
    exact hdropped.trans (event_alive State.hunt hreset)

/-- Settles O31: the frame goes on up to the second byte of its CRC, and is then delivered to the request of its code. -/
theorem charactersOfAFrameAreItsCommand : Obligations.CharactersOfAFrameAreItsCommand := by
  unfold Obligations.CharactersOfAFrameAreItsCommand
  intro control tag code payload s hreset hrx hline hkind hpayload
  generalize hlenByte : BitVec.ofNat 8 payload.length = len
  have hlength : payload.length = len.toNat := by
    rw [← hlenByte, BitVec.toNat_ofNat]
    omega
  have hlen : len.toNat ≤ 240 := hlength ▸ hpayload
  have hframe : control &&& 3#8 ≠ 0#8 := by rw [hkind]; decide
  generalize hcrc : crcBytes (control :: tag :: code :: len :: payload) = crc
  obtain ⟨c1, c0, rfl⟩ : ∃ c1 c0, crc = [c1, c0] := ⟨_, _, hcrc.symm⟩
  have hgoes : GoesOn [] (control :: tag :: code :: len :: (payload ++ [c1])) := by
    refine goesOn_frame hframe tag code hlen ?_
    rw [List.length_append, hlength]
    exact Nat.lt_succ_self _
  have hwhole := (readFrame_whole (t := tag) (k := code) hlen hlength (crc := [c1, c0]) rfl).trans (if_pos hcrc)
  have hbytes : control :: tag :: code :: len :: (payload ++ [c1, c0]) =
      control :: tag :: code :: len :: (payload ++ [c1]) ++ [c0] := by simp
  have hcharacters : frameBytes control tag code payload =
      Config.syncByte :: (control :: tag :: code :: len :: (payload ++ [c1]) ++ [c0]) := by
    rw [← hbytes, frameBytes, frameBody, hlenByte, hcrc]
    rfl
  rw [hcharacters, receiveAll_complete hreset hline hrx hgoes (hbytes ▸ hwhole), ← hbytes,
    State.deliverFrame_request hkind hlength, exec_commandOf]
  exact event_alive _ hreset

/-- Settles O32: the frame is discarded at its last byte, and its bytes are read again one after another. -/
theorem discardedBytesAreReadAfresh : Obligations.DiscardedBytesAreReadAfresh := by
  unfold Obligations.DiscardedBytesAreReadAfresh
  intro bytes s hreset hdiscarded
  have hrescan : exec (.frameDiscarded bytes) s = event (fun s => s.hunt.rescan bytes.length bytes) s :=
    event_congr (if_pos hdiscarded.discardsAt)
  rw [hrescan, event_alive _ hreset]
  exact congrArg (fun t => Host.Outcome.next t.arbitrate) (s.hunt.rescan_eq_receive bytes.length bytes (Nat.zero_add _).le)

/-- Settles O33: the frame sent frees the line, and the arbiter takes the oldest frame of the first queue in use. -/
theorem aFrameSentGivesWayToTheNext : Obligations.AFrameSentGivesWayToTheNext := by
  unfold Obligations.AFrameSentGivesWayToTheNext
  intro railMv s x free hreset hline hruns hfree
  have hidle : free.lineOut = none := by rw [hfree]
  have hsent : exec (.frameTransmitted railMv) s = .next { s with iface := free.arbitrate } := by
    have hexec := event_alive (fun s => s.sent railMv) hreset
    rw [State.sent_freed hline hruns] at hexec
    rw [hfree]
    exact hexec
  have hqueues : (free.busy, free.replies, free.notices, free.lost) =
      (s.iface.busy, s.iface.replies, s.iface.notices, s.iface.lost) := by rw [hfree]
  simp only [Prod.mk.injEq] at hqueues
  obtain ⟨hbusy, hreplies, hnotices, hlost⟩ := hqueues
  rw [← hbusy, ← hreplies, ← hnotices, ← hlost, hsent]
  refine ⟨fun b bs hb => ?_, fun r rs hb hr => ?_, fun n ns hb hr hn => ?_, fun hb hr hn => ?_⟩
  · rw [Interface.arbitrate_busy hidle hb]
  · rw [Interface.arbitrate_reply hidle hb hr]
  · rw [Interface.arbitrate_notice hidle hb hr hn]
  · rw [Interface.arbitrate_nothing hidle hb hr hn]
end
